-- ==== Sys2Proof/Word.lean ====
section
/-! DEFINITION. The words of the BK-C8: bytes, bus words, six-byte addresses, the numbers of homes, stations,
filters and binder groups, and tables with one entry for each of them. -/

namespace Sys2Proof

/-- A byte of a frame. -/
abbrev Byte := BitVec 8

/-- A word on CB_D[15:0] (section 4.10). -/
abbrev Word := BitVec 16

/-- A six-byte address; its first byte is the most significant one. -/
abbrev Addr := BitVec 48

/-- Homes 0 to 7 (R1). -/
abbrev HomeId := Fin 8

/-- Station IDs 0 to 7 (R186). -/
abbrev StationId := Fin 8

/-- Filters 0 to 7 (R44). -/
abbrev FilterId := Fin 8

/-- Binder groups 0 to 15 (R1). -/
abbrev Group := Fin 16

/-- A table with one entry for each index. -/
abbrev Tab (n : Nat) (α : Type) := Vector α n

/-- The entry of an index. -/
def Tab.at {n : Nat} {α : Type} (t : Tab n α) (i : Fin n) : α := t[i]

/-- The table with one entry replaced. -/
def Tab.put {n : Nat} {α : Type} (t : Tab n α) (i : Fin n) (x : α) : Tab n α := Vector.set t i x

/-- The table with one entry changed by a function. -/
def Tab.upd {n : Nat} {α : Type} (t : Tab n α) (i : Fin n) (f : α → α) : Tab n α := t.put i (f (t.at i))

/-- The table with every entry the same. -/
def Tab.all {n : Nat} {α : Type} (x : α) : Tab n α := Vector.replicate n x

/-- The table whose entries a function gives. -/
def Tab.make {n : Nat} {α : Type} (f : Fin n → α) : Tab n α := Vector.ofFn f

/-- Homes in index order. -/
def homeIds : List HomeId := [0, 1, 2, 3, 4, 5, 6, 7]

/-- Binder groups in number order. -/
def groupIds : List Group := [0, 1, 2, 3, 4, 5, 6, 7, 8, 9, 10, 11, 12, 13, 14, 15]

end Sys2Proof
end

