-- ==== Sys2Proof/Types.lean ====
section
/-! DEFINITION. The records and names of the manual: service states, frames, filters, notices, orders, reports,
tests, results, the configuration and the status records that replies carry. Plain data only. -/

namespace Sys2Proof

/-! ## Lines and homes (chapter 1) -/

/-- Link states a transceiver reports (R2). -/
inductive LinkState where
  | down | training | up | dormant
  deriving DecidableEq, Repr

/-- The ten service states (section 1.3). -/
inductive Service where
  | unequipped | adminDown | down | training | upFull | upLow | sleep | waking | quiet | testHeld
  deriving DecidableEq, Repr

/-- FULL, LOW and SLEEP: mode outputs (R3), return modes (R1) and grants (R168). -/
inductive Mode where
  | full | low | sleep
  deriving DecidableEq, Repr

/-- The Battery Hold Unit's requests to the Line Port Block (R7, R8). -/
inductive ModeRequest where
  | full | low | sleep | wake | withdraw | abandon
  deriving DecidableEq, Repr

/-- Reasons of upstream drops (R23). -/
inductive UpDrop where
  | length | filter | limit | critical | gatewayLost | test | admin | busLoss
  deriving DecidableEq, Repr

/-- Reasons of downstream drops (R23). -/
inductive DownDrop where
  | limit | critical | asleep | lineDown | test | admin
  deriving DecidableEq, Repr

/-- The counters of a home (R23). -/
structure HomeCounters where
  upFrames : Nat
  upBytes : Nat
  downFrames : Nat
  downBytes : Nat
  upLength : Nat
  upFilter : Nat
  upLimit : Nat
  upCritical : Nat
  upGatewayLost : Nat
  upTest : Nat
  upAdmin : Nat
  upBusLoss : Nat
  downLimit : Nat
  downCritical : Nat
  downAsleep : Nat
  downLineDown : Nat
  downTest : Nat
  downAdmin : Nat
  flaps : Nat
  wakes : Nat
  wakeFailures : Nat
  surges : Nat
  deriving DecidableEq, Repr

/-- A home record (R1). -/
structure Home where
  equipped : Bool
  tier : Nat
  group : Group
  prio : Bool
  service : Service
  ret : Option Mode
  resume : Bool
  link : LinkState
  rateUp : Nat
  rateDown : Nat
  learned : List Addr
  flaps : List Nat
  ctr : HomeCounters
  deriving DecidableEq, Repr

/-! ## Frames, filters, wake records (chapters 2 and 3) -/

/-- The class of a frame (R25). -/
inductive FrameClass where
  | expedited | ordinary
  deriving DecidableEq, Repr

/-- A frame record (R25) with the bytes its cells hold. -/
structure Frame where
  home : Option HomeId
  cls : FrameClass
  returned : Bool
  length : Nat
  bytes : List Byte
  deriving DecidableEq, Repr

/-- The direction of a filter (R44). -/
inductive Direction where
  | up | down | both
  deriving DecidableEq, Repr

/-- The action set of a filter (R44). -/
structure Actions where
  expedite : Bool
  wake : Bool
  drop : Bool
  deriving DecidableEq, Repr

/-- A filter (R44). -/
structure Filter where
  enabled : Bool
  dir : Direction
  acts : Actions
  minLen : Nat
  mask : Tab 64 Bool
  value : Tab 64 Byte
  deriving DecidableEq, Repr

/-- The source of a wake match (R53). -/
inductive WakeSource where
  | uplink | downdata | flood
  deriving DecidableEq, Repr

/-- A wake record (R53). -/
structure WakeRecord where
  set : List FilterId
  length : Nat
  capture : List Byte
  source : WakeSource
  stateAtMatch : Service
  deriving DecidableEq, Repr

/-- An entry of the pending wake list (R50). -/
structure PendingWake where
  home : HomeId
  set : List FilterId
  length : Nat
  capture : List Byte
  source : WakeSource
  deriving DecidableEq, Repr

/-- Where the frames of a burst in assembly came from (R35). -/
inductive BurstSource where
  | updata
  | downdata (target : StationId)
  | flood
  deriving DecidableEq, Repr

/-- The burst in assembly (R35). -/
structure Assembly where
  source : BurstSource
  frames : List Frame
  deriving DecidableEq, Repr

/-- Where a frame held in a burst in reception is to go (R37). -/
inductive Destination where
  | uplink
  | home (h : HomeId)
  deriving DecidableEq, Repr

/-- A frame held in the burst in reception; `idx` is its frame's place in the burst (copies share it, R39). -/
structure Held where
  dest : Destination
  idx : Nat
  frame : Frame
  deriving DecidableEq, Repr

/-! ## Notices and the peer view (chapter 5) -/

/-- The gateway role (R84). -/
inductive Role where
  | line | active | standby
  deriving DecidableEq, Repr

/-- The power mode (R169). -/
inductive PowerMode where
  | mains | battery | batteryLow
  deriving DecidableEq, Repr

/-- The test state a notice carries (R89). -/
inductive NoticeTest where
  | idle | waiting | holding
  deriving DecidableEq, Repr

/-- A notice (R86 to R89; section 4.10). -/
structure Notice where
  role : Role
  mains : PowerMode
  storm : Bool
  test : NoticeTest
  group : Group
  dup : Bool
  uplinkUp : Bool
  powerWeight : Nat
  weight : Nat
  demand : Nat
  powerDemand : Nat
  u : Nat
  b : Nat
  deriving DecidableEq, Repr

/-- A peer entry (R90). -/
structure PeerEntry where
  id : StationId
  notice : Notice
  age : Nat
  deriving DecidableEq, Repr

/-! ## Tests (chapter 9) -/

/-- The measurement steps (R157). -/
inductive TestStep where
  | fv | ir | cap
  deriving DecidableEq, Repr

/-- A test set (R149). -/
structure TestSet where
  fv : Bool
  ir : Bool
  cap : Bool
  deriving DecidableEq, Repr

/-- The origin of an entry (R149). -/
inductive Origin where
  | order | flap | resumed
  deriving DecidableEq, Repr

/-- The cause of a suspension (R164). -/
inductive SuspendCause where
  | storm | power
  deriving DecidableEq, Repr

/-- The kinds of measurements (R166). -/
inductive MeasureKind where
  | dcvTG | dcvRG | acvTR | resTR | resTG | resRG | capTR
  deriving DecidableEq, Repr

/-- A measurement (R166). -/
structure Measurement where
  kind : MeasureKind
  value : Int
  openFlag : Bool
  overRange : Bool
  deriving DecidableEq, Repr

/-- The outcomes of a test (R166). -/
inductive TestOutcome where
  | complete | partialResult | abortedConflict | abortedTimeout | abortedCancel | abortedAdmin | abortedRestart
  | abortedStorm | headFault
  deriving DecidableEq, Repr

/-- Verdicts (R162). -/
inductive Verdict where
  | foreignVoltage | short | leaky | openLoop | ok
  deriving DecidableEq, Repr

/-- Carried results of a RESUMED entry (R149). -/
structure Carried where
  meas : List Measurement
  cause : SuspendCause
  deriving DecidableEq, Repr

/-- An entry of the test queue (R149). -/
structure TestEntry where
  home : HomeId
  set : TestSet
  quiet : Bool
  origin : Origin
  firstOrigin : Origin
  carried : Option Carried
  deriving DecidableEq, Repr

/-- The test states (R148). -/
inductive TestState where
  | idle | deferred | waiting | claiming | connecting | measuring | releasing
  deriving DecidableEq, Repr

/-- What the current test waits for (R154 to R159, R163). Times are the part's clock. -/
inductive TestPhase where
  | relaySettle (since : Nat)
  | quietCall
  | quietSettle (since : Nat)
  | pathSettle (step : TestStep) (path : Nat) (since : Nat)
  | reading (step : TestStep) (path : Nat) (since : Nat)
  | capArmed (since : Nat)
  | capTiming (since rise : Nat)
  | releaseSettle (since : Nat)
  deriving DecidableEq, Repr

/-- The current test (R154). `cause` is the cause of the last suspension: the one its entry carried, or that of the
suspension it is in. `cut` says that the dangerous-voltage check took IR or CAP out of the set (R157),
`cancelled` that a suspension in RELEASING was cancelled (R165). -/
structure CurrentTest where
  home : HomeId
  set : TestSet
  quiet : Bool
  origin : Origin
  firstOrigin : Origin
  split : Bool
  phase : TestPhase
  meas : List Measurement
  part : List Measurement
  cut : Bool
  outcome : Option TestOutcome
  cause : Option SuspendCause
  cancelled : Bool
  deriving DecidableEq, Repr

/-- A CLAIM withdrawal outstanding with the Cabinet Bus Interface (R148, R151): the rival if known, the home the
CLAIM named, what the Cabinet Bus Interface has told (removed: `some false`, gone out: `some true`), and whether
an examination that would give CLAIMING waits for the settling. -/
structure Withdrawal where
  rival : Option StationId
  home : HomeId
  settled : Option Bool
  owed : Bool
  deriving DecidableEq, Repr

/-- A result record (R166). -/
structure ResultRecord where
  number : Nat
  home : HomeId
  origin : Origin
  outcome : TestOutcome
  split : Bool
  meas : List Measurement
  loop : Option Nat
  verdict : Option Verdict
  read : Bool
  deriving DecidableEq, Repr

/-- A path of the test bus (R156). -/
inductive TestPath where
  | tr | tg | rg
  deriving DecidableEq, Repr

/-- The head's sources (R156). -/
inductive HeadSource where
  | off | dc48 | cc10ua
  deriving DecidableEq, Repr

/-! ## Upstream scheduling (chapter 7) -/

/-- A volume threshold with its step weight (R111). -/
structure Threshold where
  bytes : Nat
  weight : Nat
  deriving DecidableEq, Repr

/-- The move state (R121). -/
inductive MoveState where
  | idle | running | blocked
  deriving DecidableEq, Repr

/-- The Upstream Scheduler's items of a home (R111). -/
structure UpsHome where
  expCount : Nat
  deficit : Nat
  eff : Nat
  stepFloor : Option Nat
  stagedTier : Option Nat
  volume : Nat
  threshold : Option Threshold
  staged : List Threshold
  deriving DecidableEq, Repr

/-! ## Counters of the station (chapters 4 and 8) -/

/-- The bus counters (R83). -/
structure BusCounters where
  badCallWords : Nat
  malformedCalls : Nat
  badBursts : Nat
  broadcastsDiscarded : Nat
  ownFull : Nat
  ownAbsent : Nat
  ownBad : Nat
  noticesReplaced : Nat
  resetsSeen : Nat
  resetsPulsed : Nat
  deriving DecidableEq, Repr

/-- The gateway counters (R147). -/
structure GatewayCounters where
  framesReceived : Nat
  bytesReceived : Nat
  standbyDrops : Nat
  errorDrops : Nat
  framesSent : Nat
  bytesSent : Nat
  delivered : Nat
  learned : Nat
  moves : Nat
  replacements : Nat
  notLearned : Nat
  agedOut : Nat
  ordersTaken : Nat
  malformed : Nat
  ordersLost : Nat
  reportsSent : Nat
  mgmtReportsLost : Nat
  reportsLost : Nat
  deriving DecidableEq, Repr

/-- An entry of the address table (R134) with its number. -/
structure AddrEntry where
  num : Nat
  addr : Addr
  station : StationId
  home : HomeId
  age : Nat
  deriving DecidableEq, Repr

/-! ## Status records of replies (R83, R96, R109, R128, R147, R148, R168, R181, R183) -/

/-- The station part of a LINE_STATUS reply. -/
structure StationStatus where
  stn : StationId
  fitted : Bool
  defaulted : Bool
  lostEvents : Nat
  queueEntries : Nat
  queueEvents : Nat
  free : Nat
  bus : BusCounters
  s : Nat
  t : Nat
  bwCap : Nat
  bwShare : Option Nat
  bwParts : Nat
  bwPasses : Nat
  a : Option Nat
  pwCap : Nat
  pwShare : Option Nat
  pwParts : Nat
  pwPasses : Nat
  capK : Nat
  ramp : Nat
  fallback : Nat
  credit : Int
  depth : Nat
  raised : Bool
  move : MoveState
  expLast : HomeId
  drrPos : HomeId
  visitOpen : Bool
  gateway : GatewayCounters
  tableEntries : Nat
  testState : TestState
  testHome : Option HomeId
  testStep : Option TestPhase
  testQueue : List TestEntry
  quietGroups : List Group
  logRecords : Nat
  logUnread : Nat
  lostResults : Nat
  power : PowerMode
  lineCost : Nat
  reserve : Bool
  remaining : Nat
  wakeQueue : List HomeId
  deriving DecidableEq, Repr

/-- The home part of a LINE_STATUS reply. -/
structure HomeStatus where
  home : HomeId
  service : Service
  ret : Option Mode
  rateUp : Nat
  rateDown : Nat
  learned : List Addr
  flaps : List Nat
  upCells : Nat
  upFrames : Nat
  downCells : Nat
  downFrames : Nat
  wake : Option WakeRecord
  tier : Nat
  ups : UpsHome
  outcome : Option Mode
  wakeTimer : Option Nat
  idleTimer : Nat
  deriving DecidableEq, Repr

/-- What a READ_PEERS reply carries (R96). -/
structure PeersStatus where
  role : Role
  active : Option StationId
  lost : Bool
  stuck : Bool
  dup : Bool
  latched : Option Notice
  peers : List PeerEntry
  deriving DecidableEq, Repr

/-- The result of a self-check (R81): PASS, words flagged, words unequal, first failing word. -/
structure SelfCheckResult where
  pass : Bool
  flagged : Nat
  unequal : Nat
  first : Option Nat
  deriving DecidableEq, Repr

/-! ## Orders, replies, events (chapters 4 and 11) -/

/-- The cause a WAKE_FAIL event carries (R177). -/
inductive WakeFailCause where
  | failure | down | timeLimit
  deriving DecidableEq, Repr

/-- The events with the data each carries (R184). -/
inductive Event where
  | testDone (number : Nat) (home : HomeId) (outcome : TestOutcome) (verdict : Option Verdict)
  | volumeStep (home : HomeId) (threshold weight eff volume : Nat)
  | wakeFail (home : HomeId) (cause : WakeFailCause)
  | stormBegin (home : HomeId)
  | stormEnd
  | gatewayLost
  | gatewayFound (id : StationId)
  | duplicateId
  | tbusyStuck
  | tbusyClear
  | cellCritical (free : Nat)
  | configDefaulted
  | resultsLost (number : Nat)
  deriving DecidableEq, Repr

/-- Result codes (section 4.10). -/
inductive Result where
  | done | refusedRange | refusedState | refusedFull | unknownOrder | notTaken | noStation
  deriving DecidableEq, Repr

/-- What a reply carries (R183). -/
inductive ReplyData where
  | none
  | lineStatus (station : StationStatus) (homes : List HomeStatus)
  | counters (c : HomeCounters)
  | service (s : Service)
  | testPlace (place : Nat) (set : TestSet)
  | results (records : List ResultRecord) (left : Nat)
  | thresholds (active : Option Threshold) (staged : List Threshold)
  | filter (f : Filter)
  | peers (p : PeersStatus)
  | selfCheck (r : SelfCheckResult)
  | restarting
  deriving DecidableEq, Repr

/-- A reply or an event (R143, R181). -/
inductive ReportBody where
  | reply (code : BitVec 4) (result : Result) (data : ReplyData)
  | event (e : Event)
  deriving DecidableEq, Repr

/-- A report of this station (R181). -/
structure Report where
  tag : Word
  body : ReportBody
  deriving DecidableEq, Repr

/-- An order (R59, R74). -/
structure Order where
  tag : Word
  code : BitVec 4
  args : List Word
  deriving DecidableEq, Repr

/-- An entry of the management order list (R140). -/
structure MgmtOrder where
  target : StationId
  order : Order
  deriving DecidableEq, Repr

/-- Whose report an entry of the gateway report buffer is (R143): this station's own, the management handler's
(R142), or a peer's, as its words arrived. -/
inductive GatewayBody where
  | own (body : ReportBody)
  | handler (code : Byte) (result : Result)
  | peer (event : Bool) (code result : BitVec 4) (data : List Word)
  deriving DecidableEq, Repr

/-- An entry of the gateway report buffer (R143). -/
structure GatewayReport where
  tag : Word
  station : Byte
  body : GatewayBody
  deriving DecidableEq, Repr

/-- What the uplink transmitter is giving (R131). -/
inductive Giving where
  | queueFrame | report
  deriving DecidableEq, Repr

/-! ## The cabinet bus (chapter 4) -/

/-- Bus phases (R59). -/
inductive BusPhase where
  | unknown | free | contend | call | answer | transfer | close | selfCheck
  deriving DecidableEq, Repr

/-- The part in the call (R59). -/
inductive BusPart where
  | none | contender | caller | callee | listener
  deriving DecidableEq, Repr

/-- Call kinds (section 4.10). -/
inductive CallKind where
  | updata | downdata | flood | notice | claim | quiet | order | report
  deriving DecidableEq, Repr

/-- What a station contends with (R61). -/
inductive Contending where
  | claim | quiet | notice | order | report | updata | gateway
  deriving DecidableEq, Repr

/-- A CLAIM asked for by the Test Engine (R151), with a late-withdrawal mark (R61). -/
structure ClaimCall where
  home : HomeId
  group : Group
  withdrawn : Bool
  deriving DecidableEq, Repr

/-- A QUIET asked for by the Test Engine (R154), with a late-withdrawal mark. -/
structure QuietCall where
  group : Group
  ms : Nat
  withdrawn : Bool
  deriving DecidableEq, Repr

/-- What a call of this station carries. -/
inductive CallBody where
  | updata
  | downdata
  | flood
  | notice (n : Notice)
  | claim (c : ClaimCall)
  | quiet (q : QuietCall)
  | order (m : MgmtOrder)
  | report (r : Report)
  deriving DecidableEq, Repr

/-- The call this station is making (R65 to R73). -/
structure OwnCall where
  body : CallBody
  target : StationId
  words : List Word
  deriving DecidableEq, Repr

/-- The outcome of a call (R71). -/
inductive CallOutcome where
  | good | bad | full | absent
  deriving DecidableEq, Repr

/-- The frame whose words are arriving (R37, R49): its place in the burst, home (absent if its header word was
bad), class, length, bytes so far, positions of bytes that came in words of bad parity, whether its homes are
named, the sleeping homes its match is for, the filters of its test, and whether the match is complete. -/
structure ArrivingFrame where
  idx : Nat
  home : Option HomeId
  cls : FrameClass
  length : Nat
  bytes : List Byte
  badPositions : List Nat
  started : Bool
  matchHomes : List HomeId
  filters : Tab 8 Filter
  matched : Bool
  deriving DecidableEq, Repr

/-- The place in the format of a transfer (R69). -/
inductive RxStage where
  | burstHeader
  | frameHeader1
  | frameHeader2 (home : Option HomeId) (cls : FrameClass)
  | frameData (f : ArrivingFrame)
  | orderTag
  | orderHeader
  | reportTag
  | reportHeader
  | reportCount
  | body (left : Nat)
  | done
  deriving DecidableEq, Repr

/-- A transfer this station takes (R69, R72). -/
structure Reception where
  kind : CallKind
  caller : StationId
  bad : Bool
  lost : Bool
  extra : Bool
  stage : RxStage
  words : List Word
  framesLeft : Nat
  frameIdx : Nat
  total : Nat
  deriving DecidableEq, Repr

/-- A broadcast heard whole (R72). -/
inductive Heard where
  | notice (caller : StationId) (n : Notice)
  | claim (caller : StationId) (home : HomeId) (group : Group)
  | quiet (group : Group) (ms : Word)
  deriving DecidableEq, Repr

/-! ## Configuration (R186) -/

/-- The configuration of one home as loaded. -/
structure HomeCfg where
  equipped : Bool
  tier : Nat
  group : Group
  prio : Bool
  upLimit : Nat
  downLimit : Nat
  deriving DecidableEq, Repr

/-- The loaded configuration of the station. -/
structure Cfg where
  upLimits : Tab 8 Nat
  downLimits : Tab 8 Nat
  uplinkLimit : Nat
  stormHold : Nat
  autoTests : Bool
  cable : Nat
  pFull : Nat
  pLow : Nat
  pSleep : Nat
  pTest : Nat
  capK : Nat
  ramp : Nat
  fallback : Nat
  depth : Nat
  u : Nat
  b : Nat
  mgmtAddr : Addr
  mgmtType : Word
  operAddr : Addr
  deriving DecidableEq, Repr

/-- The stored configuration of one home; a code field that names no value is absent. -/
structure HomeImage where
  equipped : Option Bool
  tier : Nat
  group : Nat
  prio : Option Bool
  upLimit : Nat
  downLimit : Nat
  deriving DecidableEq, Repr

/-- A stored filter; a direction code that names none of the three directions is absent (R44). -/
structure FilterImage where
  enabled : Option Bool
  dir : Option Direction
  acts : Actions
  minLen : Nat
  mask : Tab 64 Bool
  value : Tab 64 Byte
  deriving DecidableEq, Repr

/-- The contents of a readable configuration memory, one stored value per field of R186. -/
structure CfgImage where
  homes : Tab 8 HomeImage
  filters : Tab 8 FilterImage
  uplinkLimit : Nat
  stormHold : Nat
  autoTests : Option Bool
  cable : Nat
  pFull : Nat
  pLow : Nat
  pSleep : Nat
  pTest : Nat
  capK : Nat
  ramp : Nat
  fallback : Nat
  depth : Nat
  u : Nat
  b : Nat
  mgmtAddr : Addr
  mgmtType : Word
  operAddr : Addr
  deriving DecidableEq, Repr

/-- The straps, the configuration memory (absent: unreadable) and the levels of the outside lines. -/
structure StartPins where
  stn : StationId
  fitted : Bool
  mem : Option CfgImage
  mainsOk : Bool
  battLow : Bool
  uplLink : Bool
  tbusy : Bool
  storm : Bool
  bsy : Bool
  deriving DecidableEq, Repr

/-! ## Outputs -/

/-- What the part emits as a pulse or a transfer at its signal groups. -/
inductive Pulse where
  | busWord (w : Word) (parity : Bool)
  | busReset
  | restartStrobe (h : HomeId)
  | headSelect (p : TestPath)
  | headSource (s : HeadSource)
  | headRead
  | downFrame (h : HomeId) (bytes : List Byte)
  | uplinkFrame (bytes : List Byte)
  deriving DecidableEq, Repr

end Sys2Proof
end

