-- ==== Sys2Proof/Syntax.lean ====
section
/-! DEFINITION. The commands of the BK-C8: one constructor for each row of spec/opcode_table.json, in the
table's order. The operands are what the rules say arrives with the event. -/

namespace Sys2Proof

/-- The commands. The rows of orders (LINE_STATUS to UNKNOWN_ORDER) execute the order that ORDER_START took (R181,
R182), so their arguments are not operands. -/
inductive Instr where
  | powerOn (pins : StartPins)
  | linkStateReport (h : HomeId) (st : LinkState)
  | rateReport (h : HomeId) (up down : Word)
  | activity (h : HomeId)
  | wakeFailure (h : HomeId)
  | upstreamFrame (h : HomeId) (bytes : List Byte)
  | downstreamGiveStart (h : HomeId) (ready : Bool)
  | downstreamFrameTaken (h : HomeId)
  | modeRequestFull (h : HomeId)
  | modeRequestLow (h : HomeId)
  | modeRequestSleep (h : HomeId)
  | modeRequestWake (h : HomeId)
  | wakeWithdrawRequest (h : HomeId)
  | wakeAbandonRequest (h : HomeId)
  | surge (h : HomeId)
  | stormHoldExpiry
  | stormRise
  | stormFall
  | excuseWindowExpiry
  | cbBsyRise
  | contendStart
  | contendMidpoint (d8 : Bool)
  | contendWindowEnd (ids : Byte)
  | callWord (w : Word) (parity : Bool)
  | answerWord (w : Word) (parity : Bool)
  | answerWindowExpiry
  | transferWordSent
  | transferWordReceived (w : Word) (parity : Bool)
  | badCloseTimeout
  | closeWord (w : Word) (parity : Bool)
  | closeWindowExpiry
  | cbBsyFall
  | noticeHeard (caller : StationId) (n : Notice)
  | claimHeard (caller : StationId) (h : HomeId) (g : Group)
  | quietHeard (g : Group) (ms : Word)
  | claimWithdrawalSettled
  | quietGap
  | busWatchdogExpiry
  | busReset
  | selfCheckStart
  | selfCheckEnd (readBack : List (Word × Bool))
  | roundBoundary
  | creditIntervalEnd
  | move
  | uplinkStateChange (up : Bool)
  | transmitterStart
  | uplinkFrameTaken
  | uplinkFrameReceived (bytes : List Byte) (err : Bool)
  | addressAgeTick
  | managementOrderHandoff
  | ownReportPass
  | orderStart
  | lineStatus
  | readCounters
  | setTier
  | lineAdmin
  | testLine
  | cancelTest
  | readResults
  | stageVolumeStep
  | clearVolumeSteps
  | newAccountingPeriod
  | writeFilter
  | filterEnable
  | readPeers
  | busSelfCheck
  | restart
  | unknownOrder
  | restartLimitExpiry
  | relaySettleEnd
  | quietSettleEnd
  | quietEndExpiry (g : Group)
  | stepSettleEnd
  | headReadResponse (v i ac : Word) (ready : Bool)
  | headReadTimeout
  | crossRise
  | crossFall
  | capTimeout
  | holdTimeLimit
  | releaseSettleEnd
  | tbusyRise
  | tbusyFall
  | mainsOkFall
  | mainsOkRise
  | battLowRise
  | battLowFall
  | wakeTimeLimit (h : HomeId)
  | idleTimerExpiry (h : HomeId)
  deriving DecidableEq, Repr

end Sys2Proof
end

