-- ==== Sys2Proof/Decode.lean ====
section
/-! DEFINITION. The commands that a word of the table spells: none, since no row of spec/opcode_table.json gives
bits. -/

namespace Sys2Proof

/-- The command an instruction word of the table spells. No row gives bits, so no word spells a command. -/
def decodeTableWord (_nbits _w : Nat) : Option Instr := none

end Sys2Proof
end

