-- ==== Sys2Proof/Config.lean ====
section
/-! DEFINITION. The fixed numbers of the BK-C8, the free values the manual leaves open, and the default contents
of the configuration. -/

namespace Sys2Proof

/-- Cells of the cell memory (R24). -/
def Config.cells : Nat := 2048

/-- The critical threshold (R33). -/
def Config.critical : Nat := 64

/-- Limit of a per-station down queue, in cells (R26). -/
def Config.stationLimit : Nat := 256

/-- Limit of the flood queue, in cells (R26). -/
def Config.floodLimit : Nat := 64

/-- The hold limit of a SLEEP or WAKING home, in cells (R26). -/
def Config.holdLimit : Nat := 16

/-- Minimum rate M, in RU (R97). -/
def Config.minRate : Nat := 16

/-- Depth of the uplink bucket, in bytes (R129). -/
def Config.uplinkDepth : Nat := 16384

/-- A second in ticks of the part's clock (1 microsecond, log 3). -/
def Config.second : Nat := 1000000

/-- FREE VALUE (log 11): the words that carry the data of a reply or an event and, in a reply that was cut, the number
of records it carries. The manual lists what each carries (R183, R184) and not how it is coded. -/
opaque Config.reportWords : ReportBody → Option Nat → List Word

/-- FREE VALUE (log 11): how many words, at most 1024, carry the data of a reply that R183 says fits, and which. -/
opaque Config.fittingWords : ReportBody → Fin 1025 × (Nat → Word)

/-- What a start reads of its board: the station ID and uplink straps, and the configuration memory (R186). -/
abbrev Board := StationId × Bool × Option CfgImage

/-- FREE VALUE (log 48): the board that the soft restart of each number reads afresh (R186, R188). The manual says
that straps and configuration may have changed (R1), and nothing that reaches the part tells it how. -/
opaque Config.restartBoard : Nat → Board

/-- The default contents of a filter (R44). -/
def Config.defaultFilter : Filter :=
  { enabled := false, dir := .both, acts := ⟨false, false, false⟩, minLen := 0, mask := Tab.all false, value := Tab.all 0 }

/-- The default configuration of a home (R186). -/
def Config.defaultHome : HomeCfg :=
  { equipped := false, tier := 8, group := 0, prio := false, upLimit := 96, downLimit := 96 }

/-- The defaults of R186, R97, R111 and R129: what an unreadable memory gives. -/
def Config.defaults : Cfg :=
  { upLimits := Tab.all 96, downLimits := Tab.all 96, uplinkLimit := 1024, stormHold := 10, autoTests := true,
    cable := 50, pFull := 15, pLow := 7, pSleep := 1, pTest := 40, capK := 65535, ramp := 256, fallback := 64,
    depth := 16384, u := 16, b := 1, mgmtAddr := 0, mgmtType := 0, operAddr := BitVec.allOnes 48 }

end Sys2Proof
end

