-- ==== Sys2Proof/Machine/State.lean ====
section
/-! DEFINITION. The state of the BK-C8, block by block, the reasons a step could stop, and the state after reset. -/

namespace Sys2Proof.Machine

/-- The straps and the external configuration memory as the last start read them, the levels of outside lines
(00_scope.md, R186), and the number of soft restarts, which numbers the board that the next one reads (log 48). -/
structure Pins where
  stn : StationId
  fitted : Bool
  mem : Option CfgImage
  mainsOk : Bool
  battLow : Bool
  tbusyOthers : Bool
  stormOthers : Bool
  restarts : Nat
  deriving DecidableEq, Repr

/-- The Line Port Block (R1, R16, R19, R20, R22). -/
structure Lpb where
  homes : Tab 8 Home
  giving : Tab 8 (Option Frame)
  stormEnd : Option Nat
  excuseEnd : Option Nat
  relay : Option HomeId
  deriving DecidableEq, Repr

/-- The Frame Filter Unit (R44, R50, R53). -/
structure Ffu where
  filters : Tab 8 Filter
  wake : Tab 8 (Option WakeRecord)
  pendingWakes : List PendingWake
  deriving DecidableEq, Repr

/-- The Cell Memory and Queue Manager (R24, R26, R32, R35, R37, R40). -/
structure Cqm where
  free : Nat
  pause : Bool
  up : Tab 8 (List Frame)
  down : Tab 8 (List Frame)
  uplink : List Frame
  stn : Tab 8 (List Frame)
  flood : List Frame
  dropUplink : Nat
  dropStn : Tab 8 Nat
  dropFlood : Nat
  assembly : Option Assembly
  held : List Held
  lostRounds : Nat
  flush : Bool
  deriving DecidableEq, Repr

/-- The Cabinet Bus Interface (R58, R59). -/
structure Cbi where
  phase : BusPhase
  part : BusPart
  bsy : Bool
  bsyDrive : Bool
  idDrive : Bool
  urgDrive : Bool
  claim : Option ClaimCall
  quiet : Option QuietCall
  notice : Option Notice
  contending : Option Contending
  lateOrder : Option MgmtOrder
  lateReport : Option Report
  call : Option OwnCall
  rx : Option Reception
  reservedOver : Option CallKind
  spent : Nat
  freeSince : Option Nat
  watch : Option Nat
  windowStart : Nat
  orders : List Order
  heard : List Heard
  selfWanted : Bool
  selfSince : Option Nat
  ctr : BusCounters
  deriving DecidableEq, Repr

/-- The Peer View (R84). -/
structure Pvw where
  roundStart : Nat
  peers : List PeerEntry
  role : Role
  active : Option StationId
  foundOnce : Bool
  dup : Bool
  dupQuiet : Nat
  dupHold : Nat
  stuckCount : Nat
  stuck : Bool
  sent : Nat
  traffic : Tab 8 Bool
  latched : Option Notice
  deriving DecidableEq, Repr

/-- The Share Calculator (R97). -/
structure Shc where
  s : Nat
  t : Nat
  bwCap : Nat
  bwShare : Option Nat
  bwParts : Nat
  bwPasses : Nat
  a : Option Nat
  pwCap : Nat
  pwShare : Option Nat
  pwParts : Nat
  pwPasses : Nat
  deriving DecidableEq, Repr

/-- The Upstream Scheduler (R111). -/
structure Ups where
  credit : Int
  creditStart : Nat
  raised : Bool
  target : StationId
  expLast : HomeId
  drrPos : HomeId
  visitOpen : Bool
  move : MoveState
  homes : Tab 8 UpsHome
  deriving DecidableEq, Repr

/-- The Gateway Unit (R129). -/
structure Gwu where
  uplinkUp : Bool
  bucket : Nat
  giving : Option Giving
  table : List AddrEntry
  tickStart : Nat
  position : Nat
  orders : List MgmtOrder
  reports : List GatewayReport
  operAddr : Addr
  bulkReq : Bool
  orderReq : Bool
  ctr : GatewayCounters
  deriving DecidableEq, Repr

/-- The Test Engine (R148). -/
structure Ten where
  state : TestState
  queue : List TestEntry
  current : Option CurrentTest
  withdrawal : Option Withdrawal
  tbusyDrive : Bool
  headDriving : Bool
  quietEnds : Tab 16 (Option Nat)
  holdSince : Option Nat
  recordNo : Nat
  log : List ResultRecord
  lost : Nat
  deriving DecidableEq, Repr

/-- The Battery Hold Unit (R168). -/
structure Bhu where
  wakeQ : List HomeId
  wakeSince : Tab 8 (Option Nat)
  lastTraffic : Tab 8 (Option Nat)
  outcome : Tab 8 (Option Mode)
  reserve : Bool
  remaining : Nat
  requests : List (ModeRequest × HomeId)
  batch : List HomeId
  deriving DecidableEq, Repr

/-- The Order Handler (R181). -/
structure Orh where
  executing : Option Order
  queue : List Report
  restart : Option Nat
  lostEvents : Nat
  stn : StationId
  fitted : Bool
  defaulted : Bool
  reportReq : Bool
  reportTarget : StationId
  deriving DecidableEq, Repr

/-- The state of the part: pins, loaded configuration, clock, the eleven blocks, the pulses of the last step and
the commands that wait, first in, first out. -/
structure State where
  pins : Pins
  cfg : Cfg
  now : Nat
  lpb : Lpb
  ffu : Ffu
  cqm : Cqm
  cbi : Cbi
  pvw : Pvw
  shc : Shc
  ups : Ups
  gwu : Gwu
  ten : Ten
  bhu : Bhu
  orh : Orh
  out : List Pulse
  pending : List Instr
  deriving DecidableEq, Repr

/-- The manual gives the part no event that stops it, so no meaning raises a fault. -/
inductive Fault where
  /-- Raised by no meaning: the manual names no fault that stops the part. Safe. -/
  | unreachable
  deriving DecidableEq, Repr

/-- Reasons for which a command could be refused. -/
inductive Refusal where
  /-- A command whose meaning is not written yet; raised by the dispatch only, and by none of its arms now. Safe. -/
  | notModelled (mnemonic : String)
  deriving DecidableEq, Repr

/-- The counters of a home at power-on (R23). -/
def HomeCounters.zero : HomeCounters :=
  { upFrames := 0, upBytes := 0, downFrames := 0, downBytes := 0, upLength := 0, upFilter := 0, upLimit := 0,
    upCritical := 0, upGatewayLost := 0, upTest := 0, upAdmin := 0, upBusLoss := 0, downLimit := 0, downCritical := 0,
    downAsleep := 0, downLineDown := 0, downTest := 0, downAdmin := 0, flaps := 0, wakes := 0, wakeFailures := 0,
    surges := 0 }

/-- The bus counters at power-on (R83). -/
def BusCounters.zero : BusCounters :=
  { badCallWords := 0, malformedCalls := 0, badBursts := 0, broadcastsDiscarded := 0, ownFull := 0, ownAbsent := 0,
    ownBad := 0, noticesReplaced := 0, resetsSeen := 0, resetsPulsed := 0 }

/-- The gateway counters at power-on (R147). -/
def GatewayCounters.zero : GatewayCounters :=
  { framesReceived := 0, bytesReceived := 0, standbyDrops := 0, errorDrops := 0, framesSent := 0, bytesSent := 0,
    delivered := 0, learned := 0, moves := 0, replacements := 0, notLearned := 0, agedOut := 0, ordersTaken := 0,
    malformed := 0, ordersLost := 0, reportsSent := 0, mgmtReportsLost := 0, reportsLost := 0 }

/-- The pins at reset. The manual gives no straps, no memory contents and no line levels: DESIGN CHOICE, log 1. -/
def Pins.reset : Pins :=
  { stn := 0, fitted := false, mem := none, mainsOk := true, battLow := false, tbusyOthers := false,
    stormOthers := false, restarts := 0 }

/-- A home record right after power-on (R1), for a loaded home configuration. -/
def Home.start (c : HomeCfg) : Home :=
  { equipped := c.equipped, tier := c.tier, group := c.group, prio := c.prio,
    service := if c.equipped then .down else .unequipped, ret := none, resume := false, link := .down, rateUp := 0,
    rateDown := 0, learned := [], flaps := [], ctr := HomeCounters.zero }

/-- The Upstream Scheduler's items of a home right after a start (R111). -/
def UpsHome.start (tier : Nat) : UpsHome :=
  { expCount := 0, deficit := 0, eff := tier, stepFloor := none, stagedTier := none, volume := 0, threshold := none,
    staged := [] }

/-- The machine right after power-on with the pins of log 1 (an unreadable configuration memory, so every field
has its default, no home is equipped and CONFIG_DEFAULTED is queued, R186). -/
def State.reset : State :=
  { pins := Pins.reset
    cfg := Config.defaults
    now := 0
    lpb := { homes := Tab.all (Home.start Config.defaultHome), giving := Tab.all none, stormEnd := none,
             excuseEnd := none, relay := none }
    ffu := { filters := Tab.all Config.defaultFilter, wake := Tab.all none, pendingWakes := [] }
    cqm := { free := Config.cells, pause := false, up := Tab.all [], down := Tab.all [], uplink := [],
             stn := Tab.all [], flood := [], dropUplink := 0, dropStn := Tab.all 0, dropFlood := 0,
             assembly := none, held := [], lostRounds := 0, flush := false }
    cbi := { phase := .unknown, part := .none, bsy := false, bsyDrive := false, idDrive := false, urgDrive := false,
             claim := none, quiet := none, notice := none, contending := none, lateOrder := none, lateReport := none,
             call := none, rx := none, reservedOver := none, spent := 0, freeSince := none, watch := none, windowStart := 0,
             orders := [], heard := [], selfWanted := false, selfSince := none, ctr := BusCounters.zero }
    pvw := { roundStart := 0, peers := [], role := .line, active := none, foundOnce := false, dup := false,
             dupQuiet := 4, dupHold := 0, stuckCount := 0, stuck := false, sent := 0, traffic := Tab.all false,
             latched := none }
    shc := { s := 0, t := 0, bwCap := 0, bwShare := none, bwParts := 0, bwPasses := 0, a := none, pwCap := 0,
             pwShare := none, pwParts := 0, pwPasses := 0 }
    ups := { credit := 0, creditStart := 0, raised := false, target := 0, expLast := 7, drrPos := 7,
             visitOpen := false, move := .idle, homes := Tab.all (UpsHome.start Config.defaultHome.tier) }
    gwu := { uplinkUp := false, bucket := 0, giving := none, table := [], tickStart := 0, position := 8, orders := [],
             reports := [], operAddr := Config.defaults.operAddr, bulkReq := false, orderReq := false,
             ctr := GatewayCounters.zero }
    ten := { state := .idle, queue := [], current := none, withdrawal := none, tbusyDrive := false,
             headDriving := false, quietEnds := Tab.all none, holdSince := none, recordNo := 0, log := [], lost := 0 }
    bhu := { wakeQ := [], wakeSince := Tab.all none, lastTraffic := Tab.all none, outcome := Tab.all none,
             reserve := false, remaining := 0, requests := [], batch := [] }
    orh := { executing := none, queue := [⟨0, .event .configDefaulted⟩], restart := none, lostEvents := 0, stn := 0,
             fitted := false, defaulted := true, reportReq := false, reportTarget := 0 }
    out := []
    pending := [] }

end Sys2Proof.Machine
end

