-- ==== Sys2Proof/Machine/Flags.lean ====
section
/-! DEFINITION. The saturating counters of the part (R23, R26, R83, R147, R181) and the lines that the part sees or
drives as functions of its state. -/

namespace Sys2Proof

/-- The mode output a service state drives (R3). -/
def modeOut : Service → Mode
  | .down | .training | .upFull | .waking => .full
  | .upLow => .low
  | .unequipped | .adminDown | .sleep | .quiet | .testHeld => .sleep

/-- The six service states whose homes a station on battery pays at least P_sleep for (R107). -/
def Service.paid : Service → Bool
  | .upFull | .upLow | .sleep | .waking | .quiet | .training => true
  | _ => false

/-- A link that carries traffic (R16). -/
def Service.isUp : Service → Bool
  | .upFull | .upLow => true
  | _ => false

/-- SLEEP or WAKING (R47). -/
def Service.asleep : Service → Bool
  | .sleep | .waking => true
  | _ => false

end Sys2Proof

namespace Sys2Proof.Machine

/-- A 32-bit counter raised by k (00_scope.md, Counters). -/
def sat32 (n k : Nat) : Nat := min (n + k) (2 ^ 32 - 1)

/-- A 48-bit counter raised by k (00_scope.md, Counters). -/
def sat48 (n k : Nat) : Nat := min (n + k) (2 ^ 48 - 1)

/-- k upstream drops counted (R23). -/
def countUpDrop (r : UpDrop) (k : Nat) (c : HomeCounters) : HomeCounters :=
  match r with
  | .length => { c with upLength := sat32 c.upLength k }
  | .filter => { c with upFilter := sat32 c.upFilter k }
  | .limit => { c with upLimit := sat32 c.upLimit k }
  | .critical => { c with upCritical := sat32 c.upCritical k }
  | .gatewayLost => { c with upGatewayLost := sat32 c.upGatewayLost k }
  | .test => { c with upTest := sat32 c.upTest k }
  | .admin => { c with upAdmin := sat32 c.upAdmin k }
  | .busLoss => { c with upBusLoss := sat32 c.upBusLoss k }

/-- k downstream drops counted (R23). -/
def countDownDrop (r : DownDrop) (k : Nat) (c : HomeCounters) : HomeCounters :=
  match r with
  | .limit => { c with downLimit := sat32 c.downLimit k }
  | .critical => { c with downCritical := sat32 c.downCritical k }
  | .asleep => { c with downAsleep := sat32 c.downAsleep k }
  | .lineDown => { c with downLineDown := sat32 c.downLineDown k }
  | .test => { c with downTest := sat32 c.downTest k }
  | .admin => { c with downAdmin := sat32 c.downAdmin k }

/-- An upstream frame placed (R15). -/
def countUpFrame (len : Nat) (c : HomeCounters) : HomeCounters :=
  { c with upFrames := sat32 c.upFrames 1, upBytes := sat48 c.upBytes len }

/-- A downstream frame taken whole (R16). -/
def countDownFrame (len : Nat) (c : HomeCounters) : HomeCounters :=
  { c with downFrames := sat32 c.downFrames 1, downBytes := sat48 c.downBytes len }

/-- STORM is driven by this station while its storm hold runs (R19). -/
def State.stormDriven (s : State) : Bool := s.lpb.stormEnd.isSome

/-- STORM as this station sees the wired-OR line (R19). -/
def State.storm (s : State) : Bool := s.stormDriven || s.pins.stormOthers

/-- TBUSY as this station sees the wired-OR line (R151). -/
def State.tbusy (s : State) : Bool := s.ten.tbusyDrive || s.pins.tbusyOthers

/-- The power mode of the two power-unit lines (R169). -/
def State.power (s : State) : PowerMode :=
  if s.pins.mainsOk then .mains else if s.pins.battLow then .batteryLow else .battery

/-- The Gateway Unit works while the own role is GATEWAY_ACTIVE (R129). -/
def State.working (s : State) : Bool := s.pvw.role == .active

/-- The critical condition (R33). -/
def State.critical (s : State) : Bool := decide (s.cqm.free < Config.critical)

/-- Flow-stop to the transceivers (R17). -/
def State.flowStop (s : State) : Bool := s.cqm.pause

end Sys2Proof.Machine
end

