-- ==== Sys2Proof/Machine/Operands.lean ====
section
/-! DEFINITION. The words and frames of section 4.10, built and read: parity, call, answer and close words, notices,
claims, quiets, orders, reports, data bursts and management frames. -/

namespace Sys2Proof

/-! ## Words and parity (R58, R76) -/

/-- The field of `len` bits of a word whose lowest bit is `lo`. -/
def field (w : Word) (lo len : Nat) : Nat := w.toNat / 2 ^ lo % 2 ^ len

/-- A word from its number. -/
def wordOf (n : Nat) : Word := BitVec.ofNat 16 n

/-- A number as a place in a table of eight. -/
def octal (n : Nat) : Fin 8 := Fin.ofNat 8 n

/-- A number as a binder group. -/
def groupOf (n : Nat) : Group := Fin.ofNat 16 n

/-- The number of asserted lines among CB_D[15:0]. -/
def asserted (w : Word) : Nat := ((List.range 16).filter fun i => w.getLsbD i).length

/-- The CB_P line that gives odd parity (R58). -/
def oddParity (w : Word) : Bool := asserted w % 2 == 0

/-- A word taken with good parity (R76). -/
def goodParity (w : Word) (p : Bool) : Bool := p == oddParity w

/-- Bytes two to a word, the lower-numbered byte in bits 15 to 8; a last odd byte has a low byte of 0 (R68). -/
def wordsOfBytes : List Byte → List Word
  | [] => []
  | [a] => [wordOf (a.toNat * 256)]
  | a :: b :: rest => wordOf (a.toNat * 256 + b.toNat) :: wordsOfBytes rest

/-- The two bytes of a word, the lower-numbered first. -/
def bytesOfWord (w : Word) : List Byte := [BitVec.ofNat 8 (field w 8 8), BitVec.ofNat 8 (field w 0 8)]

/-- The six-byte address of a list of bytes, its first byte the most significant. -/
def addrOf (bytes : List Byte) : Addr := BitVec.ofNat 48 (bytes.foldl (fun n b => n * 256 + b.toNat) 0)

/-- The six bytes of an address. -/
def bytesOfAddr (a : Addr) : List Byte :=
  [40, 32, 24, 16, 8, 0].map fun k => BitVec.ofNat 8 (a.toNat / 2 ^ k % 256)

/-- The group bit: the low-order bit of the first byte (R18). -/
def groupBit (a : Addr) : Bool := a.getLsbD 40

/-- Bytes 0 to 5 of a frame (R132). -/
def destinationOf (bytes : List Byte) : Addr := addrOf (bytes.take 6)

/-- Bytes 6 to 11 of a frame (R15). -/
def sourceOf (bytes : List Byte) : Addr := addrOf ((bytes.drop 6).take 6)

/-- The cells of L bytes (R24). -/
def cellsOf (len : Nat) : Nat := (len + 127) / 128

/-- The cells of a frame (R25). -/
def Frame.cells (f : Frame) : Nat := cellsOf f.length

/-- The cells of frames in a queue (R26). -/
def cellCount (q : List Frame) : Nat := (q.map Frame.cells).sum

/-- The byte count of a queue (R26). -/
def byteCount (q : List Frame) : Nat := (q.map Frame.length).sum

/-! ## Call, answer and close words (R65, R66, R70) -/

/-- Kind codes of a call word. -/
def CallKind.code : CallKind → Nat
  | .updata => 0 | .downdata => 1 | .flood => 2 | .notice => 3 | .claim => 4 | .quiet => 5 | .order => 6 | .report => 7

/-- The kind of a code of three bits. -/
def CallKind.ofCode : Nat → CallKind
  | 0 => .updata | 1 => .downdata | 2 => .flood | 3 => .notice | 4 => .claim | 5 => .quiet | 6 => .order | _ => .report

/-- The urgent kinds (R61). -/
def CallKind.urgent : CallKind → Bool
  | .updata | .downdata | .flood => false
  | _ => true

/-- The addressed kinds (section 4.3). -/
def CallKind.addressed : CallKind → Bool
  | .updata | .downdata | .order | .report => true
  | _ => false

/-- The target mask of a call: one station, or all eight (R65). -/
def targetMask (k : CallKind) (target : StationId) : Nat := if k.addressed then 2 ^ target.val else 255

/-- A call word. -/
def callWordOf (k : CallKind) (caller target : StationId) : Word :=
  wordOf ((if k.urgent then 32768 else 0) + k.code * 4096 + caller.val * 256 + targetMask k target)

/-- The kind a call word carries. -/
def callKindOf (w : Word) : CallKind := CallKind.ofCode (field w 12 3)

/-- The caller a call word carries. -/
def callerOf (w : Word) : StationId := octal (field w 8 3)

/-- Whether the target mask of a call word names a station. -/
def namesStation (w : Word) (n : StationId) : Bool := field w n.val 1 == 1

/-- The checks of R65 on a call word of good parity. -/
def callWellFormed (w : Word) : Bool :=
  let k := callKindOf w
  ((field w 15 1 == 1) == k.urgent) &&
    (if k.addressed then ((List.range 8).filter fun i => field w i 1 == 1).length == 1 else field w 0 8 == 255)

/-- An answer word: TAKE or FULL, the callee's ID and room (R66). -/
def answerWordOf (take : Bool) (callee : StationId) (room : Nat) : Word :=
  wordOf ((if take then 16384 else 32768) + callee.val * 2048 + room % 2048)

/-- A close word: GOOD or BAD and the callee's ID (R70). -/
def closeWordOf (good : Bool) (callee : StationId) : Word :=
  wordOf ((if good then 16384 else 32768) + callee.val * 2048)

/-! ## Notices, claims, quiets (section 4.10) -/

/-- Role codes of a notice. -/
def Role.code : Role → Nat
  | .line => 0 | .active => 1 | .standby => 2

/-- Mains codes of a notice. -/
def PowerMode.code : PowerMode → Nat
  | .mains => 0 | .battery => 1 | .batteryLow => 2

/-- Test state codes of a notice. -/
def NoticeTest.code : NoticeTest → Nat
  | .idle => 0 | .waiting => 1 | .holding => 2

/-- The role of a code; 3 names none. -/
def Role.ofCode : Nat → Option Role
  | 0 => some .line | 1 => some .active | 2 => some .standby | _ => none

/-- The mains state of a code; 3 names none. -/
def PowerMode.ofCode : Nat → Option PowerMode
  | 0 => some .mains | 1 => some .battery | 2 => some .batteryLow | _ => none

/-- The test state of a code; 3 names none. -/
def NoticeTest.ofCode : Nat → Option NoticeTest
  | 0 => some .idle | 1 => some .waiting | 2 => some .holding | _ => none

/-- One flag as the number of its bit. -/
def flagAt (b : Bool) (k : Nat) : Nat := if b then 2 ^ k else 0

/-- The six words of a NOTICE. -/
def noticeWords (n : Notice) : List Word :=
  [wordOf (n.role.code * 16384 + n.mains.code * 4096 + flagAt n.storm 11 + n.test.code * 512 + n.group.val * 32 +
      flagAt n.dup 4 + flagAt n.uplinkUp 3),
   wordOf (n.powerWeight * 256 + n.weight), wordOf n.demand, wordOf n.powerDemand, wordOf n.u, wordOf n.b]

/-- A NOTICE read from its six words; absent when a field lies outside its values (R72). -/
def noticeOf : List Word → Option Notice
  | [a, b, d, p, u, bb] =>
    match Role.ofCode (field a 14 2), PowerMode.ofCode (field a 12 2), NoticeTest.ofCode (field a 9 2) with
    | some role, some power, some test =>
      if field b 8 8 ≤ 128 ∧ field b 0 7 ≤ 120 then
        some { role, mains := power, storm := field a 11 1 == 1, test, group := groupOf (field a 5 4), dup := field a 4 1 == 1,
               uplinkUp := field a 3 1 == 1, powerWeight := field b 8 8, weight := field b 0 7, demand := d.toNat,
               powerDemand := p.toNat, u := u.toNat, b := bb.toNat }
      else none
    | _, _, _ => none
  | _ => none

/-- The word of a CLAIM. -/
def claimWords (h : HomeId) (g : Group) : List Word := [wordOf (h.val * 256 + g.val)]

/-- The words of a QUIET. -/
def quietWords (g : Group) (ms : Nat) : List Word := [wordOf g.val, wordOf ms]

/-- What the words of a broadcast say; absent when a field lies outside its values (R72). -/
def heardOf (k : CallKind) (caller : StationId) (ws : List Word) : Option Heard :=
  match k, ws with
  | .notice, ws => (noticeOf ws).map (Heard.notice caller)
  | .claim, [a] => some (.claim caller (octal (field a 8 3)) (groupOf (field a 0 4)))
  | .quiet, [a, b] => if b.toNat = 0 then none else some (.quiet (groupOf (field a 0 4)) b)
  | _, _ => none

/-! ## Orders and reports on the bus (R74) -/

/-- The words of an ORDER. -/
def orderWords (o : Order) : List Word :=
  [o.tag, wordOf (o.code.toNat * 4096 + o.args.length)] ++ o.args

/-- An order read from the words of a whole ORDER transfer. -/
def orderOf : List Word → Option Order
  | tag :: hdr :: args => some { tag, code := BitVec.ofNat 4 (field hdr 12 4), args }
  | _ => none

/-- Result codes. -/
def Result.code : Result → Nat
  | .done => 0 | .refusedRange => 1 | .refusedState => 2 | .refusedFull => 3 | .unknownOrder => 4 | .notTaken => 5
  | .noStation => 6

/-- Event codes. -/
def Event.code : Event → Nat
  | .testDone .. => 1 | .volumeStep .. => 2 | .wakeFail .. => 3 | .stormBegin .. => 4 | .stormEnd => 5
  | .gatewayLost => 6 | .gatewayFound .. => 7 | .duplicateId => 8 | .tbusyStuck => 9 | .tbusyClear => 10
  | .cellCritical .. => 11 | .configDefaulted => 12 | .resultsLost .. => 13

/-- The kind bit of a report: 1 for an event. -/
def ReportBody.isEvent : ReportBody → Bool
  | .event _ => true
  | .reply .. => false

/-- The order or event code of a report. -/
def ReportBody.code : ReportBody → Nat
  | .event e => e.code
  | .reply c _ _ => c.toNat

/-- The result code of a report; 0 for events (R145). -/
def ReportBody.result : ReportBody → Nat
  | .event _ => 0
  | .reply _ r _ => r.code

/-- A report that R183 or R184 gives no data: a refusal without data, an order's bare DONE, an event of which the table
says none. -/
def ReportBody.bare : ReportBody → Bool
  | .reply _ _ .none | .reply _ _ .restarting => true
  | .event .stormEnd | .event .gatewayLost | .event .duplicateId | .event .tbusyStuck | .event .tbusyClear
  | .event .configDefaulted => true
  | _ => false

/-- A reply that R183 says fits in 1024 words: LINE_STATUS for up to all homes, and READ_RESULTS with up to 16 records
(log 11). -/
def ReportBody.fits : ReportBody → Bool
  | .reply _ _ (.lineStatus _ hs) => decide (hs.length ≤ 8)
  | .reply _ _ (.results rs _) => decide (rs.length ≤ 16)
  | _ => false

/-- The data words of a reply that fits: all of them. -/
def ReportBody.wholeWords (b : ReportBody) : List Word :=
  (List.range (Config.fittingWords b).1).map (Config.fittingWords b).2

/-- The records that a reply's data lists (R183). -/
def ReplyData.records : ReplyData → Nat
  | .results rs _ => rs.length
  | .lineStatus _ hs => hs.length
  | .peers p => p.peers.length
  | _ => 0

/-- A reply's data with its first n records (R183). -/
def ReplyData.keep (n : Nat) : ReplyData → ReplyData
  | .results rs left => .results (rs.take n) left
  | .lineStatus st hs => .lineStatus st (hs.take n)
  | .peers p => .peers { p with peers := p.peers.take n }
  | d => d

/-- The words of a reply cut to its first n records, with their number (R183). -/
def cutWords (code : BitVec 4) (r : Result) (d : ReplyData) (n : Nat) : List Word :=
  Config.reportWords (.reply code r (d.keep n)) (some n)

/-- The data words of a report, at most 1024 (R183): the replies that fit are whole, a longer one keeps as many whole
records as fit and states their number. How data is coded in words is a free value (log 11). -/
def ReportBody.words (b : ReportBody) : List Word :=
  if b.bare then []
  else if b.fits then b.wholeWords
  else if (Config.reportWords b none).length ≤ 1024 then Config.reportWords b none
  else match b with
    | .reply code r d =>
      let n := ((List.range d.records).reverse.find? fun n => decide ((cutWords code r d n).length ≤ 1024)).getD 0
      (cutWords code r d n).take 1024
    | .event _ => (Config.reportWords b none).take 1024

/-- The words of a REPORT. -/
def reportCallWords (r : Report) : List Word :=
  [r.tag, wordOf (flagAt r.body.isEvent 15 + r.body.code * 2048 + r.body.result), wordOf r.body.words.length] ++
    r.body.words

/-- A peer's report read from the words of a whole REPORT transfer, as it lies in the gateway report buffer. An event's
tag there is 0 (R143, R145), also when the peer sent another one (log 57). -/
def gatewayReportOf (caller : StationId) : List Word → Option GatewayReport
  | tag :: hdr :: _count :: data =>
    some { tag := if field hdr 15 1 = 1 then 0 else tag, station := BitVec.ofNat 8 caller.val,
           body := .peer (field hdr 15 1 == 1) (BitVec.ofNat 4 (field hdr 11 4)) (BitVec.ofNat 4 (field hdr 0 4)) data }
  | _ => none

/-! ## Data bursts (R68) -/

/-- The two header words of a frame. A FLOOD frame carries home index 0. -/
def frameHeaderWords (f : Frame) : List Word :=
  [wordOf (flagAt (f.cls == .expedited) 15 + flagAt f.returned 14 + (f.home.getD 0).val * 256), wordOf f.length]

/-- The words of a data burst. -/
def burstWords (fs : List Frame) : List Word :=
  wordOf fs.length :: fs.flatMap fun f => frameHeaderWords f ++ wordsOfBytes f.bytes

/-! ## Management frames (section 4.10) -/

/-- The number of two bytes, high byte first. -/
def pairOf (bytes : List Byte) (at_ : Nat) : Nat :=
  (bytes.getD at_ 0).toNat * 256 + (bytes.getD (at_ + 1) 0).toNat

/-- The argument words of a management order frame. -/
def mgmtArgs (bytes : List Byte) (count : Nat) : List Word :=
  (List.range count).map fun k => wordOf (pairOf bytes (20 + 2 * k))

/-- Kind, code and result of a report in the gateway report buffer. -/
def GatewayBody.head : GatewayBody → Nat × Nat × Nat
  | .own b => (if b.isEvent then 1 else 0, b.code, b.result)
  | .handler code r => (0, code.toNat, r.code)
  | .peer ev code r _ => (if ev then 1 else 0, code.toNat, if ev then 0 else r.toNat)

/-- The data words of a report in the gateway report buffer. -/
def GatewayBody.words : GatewayBody → List Word
  | .own b => b.words
  | .handler _ _ => []
  | .peer _ _ _ data => data

/-- A report frame, padded with zero bytes to 60 (R145). -/
def reportFrame (oper mgmt : Addr) (type : Word) (r : GatewayReport) : List Byte :=
  let (kind, code, result) := r.body.head
  let data := r.body.words
  let raw := bytesOfAddr oper ++ bytesOfAddr mgmt ++ bytesOfWord type ++ bytesOfWord r.tag ++
    [r.station, BitVec.ofNat 8 kind, BitVec.ofNat 8 code, BitVec.ofNat 8 result] ++
    bytesOfWord (wordOf data.length) ++ data.flatMap bytesOfWord
  raw ++ List.replicate (60 - raw.length) 0

end Sys2Proof
end

