-- ==== Sys2Proof/Machine/Ops.lean ====
section
/-! DEFINITION. The shared operations over the state: homes and their counters, cells, events, service changes,
teardown, the wake queue, line costs, and the standing requests that the blocks hold. Each names the fields it
writes, so what it leaves alone is true by definition. -/

namespace Sys2Proof

/-- A frame with its returned mark set (R36). -/
def Frame.mark (f : Frame) : Frame := { f with returned := true }

/-- A report of kind event (R184). -/
def Report.isEvent (r : Report) : Bool := r.body.isEvent

/-- The cost of a mode. -/
def Cfg.modeCost (c : Cfg) : Mode → Nat
  | .full => c.pFull
  | .low => c.pLow
  | .sleep => c.pSleep

/-- The cost of a home in a service state with a return mode; a QUIET home without one counts as FULL. -/
def Cfg.homeCost (c : Cfg) (st : Service) (ret : Option Mode) : Nat :=
  match st with
  | .upFull | .waking | .training => c.pFull
  | .upLow => c.pLow
  | .sleep => c.pSleep
  | .quiet => c.modeCost (ret.getD .full)
  | .down | .unequipped | .adminDown | .testHeld => 0

end Sys2Proof

namespace Sys2Proof.Machine

/-! ## Beginning, outputs, homes -/

/-- The state a command begins from: the pulses of the last step are over (log 29). -/
def State.fresh (s : State) : State := { s with out := [] }

/-- Pulses emitted. -/
def State.emit (ps : List Pulse) (s : State) : State := { s with out := s.out ++ ps }

/-- A word strobed on the cabinet bus with odd parity (R58, R76). -/
def State.strobe (w : Word) (s : State) : State := s.emit [.busWord w (oddParity w)]

/-- A home record (R1). -/
def State.home (s : State) (h : HomeId) : Home := s.lpb.homes.at h

/-- A home's service state. -/
def State.service (s : State) (h : HomeId) : Service := (s.home h).service

/-- A home record changed. -/
def State.updHome (h : HomeId) (f : Home → Home) (s : State) : State :=
  { s with lpb := { s.lpb with homes := s.lpb.homes.upd h f } }

/-- A counter of a home raised (R23). -/
def State.count (h : HomeId) (f : HomeCounters → HomeCounters) (s : State) : State :=
  s.updHome h fun m => { m with ctr := f m.ctr }

/-- The LPB's seconds count (R21). -/
def State.seconds (s : State) : Nat := s.now / Config.second

/-! ## Events (R184) -/

/-- Entries of the report queue, the reservation of R182 included. -/
def Orh.entries (o : Orh) : Nat := o.queue.length + (if o.executing.isSome then 1 else 0)

/-- Events in the report queue. -/
def Orh.events (o : Orh) : Nat := (o.queue.filter Report.isEvent).length

/-- An event offered (R184). -/
def Orh.offer (e : Event) (o : Orh) : Orh :=
  if o.events < 12 ∧ o.entries < 16 then { o with queue := o.queue ++ [⟨0, .event e⟩] }
  else { o with lostEvents := sat32 o.lostEvents 1 }

/-- An event offered to the Order Handler (R184). -/
def State.offer (e : Event) (s : State) : State := { s with orh := s.orh.offer e }

/-- Events offered in order (R184). -/
def State.offerAll (es : List Event) (s : State) : State :=
  { s with orh := es.foldl (fun o e => o.offer e) s.orh }

/-- The reply to the order under execution takes its reserved entry, and the Order Handler returns to IDLE (R182). -/
def State.reply (result : Result) (data : ReplyData) (s : State) : State :=
  match s.orh.executing with
  | none => s
  | some o =>
    { s with orh := { s.orh with queue := s.orh.queue ++ [⟨o.tag, .reply o.code result data⟩], executing := none } }

/-- The order buffer is stalled (R182). -/
def State.stalled (s : State) : Bool := decide (16 ≤ s.orh.entries) || s.orh.restart.isSome

/-! ## Cells (R24, R32, R33) -/

/-- The free count changed, and the pause judged on the new count (R32). -/
def Cqm.setFree (n : Nat) (c : Cqm) : Cqm :=
  { c with free := n, pause := if n < 256 then true else if 384 ≤ n then false else c.pause }

/-- Cells taken from the free list; a fall from 64 or more to below 64 queues CELL_CRITICAL (R33). -/
def State.alloc (n : Nat) (s : State) : State :=
  { s with
    cqm := s.cqm.setFree (s.cqm.free - n)
    orh := if Config.critical ≤ s.cqm.free ∧ s.cqm.free - n < Config.critical
           then s.orh.offer (.cellCritical (s.cqm.free - n)) else s.orh }

/-- Cells returned to the free list. -/
def State.release (n : Nat) (s : State) : State := { s with cqm := s.cqm.setFree (s.cqm.free + n) }

/-- R118: a home's upstream queue has become empty. -/
def Ups.emptied (h : HomeId) (u : Ups) : Ups :=
  { u with homes := u.homes.upd h fun m => { m with deficit := 0 },
           visitOpen := u.visitOpen && u.drrPos != h }

/-- Every frame of a home's upstream queue freed and counted (R14, R40, R41). -/
def State.freeUp (r : UpDrop) (h : HomeId) (s : State) : State :=
  { s with
    lpb := { s.lpb with homes := s.lpb.homes.upd h fun m =>
      { m with ctr := countUpDrop r (s.cqm.up.at h).length m.ctr } }
    cqm := { s.cqm.setFree (s.cqm.free + cellCount (s.cqm.up.at h)) with up := s.cqm.up.put h [] }
    ups := s.ups.emptied h }

/-- Every frame of a home's downstream queue freed and counted (R6, R14, R41). -/
def State.freeDown (r : DownDrop) (h : HomeId) (s : State) : State :=
  { s with
    lpb := { s.lpb with homes := s.lpb.homes.upd h fun m =>
      { m with ctr := countDownDrop r (s.cqm.down.at h).length m.ctr } }
    cqm := { s.cqm.setFree (s.cqm.free + cellCount (s.cqm.down.at h)) with down := s.cqm.down.put h [] } }

/-! ## Service changes (chapter 1) -/

/-- A home moved to a service state. A new sleep period makes the wake record absent (R53); the wake timer runs in
WAKING only (R177); an up state entered from TRAINING or WAKING starts the idle timer (R178); a home that is not in
SLEEP is not in the wake queue (R176), and no WAKE waits for it, since it would find it no longer in SLEEP (R173,
log 59). -/
def State.moveTo (st : Service) (h : HomeId) (s : State) : State :=
  { s with
    lpb := { s.lpb with homes := s.lpb.homes.upd h fun m => { m with service := st } }
    ffu := { s.ffu with wake :=
      if st = .sleep ∧ s.service h ≠ .waking ∧ s.service h ≠ .sleep then s.ffu.wake.put h none else s.ffu.wake }
    bhu := { s.bhu with
      wakeSince := s.bhu.wakeSince.put h (if st = .waking then some s.now else none)
      lastTraffic := if st.isUp ∧ (s.service h = .training ∨ s.service h = .waking)
        then s.bhu.lastTraffic.put h (some s.now) else s.bhu.lastTraffic
      wakeQ := if st = .sleep then s.bhu.wakeQ else s.bhu.wakeQ.erase h
      requests := if st = .sleep then s.bhu.requests else s.bhu.requests.filter fun r => r != (.wake, h) } }

/-- A home put to SLEEP (R7, R8): resume pending cleared, return mode absent. -/
def State.toSleep (h : HomeId) (s : State) : State :=
  (s.updHome h fun m => { m with resume := false, ret := none }).moveTo .sleep h

/-- A home entering DOWN by any cause (R6). -/
def State.enterDown (h : HomeId) (s : State) : State :=
  ((s.updHome h fun m => { m with rateUp := 0, rateDown := 0, learned := [], resume := false, ret := none }).freeDown
    .lineDown h).moveTo .down h

/-- Teardown with the drops' reasons (R14). -/
def State.teardown (up : UpDrop) (down : DownDrop) (h : HomeId) (s : State) : State :=
  ((s.updHome h fun m => { m with learned := [] }).freeUp up h).freeDown down h

/-- A hold taken: the home enters TEST_HELD (R11). -/
def State.hold (h : HomeId) (s : State) : State :=
  ((s.updHome h fun m => { m with ret := none, resume := false, rateUp := 0, rateDown := 0 }).teardown
    .test .test h).moveTo .testHeld h

/-- A home entering ADMIN_DOWN (R13). -/
def State.enterAdminDown (h : HomeId) (s : State) : State :=
  ((s.updHome h fun m => { m with ret := none, resume := false, rateUp := 0, rateDown := 0, flaps := [] }).teardown
    .admin .admin h).moveTo .adminDown h

/-- Traffic of a home reported to the Battery Hold Unit (R178). -/
def State.traffic (h : HomeId) (s : State) : State :=
  { s with bhu := { s.bhu with lastTraffic := s.bhu.lastTraffic.put h (some s.now) } }

/-- A home's idle timer in seconds, holding at 30 (R168, R178). -/
def State.idleSeconds (s : State) (h : HomeId) : Nat :=
  match s.bhu.lastTraffic.at h with
  | none => 30
  | some t => min 30 ((s.now - t) / Config.second)

/-! ## The wake queue (R176, R179) -/

/-- A group's quiet is running (R155). -/
def State.quietRunning (s : State) (g : Group) : Bool := (s.ten.quietEnds.at g).isSome

/-- On mains a home that joins the wake queue is sent WAKE at once, unless its group's quiet runs (R179). -/
def State.wakesAtOnce (s : State) (h : HomeId) : Bool := s.power == .mains && !s.quietRunning (s.home h).group

/-- A wake cause (R176). -/
def State.wakeCause (h : HomeId) (s : State) : State :=
  { s with bhu :=
    if s.service h = .sleep ∧ h ∉ s.bhu.wakeQ then
      if s.wakesAtOnce h then { s.bhu with requests := s.bhu.requests ++ [(.wake, h)] }
      else { s.bhu with wakeQ := s.bhu.wakeQ ++ [h] }
    else s.bhu }

/-- A place at the head of the wake queue, behind the homes the same fitting has withdrawn before (R173, log 24). Once a
QUIET has put another home at the head between two withdrawals, the later one goes before it: the model's choice
(log 65). -/
def Bhu.joinHead (h : HomeId) (b : Bhu) : Bhu :=
  let q := b.wakeQ.erase h
  { b with wakeQ := q.takeWhile (· ∈ b.batch) ++ h :: q.dropWhile (· ∈ b.batch), batch := b.batch ++ [h] }

/-- A home placed at the head of the wake queue (R176). -/
def State.wakeHead (h : HomeId) (s : State) : State :=
  { s with bhu :=
    if s.wakesAtOnce h then { s.bhu with requests := s.bhu.requests ++ [(.wake, h)] } else s.bhu.joinHead h }

/-- A wake that failed (R8, R177): SLEEP, a failure counted, WAKE_FAIL queued, not queued for wake again. -/
def State.wakeFailed (cause : WakeFailCause) (h : HomeId) (s : State) : State :=
  ((s.count h fun c => { c with wakeFailures := sat32 c.wakeFailures 1 }).toSleep h).offer (.wakeFail h cause)

/-! ## Line costs (R170) -/

/-- What a request makes of a service state and return mode (R7, R8). A wake abandon is left out: it lowers the cost only
if it finds the home still WAKING (R177, log 7). -/
def applyRequest (r : ModeRequest) (p : Service × Option Mode) : Service × Option Mode :=
  match r, p with
  | .full, (.upLow, m) => (.upFull, m)
  | .full, (.quiet, _) => (.quiet, some .full)
  | .low, (.upFull, m) => (.upLow, m)
  | .low, (.quiet, _) => (.quiet, some .low)
  | .sleep, (.upFull, _) => (.sleep, none)
  | .sleep, (.upLow, _) => (.sleep, none)
  | .sleep, (.training, _) => (.sleep, none)
  | .sleep, (.quiet, _) => (.quiet, some .sleep)
  | .wake, (.sleep, m) => (.waking, m)
  | .withdraw, (.waking, _) => (.sleep, none)
  | .withdraw, (.upFull, _) => (.sleep, none)
  | _, p => p

/-- A home's service state and return mode as the requests sent to it will leave them (log 7). -/
def State.projected (s : State) (h : HomeId) : Service × Option Mode :=
  s.bhu.requests.foldl (fun p r => if r.2 = h then applyRequest r.1 p else p) (s.service h, (s.home h).ret)

/-- A home's cost now. -/
def State.cost (s : State) (h : HomeId) : Nat := s.cfg.homeCost (s.service h) (s.home h).ret

/-- A home's cost once the requests sent to it are taken. -/
def State.costLeft (s : State) (h : HomeId) : Nat :=
  s.cfg.homeCost (s.projected h).1 (s.projected h).2

/-- The line cost (R170). -/
def State.lineCost (s : State) : Nat := (homeIds.map s.cost).sum

/-- The line cost that the requests sent leave (R171). -/
def State.lineCostLeft (s : State) : Nat := (homeIds.map s.costLeft).sum

/-- The floor: P_sleep for each home in a state that is paid for (R107). -/
def State.floor (s : State) : Nat := s.cfg.pSleep * (homeIds.filter fun h => (s.service h).paid).length

/-! ## The head entry of the test queue (R150, R151) -/

/-- The table of R150 without its power case. -/
def State.examTableFree (s : State) (e : TestEntry) : TestState :=
  if s.storm then .deferred
  else if s.pvw.stuck then .deferred
  else if s.power = .batteryLow then .deferred
  else if s.service e.home = .adminDown then .deferred
  else if s.tbusy then .waiting
  else .claiming

/-- The power case of R150: BATTERY, and A less the line cost below P_test. -/
def State.examPowerShort (s : State) : Bool :=
  s.power == .battery && decide (s.shc.a.getD 0 < s.lineCostLeft + s.cfg.pTest)

/-- The table of R150. -/
def State.examTable (s : State) (e : TestEntry) : TestState :=
  if s.examPowerShort then .deferred else s.examTableFree e

/-- A CLAIM of this station is pending or in a call. -/
def Cbi.claimHeld (c : Cbi) : Bool :=
  c.claim.isSome || (match c.call with | some ⟨.claim _, _, _⟩ => true | _ => false)

/-- A CLAIM withdrawn (R61, R151). Before the contention begins the call is removed, and the Test Engine is told so;
once it has begun the withdrawal waits for the contention or the call. That an examination owed by a withdrawal still
outstanding stands through a further one is the model's choice (log 55). -/
def State.withdrawClaim (rival : Option StationId) (s : State) : State :=
  let owed := s.ten.withdrawal.any Withdrawal.owed
  match s.cbi.claim, s.cbi.call with
  | some c, _ =>
    if s.cbi.contending = some .claim then
      { s with cbi := { s.cbi with claim := some { c with withdrawn := true } },
               ten := { s.ten with withdrawal := some ⟨rival, c.home, none, owed⟩ } }
    else
      { s with cbi := { s.cbi with claim := none },
               ten := { s.ten with withdrawal := some ⟨rival, c.home, some false, owed⟩ } }
  | none, some ⟨.claim c, t, ws⟩ =>
    { s with cbi := { s.cbi with call := some ⟨.claim { c with withdrawn := true }, t, ws⟩ },
             ten := { s.ten with withdrawal := some ⟨rival, c.home, none, owed⟩ } }
  | none, _ =>
    { s with ten := { s.ten with withdrawal := s.ten.withdrawal.map fun w => { w with rival := rival } } }

/-- The test state, with any CLAIM withdrawn (R150, R151). -/
def State.stepBack (st : TestState) (s : State) : State :=
  let t := if s.ten.state = .claiming then s.withdrawClaim none else s
  { t with ten := { t.ten with state := st } }

/-- The examination of the head entry (R150, R151). -/
def State.examine (s : State) : State :=
  if s.ten.state = .connecting ∨ s.ten.state = .measuring ∨ s.ten.state = .releasing then s
  else match s.ten.queue with
  | [] => s.stepBack .idle
  | e :: _ =>
    match s.examTable e with
    | .claiming =>
      match s.ten.withdrawal with
      | some w => { s with ten := { s.ten with withdrawal := some { w with owed := true } } }
      | none =>
        if s.cbi.claimHeld then { s with ten := { s.ten with state := .claiming } }
        else { s with ten := { s.ten with state := .claiming },
                      cbi := { s.cbi with claim := some ⟨e.home, (s.home e.home).group, false⟩ } }
    | st => s.stepBack st

/-- What the examination reads (R150). -/
structure ExamInputs where
  storm : Bool
  tbusy : Bool
  stuck : Bool
  power : PowerMode
  a : Option Nat
  cost : Nat
  head : Option (HomeId × Service)
  deriving DecidableEq, Repr

/-- The inputs of R150's table as they stand. -/
def State.examInputs (s : State) : ExamInputs :=
  { storm := s.storm, tbusy := s.tbusy, stuck := s.pvw.stuck, power := s.power, a := s.shc.a, cost := s.lineCostLeft,
    head := s.ten.queue.head?.map fun e => (e.home, s.service e.home) }

/-- The examination as R150 asks for it: in IDLE, and at each change of an input. -/
def State.examineOnChange (s0 s : State) : State :=
  if s.ten.state = .idle ∨ s0.examInputs ≠ s.examInputs then s.examine else s

/-! ## The requests that stand while their conditions hold -/

/-- Some home upstream queue holds a frame. -/
def Cqm.upWaiting (c : Cqm) : Bool := homeIds.any fun h => !(c.up.at h).isEmpty

/-- The conditions of an UPDATA request (R114). -/
def State.wantsUpdata (s : State) : Bool :=
  !s.working && s.pvw.active.isSome && decide (0 < s.ups.credit) && s.cqm.upWaiting

/-- The move state of R121 on what holds now. -/
def State.moveNow (s : State) : MoveState :=
  if s.working ∧ 0 < s.ups.credit ∧ s.cqm.upWaiting = true then
    if s.ups.move = .blocked then .blocked else .running
  else .idle

/-- The conditions of the Gateway Unit's bulk request (R137). -/
def State.wantsBulk (s : State) : Bool :=
  s.working && (!s.cqm.flood.isEmpty || homeIds.any fun i => i != s.orh.stn && !(s.cqm.stn.at i).isEmpty)

/-- The conditions of an ORDER request (R140). -/
def State.wantsOrder (s : State) : Bool := s.working && s.gwu.orders.any fun m => m.target != s.orh.stn

/-- The conditions of a REPORT request (R185). -/
def State.wantsReport (s : State) : Bool :=
  s.pvw.active.isSome && s.pvw.active != some s.orh.stn && !s.orh.queue.isEmpty

/-- The standing requests judged again: UPDATA (R114), moves (R121), bulk (R137), ORDER (R140), REPORT (R185). -/
def State.judge (s : State) : State :=
  { s with
    ups := { s.ups with
      raised := s.wantsUpdata
      target := if s.wantsUpdata && !s.ups.raised then s.pvw.active.getD s.ups.target else s.ups.target
      move := s.moveNow }
    gwu := { s.gwu with bulkReq := s.wantsBulk, orderReq := s.wantsOrder }
    orh := { s.orh with
      reportReq := s.wantsReport
      reportTarget := if s.wantsReport then s.pvw.active.getD s.orh.reportTarget else s.orh.reportTarget } }

/-- The end of a command that began in `s0`: the examination if its inputs changed, then the standing requests. -/
def State.settle (s0 s : State) : State := (State.examineOnChange s0 s).judge

end Sys2Proof.Machine
end

