-- ==== Sys2Proof/Machine/Filters.lean ====
section
/-! DEFINITION. Filter tests, upstream classing, wake matching and the wake record (chapter 3). -/

namespace Sys2Proof

/-- Whether a filter takes part in tests of a direction (R44). -/
def Filter.takesPart (f : Filter) (upward : Bool) : Bool :=
  f.enabled && (match f.dir with | .up => upward | .down => !upward | .both => true)

/-- A compared position does not prevent a match: it lies at or beyond the frame's end, its byte was not read, or its
byte equals the filter's (R45; positions in `unread` came in words of bad parity, R49, log 14). -/
def Filter.positionOk (f : Filter) (len : Nat) (bytes : List Byte) (unread : List Nat) (p : Fin 64) : Bool :=
  !f.mask.at p || decide (len ≤ p.val) || unread.contains p.val || bytes[p.val]? == some (f.value.at p)

/-- A frame of `len` bytes matches a filter (R45). -/
def Filter.matchesFrame (f : Filter) (len : Nat) (bytes : List Byte) (unread : List Nat) : Bool :=
  decide (f.minLen ≤ len) && (List.finRange 64).all (f.positionOk len bytes unread)

/-- The match set of a test (R45). -/
def matchSet (fs : Tab 8 Filter) (upward : Bool) (len : Nat) (bytes : List Byte) (unread : List Nat) :
    List FilterId :=
  homeIds.filter fun i => (fs.at i).takesPart upward && (fs.at i).matchesFrame len bytes unread

/-- The outcome of upstream classing (R46): absent when the frame is dropped. -/
def upstreamClass (fs : Tab 8 Filter) (bytes : List Byte) : Option FrameClass :=
  let m := matchSet fs true bytes.length bytes []
  if m.any fun i => (fs.at i).acts.drop then none
  else if m.any fun i => (fs.at i).acts.expedite then some .expedited
  else some .ordinary

/-- The wake set of a downstream frame (R47); empty when there is no WAKE match. -/
def wakeSet (fs : Tab 8 Filter) (len : Nat) (bytes : List Byte) (unread : List Nat) : List FilterId :=
  (matchSet fs false len bytes unread).filter fun i => (fs.at i).acts.wake

/-- The learned address list after an offer (R18). -/
def learnAddress (a : Addr) (l : List Addr) : List Addr :=
  if groupBit a ∨ a ∈ l then l else (if 4 ≤ l.length then l.tail else l) ++ [a]

end Sys2Proof

namespace Sys2Proof.Machine

/-- A WAKE match offered to a home's wake record (R53): written only if the record is absent. -/
def State.offerWake (h : HomeId) (ids : List FilterId) (len : Nat) (capture : List Byte) (src : WakeSource)
    (s : State) : State :=
  { s with
    ffu := { s.ffu with
      wake := if (s.ffu.wake.at h).isSome then s.ffu.wake
        else s.ffu.wake.put h (some ⟨ids, len, capture, src, s.service h⟩) } }

/-- An entry of the pending wake list taken up at a burst's good end (R50). -/
def State.applyWake (s : State) (w : PendingWake) : State :=
  match s.service w.home with
  | .sleep => (s.offerWake w.home w.set w.length w.capture w.source).wakeCause w.home
  | .waking => s.offerWake w.home w.set w.length w.capture w.source
  | _ => s

end Sys2Proof.Machine
end

