-- ==== Sys2Proof/Machine/Cells.lean ====
section
/-! DEFINITION. Placing frames on queues, the volume counters that placing feeds, and the room of bus answers
(chapter 2, R123 to R125). -/

namespace Sys2Proof

/-- The crossings of a home's active threshold (R125), with their events in the order the thresholds were held. -/
def crossThresholds : Nat → HomeId → UpsHome → UpsHome × List Event
  | 0, _, m => (m, [])
  | n + 1, h, m =>
    match m.threshold with
    | none => (m, [])
    | some t =>
      if t.bytes ≤ m.volume then
        let eff := min t.weight m.eff
        let rest := crossThresholds n h
          { m with eff, stepFloor := some (min t.weight (m.stepFloor.getD t.weight)), threshold := m.staged.head?,
                   staged := m.staged.tail }
        (rest.1, .volumeStep h t.bytes t.weight eff m.volume :: rest.2)
      else (m, [])

/-- The comparison of R125 with every threshold the home holds. -/
def compareThresholds (h : HomeId) (m : UpsHome) : UpsHome × List Event :=
  crossThresholds (m.staged.length + 1) h m

/-- The reason for which a home's state refuses a downstream frame (R16, R28). -/
def downRefusal : Service → Option DownDrop
  | .down | .training | .unequipped => some .lineDown
  | .testHeld => some .test
  | .adminDown => some .admin
  | .upFull | .upLow | .quiet | .sleep | .waking => none

end Sys2Proof

namespace Sys2Proof.Machine

/-- A length added to a home's volume counter, and the thresholds compared (R123, R125). -/
def State.addVolume (h : HomeId) (len : Nat) (s : State) : State :=
  let r := compareThresholds h { s.ups.homes.at h with volume := sat48 (s.ups.homes.at h).volume len }
  { s with ups := { s.ups with homes := s.ups.homes.put h r.1 }, orh := r.2.foldl (fun o e => o.offer e) s.orh }

/-- Why an upstream frame handed to the CQM is refused; absent when it is placed (R27). -/
def State.upRefusal (s : State) (h : HomeId) (len : Nat) : Option UpDrop :=
  if s.cqm.flush then some .gatewayLost
  else if s.critical then some .critical
  else if s.cfg.upLimits.at h < cellCount (s.cqm.up.at h) + cellsOf len then some .limit
  else none

/-- An upstream frame placed at the tail of its home's queue, its traffic flag set (R27, R86). -/
def State.joinUp (h : HomeId) (f : Frame) (s : State) : State :=
  { s with cqm := { s.cqm with up := s.cqm.up.put h (s.cqm.up.at h ++ [f]) },
           pvw := { s.pvw with traffic := s.pvw.traffic.put h true } }

/-- An upstream frame handed to the CQM (R27) and counted by the LPB (R15, R23). -/
def State.placeUp (h : HomeId) (f : Frame) (s : State) : State :=
  match s.upRefusal h f.length with
  | some r => s.count h (countUpDrop r 1)
  | none => (((s.alloc f.cells).joinUp h f).count h (countUpFrame f.length)).addVolume h f.length

/-- The limit in force of a home's downstream queue (R26). -/
def State.downLimit (s : State) (h : HomeId) : Nat :=
  if (s.service h).asleep then min (s.cfg.downLimits.at h) Config.holdLimit else s.cfg.downLimits.at h

/-- The reason of a downstream drop for the limit (R28). -/
def State.limitReason (s : State) (h : HomeId) : DownDrop := if (s.service h).asleep then .asleep else .limit

/-- A frame joins the tail of a home's downstream queue. -/
def State.joinDown (h : HomeId) (f : Frame) (s : State) : State :=
  { s with cqm := { s.cqm with down := s.cqm.down.put h (s.cqm.down.at h ++ [f]) } }

/-- The checks of R28 after the home state: critical, then limit. -/
def State.downFull (s : State) (h : HomeId) (len : Nat) : Option DownDrop :=
  if s.critical then some .critical
  else if s.downLimit h < cellCount (s.cqm.down.at h) + cellsOf len then some (s.limitReason h)
  else none

/-- A downstream frame past the home state check, placed or refused (R28). -/
def State.placeChecked (h : HomeId) (f : Frame) (s : State) : State :=
  match s.downFull h f.length with
  | some r => s.count h (countDownDrop r 1)
  | none => (s.alloc f.cells).joinDown h f

/-- A downstream frame for an own home, placed from the uplink (R28), with the wake matching of R48. -/
def State.placeDown (h : HomeId) (bytes : List Byte) (s : State) : State :=
  let f : Frame := ⟨some h, .ordinary, false, bytes.length, bytes⟩
  match downRefusal (s.service h) with
  | some r => s.count h (countDownDrop r 1)
  | none =>
    if (s.service h).asleep then
      match wakeSet s.ffu.filters bytes.length bytes [] with
      | [] => s.count h (countDownDrop .asleep 1)
      | ids =>
        let t := (s.placeChecked h f).offerWake h ids bytes.length (bytes.take 64) .uplink
        if s.service h = .sleep then t.wakeCause h else t
    else s.placeChecked h f

/-- The check of R29 for a gateway queue. -/
def State.gatewayFull (s : State) (q : List Frame) (limit len : Nat) : Bool :=
  s.critical || decide (limit < cellCount q + cellsOf len)

/-- A frame from the uplink for a per-station down queue (R29). -/
def State.placeStn (i : StationId) (h : HomeId) (bytes : List Byte) (s : State) : State :=
  let f : Frame := ⟨some h, .ordinary, false, bytes.length, bytes⟩
  if s.gatewayFull (s.cqm.stn.at i) Config.stationLimit bytes.length then
    { s with cqm := { s.cqm with dropStn := s.cqm.dropStn.upd i fun n => sat32 n 1 } }
  else
    let t := s.alloc f.cells
    { t with cqm := { t.cqm with stn := t.cqm.stn.put i (t.cqm.stn.at i ++ [f]) } }

/-- A frame from the uplink for the flood queue (R29). -/
def State.placeFlood (bytes : List Byte) (s : State) : State :=
  let f : Frame := ⟨none, .ordinary, false, bytes.length, bytes⟩
  if s.gatewayFull s.cqm.flood Config.floodLimit bytes.length then
    { s with cqm := { s.cqm with dropFlood := sat32 s.cqm.dropFlood 1 } }
  else
    let t := s.alloc f.cells
    { t with cqm := { t.cqm with flood := t.cqm.flood ++ [f] } }

/-- The room of this station's answer to a data call (R34). -/
def State.room (s : State) (k : CallKind) : Nat :=
  match k with
  | .downdata => s.cqm.free - Config.critical
  | .updata =>
    if s.working then min (s.cfg.uplinkLimit - cellCount s.cqm.uplink) (s.cqm.free - Config.critical) else 0
  | _ => 0

end Sys2Proof.Machine
end

