-- ==== Sys2Proof/Machine/Share.lean ====
section
/-! DEFINITION. The share function and its two uses: the uplink rate and the battery power (chapter 6). -/

namespace Sys2Proof

/-- A participant with what it has been allocated so far (R98): its weight, its demand, and its allocation once it
is satisfied. -/
structure Participant where
  weight : Nat
  demand : Nat
  alloc : Option Nat
  deriving DecidableEq, Repr

/-- A participant that has not been satisfied yet (R98). -/
def Participant.fresh (weight demand : Nat) : Participant := ⟨weight, demand, none⟩

/-- The weights of the open set (R99). -/
def openWeight (ps : List Participant) : Nat :=
  (ps.map fun p => if p.alloc.isSome then 0 else p.weight).sum

/-- A fair share (R99, step 1). -/
def fairShare (c wt : Nat) (p : Participant) : Nat := c * p.weight / wt

/-- Satisfied in this pass (R99, step 2). -/
def satisfiedNow (c wt : Nat) (p : Participant) : Bool := p.alloc.isNone && decide (p.demand ≤ fairShare c wt p)

/-- A satisfied participant gets its demand (R99, step 2). -/
def satisfy (c wt : Nat) (p : Participant) : Participant :=
  if satisfiedNow c wt p then { p with alloc := some p.demand } else p

/-- The demand of the participants satisfied in this pass. -/
def satisfiedDemand (c wt : Nat) (ps : List Participant) : Nat :=
  (ps.map fun p => if satisfiedNow c wt p then p.demand else 0).sum

/-- Passes of the share function (R99, R100): the allocations in the participants' order, and the passes run. -/
def sharePasses : Nat → Nat → Nat → List Participant → List Nat × Nat
  | 0, _, _, ps => (ps.map fun p => p.alloc.getD 0, 0)
  | n + 1, wAll, c, ps =>
    let wt := openWeight ps
    if ps.any (satisfiedNow c wt) then
      let ps' := ps.map (satisfy c wt)
      let c' := c - satisfiedDemand c wt ps
      if ps'.all fun p => p.alloc.isSome then (ps'.map fun p => p.alloc.getD 0 + c' * p.weight / wAll, 1)
      else
        let r := sharePasses n wAll c' ps'
        (r.1, r.2 + 1)
    else (ps.map fun p => p.alloc.getD (fairShare c wt p), 1)

/-- The share function (R98 to R100): the allocation of each participant and the passes run. -/
def share (c0 : Nat) (ps : List (Nat × Nat)) : List Nat × Nat :=
  if ps.isEmpty then ([], 0)
  else sharePasses ps.length (ps.map Prod.fst).sum c0 (ps.map fun p => .fresh p.1 p.2)

end Sys2Proof

namespace Sys2Proof.Machine

/-- The active gateway's peer entry (R103, R106). -/
def State.gatewayEntry (s : State) : Option PeerEntry := s.pvw.peers.find? fun p => some p.id == s.pvw.active

/-- The capacity of the bandwidth calculation (R103). -/
def State.bwCapacity (s : State) : Nat :=
  if s.pvw.active = none then 0
  else if s.pvw.active = some s.orh.stn then (if s.gwu.uplinkUp then s.cfg.u else 0)
  else match s.gatewayEntry with
    | some e => if e.notice.uplinkUp then e.notice.u else 0
    | none => 0

/-- The capacity of the power calculation (R106). -/
def State.pwCapacity (s : State) : Nat :=
  if s.pvw.active = none then s.cfg.fallback
  else if s.pvw.active = some s.orh.stn then s.cfg.b
  else match s.gatewayEntry with
    | some e => e.notice.b
    | none => s.cfg.fallback

/-- A participant's figures, if its weight is above 0. -/
def participant (w d : Nat) : Option (Nat × Nat) := if 0 < w then some (w, d) else none

/-- The other stations in the bandwidth use (R102). -/
def State.bwOthers (s : State) : List (Nat × Nat) :=
  s.pvw.peers.filterMap fun p => participant p.notice.weight p.notice.demand

/-- This station in the bandwidth use (R102). -/
def State.bwSelf (s : State) : Option (Nat × Nat) := s.pvw.latched.bind fun n => participant n.weight n.demand

/-- The other stations in the power use (R106). -/
def State.pwOthers (s : State) : List (Nat × Nat) :=
  s.pvw.peers.filterMap fun p => participant p.notice.powerWeight p.notice.powerDemand

/-- This station in the power use (R106). -/
def State.pwSelf (s : State) : Option (Nat × Nat) :=
  s.pvw.latched.bind fun n => participant n.powerWeight n.powerDemand

/-- The participants of a use, this station first. -/
def participants (self : Option (Nat × Nat)) (others : List (Nat × Nat)) : List (Nat × Nat) := self.toList ++ others

/-- This station's allocation in a use; absent when it is no participant. -/
def ownAllocation (c0 : Nat) (self : Option (Nat × Nat)) (others : List (Nat × Nat)) : Option Nat :=
  match self with
  | none => none
  | some _ => (share c0 (participants self others)).1.head?

/-- The bandwidth target (R104). -/
def bandwidthTarget (k c0 : Nat) (own : Option Nat) : Nat :=
  if c0 = 0 then 0
  else match own with
    | none => min k (min Config.minRate c0)
    | some x => min k (max (min Config.minRate c0) x)

/-- The shaped rate's move toward its target (R105). -/
def nextRate (s t ramp : Nat) : Nat := if t ≤ s then t else min t (s + ramp)

/-- The bandwidth calculation (R101 to R105). That the participants are counted when the capacity is 0 and no pass is run
is the model's choice (log 56). -/
def State.bandwidthCalc (s : State) : State :=
  let c0 := s.bwCapacity
  let own := if c0 = 0 then none else ownAllocation c0 s.bwSelf s.bwOthers
  let t := bandwidthTarget s.cfg.capK c0 own
  { s with shc := { s.shc with
      s := nextRate s.shc.s t s.cfg.ramp
      t := t
      bwCap := c0
      bwShare := own
      bwParts := (participants s.bwSelf s.bwOthers).length
      bwPasses := if c0 = 0 then 0 else (share c0 (participants s.bwSelf s.bwOthers)).2 } }

/-- The allowance of a power calculation (R107). -/
def allowanceOf (floor : Nat) (own : Option Nat) : Nat :=
  match own with
  | some x => max floor x
  | none => floor

/-- The power calculation (R106, R107). -/
def State.powerCalc (s : State) : State :=
  let c0 := s.pwCapacity
  let own := ownAllocation c0 s.pwSelf s.pwOthers
  { s with shc := { s.shc with
      a := some (allowanceOf s.floor own)
      pwCap := c0
      pwShare := own
      pwParts := (participants s.pwSelf s.pwOthers).length
      pwPasses := (share c0 (participants s.pwSelf s.pwOthers)).2 } }

end Sys2Proof.Machine
end

