-- ==== Sys2Proof/Machine/TestOps.lean ====
section
/-! DEFINITION. The Test Engine's shared operations: requests and merging, the arithmetic of measurements, verdicts,
records and the log, the way into RELEASING, suspensions (chapter 9). -/

namespace Sys2Proof

/-! ## Test sets (R149) -/

/-- The union of two sets. -/
def TestSet.union (a b : TestSet) : TestSet := ⟨a.fv || b.fv, a.ir || b.ir, a.cap || b.cap⟩

/-- A set without the steps of another. -/
def TestSet.without (a b : TestSet) : TestSet := ⟨a.fv && !b.fv, a.ir && !b.ir, a.cap && !b.cap⟩

/-- A set with no step. -/
def TestSet.isEmpty (a : TestSet) : Bool := !a.fv && !a.ir && !a.cap

/-- The set with one step. -/
def TestStep.alone : TestStep → TestSet
  | .fv => ⟨true, false, false⟩
  | .ir => ⟨false, true, false⟩
  | .cap => ⟨false, false, true⟩

/-- The next step of a set, in the order FV, IR, CAP (R157). -/
def TestSet.next (a : TestSet) : Option TestStep :=
  if a.fv then some .fv else if a.ir then some .ir else if a.cap then some .cap else none

/-- The step a measurement belongs to. -/
def MeasureKind.step : MeasureKind → TestStep
  | .dcvTG | .dcvRG | .acvTR => .fv
  | .resTR | .resTG | .resRG => .ir
  | .capTR => .cap

/-- The steps whose measurements are held. -/
def stepsOf (ms : List Measurement) : TestSet := ms.foldl (fun a m => a.union m.kind.step.alone) ⟨false, false, false⟩

/-- The steps an entry carries measurements of. -/
def TestEntry.carriedSteps (e : TestEntry) : TestSet := stepsOf ((e.carried.map Carried.meas).getD [])

/-- A request merged into an entry (R149). -/
def TestEntry.merge (e : TestEntry) (set : TestSet) (quiet : Bool) : TestEntry :=
  { e with set := (e.set.union set).without e.carriedSteps, quiet := e.quiet || quiet }

/-! ## Arithmetic (R160 to R162) -/

/-- A resistance from the voltage and current of its reading (R160). -/
def resistance (kind : MeasureKind) (v i : Word) : Measurement :=
  if i.toInt.natAbs < 2 then ⟨kind, 100000000, true, false⟩
  else
    let r := v.toInt.natAbs * 1000000 / i.toInt.natAbs
    if 100000000 < r then ⟨kind, 100000000, false, true⟩ else ⟨kind, r, false, false⟩

/-- The capacitance of a count of t microseconds (R161), within its range (log 32). -/
def capacitance (t : Nat) : Measurement := ⟨.capTR, min (2 * t) 1000000, false, false⟩

/-- The capacitance of a CAP step that timed out (R159). -/
def capacitanceOver : Measurement := ⟨.capTR, 1000000, false, true⟩

/-- The value of a kind among measurements. -/
def valueOf (ms : List Measurement) (k : MeasureKind) : Option Int := (ms.find? fun m => m.kind == k).map Measurement.value

/-- A condition on a measurement that does not apply when the record does not hold it (R162). -/
def measured (ms : List Measurement) (k : MeasureKind) (p : Int → Bool) : Bool :=
  match valueOf ms k with
  | some v => p v
  | none => false

/-- The verdict on measurements (R162). -/
def verdictOf (ms : List Measurement) : Option Verdict :=
  if ms.isEmpty then none
  else if measured ms .dcvTG (fun v => decide (1000 < v.natAbs)) || measured ms .dcvRG (fun v => decide (1000 < v.natAbs)) ||
      measured ms .acvTR (fun v => decide (500 < v)) then some .foreignVoltage
  else if measured ms .resTR (fun v => decide (v < 1000)) then some .short
  else if measured ms .resTG (fun v => decide (v < 1000000)) || measured ms .resRG (fun v => decide (v < 1000000)) then
    some .leaky
  else if measured ms .capTR (fun v => decide (v < 5000)) then some .openLoop
  else some .ok

/-- The loop length in metres (R161). -/
def loopOf (cable : Nat) (ms : List Measurement) : Option Nat :=
  match ms.find? fun m => m.kind == .capTR with
  | some m => if m.overRange then none else some (m.value.toNat / cable)
  | none => none

/-- A foreign voltage above 60 V (R157). -/
def dangerous (ms : List Measurement) : Bool :=
  measured ms .dcvTG (fun v => decide (6000 < v.natAbs)) || measured ms .dcvRG (fun v => decide (6000 < v.natAbs))

/-- The kinds in the order a record gives them (R166). -/
def measureKinds : List MeasureKind := [.dcvTG, .dcvRG, .acvTR, .resTR, .resTG, .resRG, .capTR]

/-- Measurements in a record's order, each kind at most once (R166). -/
def inRecordOrder (ms : List Measurement) : List Measurement :=
  measureKinds.filterMap fun k => ms.find? fun m => m.kind == k

/-! ## Paths of a step (R157, R158) -/

/-- The path of a step's reading. -/
def pathOf (st : TestStep) (n : Nat) : TestPath :=
  match st, n with
  | .fv, 0 => .tg | .fv, 1 => .rg | .fv, _ => .tr
  | _, 0 => .tr | _, 1 => .tg | _, _ => .rg

/-- The measurement of a step's reading. -/
def readingOf (st : TestStep) (n : Nat) (v i ac : Word) : Measurement :=
  match st, n with
  | .fv, 0 => ⟨.dcvTG, v.toInt, false, false⟩
  | .fv, 1 => ⟨.dcvRG, v.toInt, false, false⟩
  | .fv, _ => ⟨.acvTR, ac.toNat, false, false⟩
  | _, 0 => resistance .resTR v i
  | _, 1 => resistance .resTG v i
  | _, _ => resistance .resRG v i

/-- The outcome under which a cancelled RESUMED entry is recorded (R165). -/
def SuspendCause.cancelOutcome : SuspendCause → TestOutcome
  | .storm => .abortedStorm
  | .power => .abortedCancel

end Sys2Proof

namespace Sys2Proof.Machine

/-! ## The test queue (R149) -/

/-- A request for a test (R149): absent when the queue is full. -/
def Ten.request (h : HomeId) (set : TestSet) (quiet : Bool) (origin : Origin) (t : Ten) : Option Ten :=
  if t.queue.any fun e => e.home == h then
    some { t with queue := t.queue.map fun e => if e.home = h then e.merge set quiet else e }
  else if 8 ≤ t.queue.length + (if t.current.isSome then 1 else 0) then none
  else some { t with queue := t.queue ++ [⟨h, set, quiet, origin, origin, none⟩] }

/-- An automatic request of the flap detection (R21): dropped when the queue is full. -/
def State.flapRequest (h : HomeId) (s : State) : State :=
  { s with ten := (s.ten.request h ⟨true, true, true⟩ false .flap).getD s.ten }

/-! ## Records (R166, R167) -/

/-- The log with room for one more record, and the event of an eviction (R167). -/
def Ten.makeRoom (t : Ten) : Ten × List Event :=
  if t.log.length < 16 then (t, [])
  else if t.log.any ResultRecord.read then ({ t with log := t.log.eraseP ResultRecord.read }, [])
  else match t.log with
    | [] => (t, [])
    | r :: rest => ({ t with log := rest, lost := sat32 t.lost 1 }, [.resultsLost r.number])

/-- A record written to the log and TEST_DONE queued (R163, R166, R167). -/
def State.writeRecord (h : HomeId) (origin : Origin) (outcome : TestOutcome) (split : Bool) (meas : List Measurement)
    (s : State) : State :=
  let room := s.ten.makeRoom
  let ms := inRecordOrder meas
  let r : ResultRecord := ⟨room.1.recordNo, h, origin, outcome, split, ms, loopOf s.cfg.cable ms, verdictOf ms, false⟩
  { s with
    ten := { room.1 with log := room.1.log ++ [r], recordNo := (room.1.recordNo + 1) % 256 }
    orh := (room.2 ++ [Event.testDone r.number h outcome r.verdict]).foldl (fun o e => o.offer e) s.orh }

/-- The record that a cancelled RESUMED entry writes if it carries measurements (R165). -/
def State.writeCancelled (h : HomeId) (origin : Origin) (cause : SuspendCause) (meas : List Measurement) (s : State) :
    State :=
  if meas.isEmpty then s else s.writeRecord h origin cause.cancelOutcome true meas

/-! ## Ending and suspending (R163, R164) -/

/-- A pending QUIET withdrawn (R154): removed, or, once its contention has begun, marked. -/
def Cbi.withdrawQuiet (c : Cbi) : Cbi :=
  { c with
    quiet := if c.contending = some .quiet then c.quiet.map fun q => { q with withdrawn := true } else none
    call := match c.call with
      | some ⟨.quiet q, t, ws⟩ => some ⟨.quiet { q with withdrawn := true }, t, ws⟩
      | c => c }

/-- The way into RELEASING (R163, steps 1 and 2; R164), with the outcome of an end or the cause of a suspension. -/
def State.enterReleasing (outcome : Option TestOutcome) (cause : Option SuspendCause) (s : State) : State :=
  { s with
    ten := { s.ten with
      state := .releasing, holdSince := none
      current := s.ten.current.map fun c =>
        { c with phase := .releaseSettle s.now, part := [], outcome := outcome, cause := cause.or c.cause } }
    lpb := { s.lpb with relay := none }
    cbi := s.cbi.withdrawQuiet
    out := s.out ++ [.headSource .off] }

/-- A test in CONNECTING or MEASURING. -/
def State.testHolding (s : State) : Bool := s.ten.state == .connecting || s.ten.state == .measuring

/-- A test in CONNECTING or MEASURING suspended (R164). -/
def State.suspend (cause : SuspendCause) (s : State) : State :=
  if s.testHolding then s.enterReleasing none (some cause) else s

/-- A test in CONNECTING or MEASURING ended with an outcome (R163). -/
def State.endTest (outcome : TestOutcome) (s : State) : State :=
  if s.testHolding then s.enterReleasing (some outcome) none else s

/-- The current test's home. -/
def Ten.currentHome (t : Ten) : Option HomeId := t.current.map CurrentTest.home

end Sys2Proof.Machine
end

