-- ==== Sys2Proof/Machine/Battery.lean ====
section
/-! DEFINITION. The fitting under the allowance, the power calculation's consequences, the admission to TRAINING,
quiet and its end, and the commands of the power lines and of the mode requests (chapter 10, R7 to R10). -/

namespace Sys2Proof

/-- What FULL costs beyond P_sleep (R172). -/
def Cfg.fullOver (c : Cfg) : Nat := c.pFull - c.pSleep

/-- What LOW costs beyond P_sleep (R172). -/
def Cfg.lowOver (c : Cfg) : Nat := c.pLow - c.pSleep

end Sys2Proof

namespace Sys2Proof.Machine

/-! ## The fitting (R171 to R174) -/

/-- A grant and what it takes from the remaining beyond P_sleep. -/
abbrev Offer := Mode × Nat

/-- The first offer that fits the remaining; SLEEP when none does (R172). -/
def grantFirst (remaining : Nat) : List Offer → Mode × Nat
  | [] => (.sleep, remaining)
  | (m, c) :: rest => if c ≤ remaining then (m, remaining - c) else grantFirst remaining rest

/-- One home granted in turn: its grant is recorded and the remaining falls. -/
def grantHome (offers : List Offer) (acc : Tab 8 (Option Mode) × Nat) (h : HomeId) : Tab 8 (Option Mode) × Nat :=
  let g := grantFirst acc.2 offers
  (acc.1.put h (some g.1), g.2)

/-- Insertion by effective weight, higher first; equal weights keep index order (R172). -/
def insertByWeight (w : HomeId → Nat) (h : HomeId) : List HomeId → List HomeId
  | [] => [h]
  | x :: rest => if w x < w h then h :: x :: rest else x :: insertByWeight w h rest

/-- Homes by effective weight, higher first, then by index. -/
def byWeight (w : HomeId → Nat) (hs : List HomeId) : List HomeId := hs.foldl (fun acc h => insertByWeight w h acc) []

/-- UP_FULL, UP_LOW or QUIET. -/
def inService (st : Service) : Bool := st == .upFull || st == .upLow || st == .quiet

/-- The homes in a state, in index order. -/
def State.homesIn (s : State) (st : Service) : List HomeId := homeIds.filter fun h => s.service h == st

/-- The effective weight of a home. -/
def State.eff (s : State) (h : HomeId) : Nat := (s.ups.homes.at h).eff

/-- The candidates of the fitting: with traffic in BATTERY (R172), with the priority flag in BATTERY_LOW (R174). -/
def State.candidates (s : State) : List HomeId :=
  byWeight s.eff (homeIds.filter fun h => inService (s.service h) &&
    (if s.power = .batteryLow then (s.home h).prio else decide (s.idleSeconds h < 30)))

/-- Queued homes that a fitting does not pass over (R172). -/
def State.wakeable (s : State) : List HomeId := s.bhu.wakeQ.filter fun h => !s.quietRunning (s.home h).group

/-- The test reserve is wanted (R171). -/
def State.reserveWanted (s : State) : Bool :=
  s.testHolding || (match s.ten.queue with
    | [] => false
    | e :: _ => s.examTableFree e == .waiting || s.examTableFree e == .claiming)

/-- The result of a fitting. -/
structure Fitting where
  outcome : Tab 8 (Option Mode)
  reserve : Bool
  remaining : Nat
  deriving DecidableEq, Repr

/-- The grants of a fitting under allowance a (R171, R172, R174). -/
def State.fitting (a : Nat) (s : State) : Fitting :=
  let start : Tab 8 (Option Mode) := Tab.make fun h => if (s.service h).paid then some .sleep else none
  let rem := a - s.floor
  if s.power = .batteryLow then
    let r := s.candidates.foldl (grantHome [(.low, s.cfg.lowOver)]) (start, rem)
    ⟨r.1, false, r.2⟩
  else
    let reserve := s.reserveWanted && decide (s.cfg.pTest ≤ rem)
    let rem := if reserve then rem - s.cfg.pTest else rem
    let full : List Offer := [(.full, s.cfg.fullOver)]
    let r := (s.homesIn .training ++ s.homesIn .waking ++ s.wakeable).foldl (grantHome full) (start, rem)
    let r := s.candidates.foldl (grantHome [(.full, s.cfg.fullOver), (.low, s.cfg.lowOver)]) r
    ⟨r.1, reserve, r.2⟩

/-- The request that lowers a home's spending to its grant, if any (R173). -/
def loweringRequest (st : Service) (ret : Option Mode) (grant : Option Mode) : Option ModeRequest :=
  match st, grant with
  | .training, some .sleep => some .sleep
  | .waking, some .sleep => some .withdraw
  | .upFull, some .sleep => some .sleep
  | .upLow, some .sleep => some .sleep
  | .upFull, some .low => some .low
  | .quiet, some .sleep => if ret = some .sleep then none else some .sleep
  | .quiet, some .low => if ret = some .low ∨ ret = some .sleep then none else some .low
  | _, _ => none

/-- The request that raises a home's spending to its grant short of a wake, if any (R173). -/
def raisingRequest (st : Service) (ret : Option Mode) (grant : Option Mode) : Option ModeRequest :=
  match st, grant with
  | .upLow, some .full => some .full
  | .quiet, some .full => if ret = some .full then none else some .full
  | .quiet, some .low => if ret = some .sleep then some .low else none
  | _, _ => none

/-- The homes in the order their groups are granted, the idle ones last (R173). -/
def State.grantOrder (s : State) : List HomeId :=
  let first := s.homesIn .training ++ s.homesIn .waking ++ s.candidates
  first ++ homeIds.filter fun h => !first.contains h

/-- The requests of a fitting (R173): demotions and withdrawals, then raises, then wakes. -/
def State.fittingRequests (s : State) (f : Fitting) : List (ModeRequest × HomeId) :=
  let pick (g : Service → Option Mode → Option Mode → Option ModeRequest) : List (ModeRequest × HomeId) :=
    s.grantOrder.filterMap fun h => (g (s.service h) (s.home h).ret (f.outcome.at h)).map fun r => (r, h)
  let woken := if s.power = .batteryLow then [] else s.wakeable.filter fun h => f.outcome.at h == some .full
  pick loweringRequest ++ pick raisingRequest ++ woken.map fun h => (.wake, h)

/-- The homes whose WAKE has been sent and not taken, in the order it was sent: all are in SLEEP, none is queued. -/
def State.unwoken (s : State) : List HomeId :=
  ((s.bhu.requests.filterMap fun r => if r.1 = .wake then some r.2 else none).eraseDups).filter fun h =>
    s.service h == .sleep && !s.bhu.wakeQ.contains h

/-- The requests of an earlier fitting or of mains that the Line Port Block has not taken are over, and the homes whose
WAKE is among them are back at the head of the wake queue; a wake abandon stands (log 59). -/
def State.recall (s : State) : State :=
  { s with bhu := { s.bhu with
      requests := s.bhu.requests.filter fun r => r.1 == .abandon
      wakeQ := s.unwoken ++ s.bhu.wakeQ } }

/-- The fitting's result recorded, and its requests sent (R171 to R174). A home sent WAKE leaves the wake queue. -/
def State.sendFitting (a : Nat) (s : State) : State :=
  let f := s.fitting a
  let rs := s.fittingRequests f
  { s with bhu := { s.bhu with
      outcome := f.outcome
      reserve := f.reserve
      remaining := f.remaining
      requests := s.bhu.requests ++ rs
      wakeQ := s.bhu.wakeQ.filter fun h => !rs.contains (.wake, h)
      batch := [] } }

/-- A fitting (R171): made on the states as they stand, with the requests still waiting recalled. -/
def State.fit (a : Nat) (s : State) : State := s.recall.sendFitting a

/-- The Test Engine is told the new A: a battery cut suspends a holding test (R164). -/
def State.batteryCut (s : State) : State :=
  if s.power = .battery ∧ s.shc.a.getD 0 < s.floor + s.cfg.pTest then s.suspend .power else s

/-- A power calculation with what follows it: the fitting and the Test Engine's judgement (R107, R171). -/
def State.powerRound (s : State) : State :=
  let t := s.powerCalc
  (t.fit (t.shc.a.getD 0)).batteryCut

/-! ## Entry to TRAINING (R5, R12, R175) -/

/-- The costs of the station's other homes. -/
def State.otherCosts (s : State) (h : HomeId) : Nat := ((homeIds.filter fun x => x != h).map s.costLeft).sum

/-- The part of P_test that R175 counts. -/
def State.testClaim (s : State) : Nat :=
  if s.ten.state = .claiming ∨ s.testHolding = true ∨
      (s.bhu.reserve = true ∧ (s.ten.state = .deferred ∨ s.ten.state = .waiting)) then s.cfg.pTest else 0

/-- A home entering TRAINING, judged on battery (R175). -/
def State.enterTraining (h : HomeId) (s : State) : State :=
  let used := s.otherCosts h + s.testClaim
  let t := s.moveTo .training h
  if s.power = .mains then t
  else if s.power = .battery ∧ used + s.cfg.pFull ≤ s.shc.a.getD 0 then t
  else if used + s.cfg.pSleep ≤ s.shc.a.getD 0 then t.toSleep h
  else (t.toSleep h).powerRound

/-! ## Quiet and its end (R9, R10, R155) -/

/-- A QUIET taken for one home (R9). The homes that were WAKING are placed by `State.quietGroup`. -/
def State.quietHome (g : Group) (s : State) (h : HomeId) : State :=
  if (s.home h).group ≠ g then s
  else match s.service h with
  | .upFull => (s.updHome h fun m => { m with ret := some .full, resume := false }).moveTo .quiet h
  | .upLow => (s.updHome h fun m => { m with ret := some .low, resume := false }).moveTo .quiet h
  | .waking => s.toSleep h
  | _ => s

/-- A QUIET taken for a group by the LPB (R9); the homes whose wake it ends go to the head of the wake queue (R8, R176).
That they go there in index order is the model's choice (log 49). -/
def State.quietGroup (g : Group) (s : State) : State :=
  let woken := (s.homesIn .waking).filter fun h => (s.home h).group = g
  let t := homeIds.foldl (State.quietHome g) s
  { t with bhu := { t.bhu with wakeQ := woken ++ t.bhu.wakeQ.filter fun h => !woken.contains h } }

/-- A group's quiet end set or moved later (R155). -/
def State.setQuietEnd (g : Group) (ms : Nat) (s : State) : State :=
  let e := s.now + ms * 1000
  { s with ten := { s.ten with
      quietEnds := s.ten.quietEnds.put g (some (match s.ten.quietEnds.at g with | some x => max x e | none => e)) } }

/-- A QUIET heard, or the own one gone out (R9, R155). -/
def State.hearQuiet (g : Group) (ms : Nat) (s : State) : State := (s.setQuietEnd g ms).quietGroup g

/-- One home at the end of its group's quiet (R10). -/
def State.unquietHome (g : Group) (s : State) (h : HomeId) : State :=
  if (s.home h).group ≠ g ∨ s.service h ≠ .quiet then s
  else match (s.home h).ret with
  | some .low => (s.updHome h fun m => { m with ret := none, resume := true }).moveTo .upLow h
  | some .sleep => s.toSleep h
  | _ => (s.updHome h fun m => { m with ret := none, resume := true }).moveTo .upFull h

/-- Queued homes of a group sent WAKE on mains (R179). -/
def State.wakeGroup (g : Group) (s : State) : State :=
  let hs := s.bhu.wakeQ.filter fun h => (s.home h).group = g
  if s.power = .mains then
    { s with bhu := { s.bhu with requests := s.bhu.requests ++ hs.map (fun h => (.wake, h)),
                                 wakeQ := s.bhu.wakeQ.filter fun h => !hs.contains h } }
  else s

/-- A group's quiet ended, if one was running (R10, R155, R179). -/
def State.endQuiet (s : State) (g : Group) : State :=
  if s.quietRunning g then
    let t : State := { s with ten := { s.ten with quietEnds := s.ten.quietEnds.put g none } }
    (homeIds.foldl (State.unquietHome g) t).wakeGroup g
  else s

/-- What the fall of TBUSY does (R95, R155). That the groups' quiets end in number order is the model's choice
(log 50). -/
def State.tbusyFell (s : State) : State :=
  let t : State := { s with
    pvw := { s.pvw with stuckCount := 0, stuck := false }
    orh := if s.pvw.stuck then s.orh.offer .tbusyClear else s.orh }
  groupIds.foldl State.endQuiet t

/-! ## Mode requests (R7, R8, R173) -/

/-- The Line Port Block takes a request: it leaves the requests sent. -/
def State.takeRequest (r : ModeRequest) (h : HomeId) (s : State) : State :=
  { s with bhu := { s.bhu with requests := s.bhu.requests.erase (r, h) } }

/-- MODE_REQUEST_FULL (R7). -/
def execModeRequestFull (h : HomeId) (s : State) : Host.Outcome State Fault Refusal :=
  let t := s.fresh.takeRequest .full h
  .next (State.settle s (match s.service h with
    | .upLow => t.moveTo .upFull h
    | .quiet => t.updHome h fun m => { m with ret := some .full }
    | _ => t))

/-- MODE_REQUEST_LOW (R7). -/
def execModeRequestLow (h : HomeId) (s : State) : Host.Outcome State Fault Refusal :=
  let t := s.fresh.takeRequest .low h
  .next (State.settle s (match s.service h with
    | .upFull => t.moveTo .upLow h
    | .quiet => t.updHome h fun m => { m with ret := some .low }
    | _ => t))

/-- MODE_REQUEST_SLEEP (R7). -/
def execModeRequestSleep (h : HomeId) (s : State) : Host.Outcome State Fault Refusal :=
  let t := s.fresh.takeRequest .sleep h
  .next (State.settle s (match s.service h with
    | .upFull | .upLow | .training => t.toSleep h
    | .quiet => t.updHome h fun m => { m with ret := some .sleep }
    | _ => t))

/-- MODE_REQUEST_WAKE (R7, R177): the wake is counted and its timer starts with the state. -/
def execModeRequestWake (h : HomeId) (s : State) : Host.Outcome State Fault Refusal :=
  let t := s.fresh.takeRequest .wake h
  .next (State.settle s (match s.service h with
    | .sleep => (t.count h fun c => { c with wakes := sat32 c.wakes 1 }).moveTo .waking h
    | _ => t))

/-- WAKE_WITHDRAW_REQUEST (R8, R173): a home already in UP_FULL is taken as by a SLEEP request. -/
def execWakeWithdrawRequest (h : HomeId) (s : State) : Host.Outcome State Fault Refusal :=
  let t := s.fresh.takeRequest .withdraw h
  .next (State.settle s (match s.service h with
    | .waking | .upFull => (t.toSleep h).wakeHead h
    | _ => t))

/-- WAKE_ABANDON_REQUEST (R8, R177). -/
def execWakeAbandonRequest (h : HomeId) (s : State) : Host.Outcome State Fault Refusal :=
  let t := s.fresh.takeRequest .abandon h
  .next (State.settle s (match s.service h with
    | .waking => t.wakeFailed .timeLimit h
    | _ => t))

/-! ## Wake causes, timers and the power lines -/

/-- ACTIVITY (R176): a wake cause. -/
def execActivity (h : HomeId) (s : State) : Host.Outcome State Fault Refusal :=
  .next (State.settle s (s.fresh.wakeCause h))

/-- WAKE_TIME_LIMIT (R177): the wake abandon request is sent. -/
def execWakeTimeLimit (h : HomeId) (s : State) : Host.Outcome State Fault Refusal :=
  let t := s.fresh
  .next (State.settle s (
    if (t.bhu.wakeSince.at h).isSome then
      { t with bhu := { t.bhu with requests := t.bhu.requests ++ [(.abandon, h)],
                                   wakeSince := t.bhu.wakeSince.put h none } }
    else t))

/-- IDLE_TIMER_EXPIRY (R178): the idle timer holds at 30 s. -/
def execIdleTimerExpiry (h : HomeId) (s : State) : Host.Outcome State Fault Refusal :=
  let t := s.fresh
  .next (State.settle s { t with bhu := { t.bhu with lastTraffic := t.bhu.lastTraffic.put h none } })

/-- The entry into BATTERY_LOW suspends a holding test (R164). -/
def State.enterLow (s : State) : State := if s.power = .batteryLow then s.suspend .power else s

/-- MAINS_OK_FALL (R106, R169, R171). -/
def execMainsOkFall (s : State) : Host.Outcome State Fault Refusal :=
  let t := s.fresh
  .next (State.settle s (
    if t.pins.mainsOk then
      State.powerRound (State.enterLow { t with pins := { t.pins with mainsOk := false } })
    else t))

/-- BATT_LOW_RISE (R106, R164, R169, R174). -/
def execBattLowRise (s : State) : Host.Outcome State Fault Refusal :=
  let t := s.fresh
  let u : State := { t with pins := { t.pins with battLow := true } }
  .next (State.settle s (
    if t.pins.battLow ∨ t.pins.mainsOk then u else u.enterLow.powerRound))

/-- BATT_LOW_FALL (R169). -/
def execBattLowFall (s : State) : Host.Outcome State Fault Refusal :=
  let t := s.fresh
  .next (State.settle s { t with pins := { t.pins with battLow := false } })

/-- The requests of the return to mains (R179, step 2). That the UP_LOW and the QUIET homes are taken together in index
order is the model's choice (log 64). -/
def State.mainsRaises (s : State) : List (ModeRequest × HomeId) :=
  (homeIds.filter fun h => s.service h == .upLow || s.service h == .quiet).map fun h => (.full, h)

/-- The wake queue served and the low homes raised on mains (R179, steps 1 to 3). -/
def State.serveOnMains (s : State) : State :=
  let q := s.bhu.wakeQ ++ (s.homesIn .sleep).filter fun h => !s.bhu.wakeQ.contains h
  let woken := q.filter fun h => !s.quietRunning (s.home h).group
  { s with
    shc := { s.shc with a := none }
    bhu := { s.bhu with
      reserve := false
      requests := s.bhu.requests ++ s.mainsRaises ++ woken.map fun h => (.wake, h)
      wakeQ := q.filter fun h => !woken.contains h } }

/-- The return to mains (R179): the requests still waiting are recalled, so that no demotion of a fitting outlives the
battery (log 59). -/
def State.returnToMains (s : State) : State := s.recall.serveOnMains

/-- MAINS_OK_RISE (R169, R179). -/
def execMainsOkRise (s : State) : Host.Outcome State Fault Refusal :=
  let t := s.fresh
  .next (State.settle s (
    if t.pins.mainsOk then t
    else State.returnToMains { t with pins := { t.pins with mainsOk := true } }))

end Sys2Proof.Machine
end

