-- ==== Sys2Proof/Machine/Lines.lean ====
section
/-! DEFINITION. The commands of the line ports: link reports, wake failures, frames in both directions, surges and
STORM (chapter 1). -/

namespace Sys2Proof.Machine

/-! ## Link reports (R2, R5, R6, R8, R10, R21) -/

/-- A link loss is expected while STORM is asserted or the excuse window runs (R20). -/
def State.lossExpected (s : State) : Bool := s.storm || s.lpb.excuseEnd.isSome

/-- The flap list with a new time (R21). -/
def pushFlap (t : Nat) (l : List Nat) : List Nat := (if 3 ≤ l.length then l.tail else l) ++ [t]

/-- The flap list triggers a flap test (R21). -/
def flapsTrigger (l : List Nat) : Bool :=
  match l with
  | [a, _, c] => decide (c - a ≤ 900)
  | _ => false

/-- An unexpected link loss counted and judged (R21). -/
def State.countLoss (h : HomeId) (s : State) : State :=
  let l := pushFlap s.seconds (s.home h).flaps
  let fire := flapsTrigger l && s.cfg.autoTests
  let t := s.updHome h fun m =>
    { m with flaps := if fire then [] else l, ctr := { m.ctr with flaps := sat32 m.ctr.flaps 1 } }
  if fire then t.flapRequest h else t

/-- A link loss (R6), judged as R20 and R21 state. -/
def State.linkLoss (h : HomeId) (s : State) : State :=
  let t := s.enterDown h
  if s.lossExpected then t else t.countLoss h

/-- A home that a link report of UP finds in DOWN: it passes through TRAINING, where the admission of R175 may stop
it (R5). -/
def State.upFromDown (h : HomeId) (s : State) : State :=
  let t := s.enterTraining h
  if t.service h = .training then t.moveTo .upFull h else t

/-- What a link report does to the service state (R5, R6, R8, R10). -/
def State.applyLink (h : HomeId) (st : LinkState) (s : State) : State :=
  match s.service h, st with
  | .down, .training => s.enterTraining h
  | .down, .up => s.upFromDown h
  | .training, .up => s.moveTo .upFull h
  | .training, .down | .training, .dormant => s.enterDown h
  | .waking, .up => s.moveTo .upFull h
  | .waking, .down => s.wakeFailed .down h
  | .upFull, .up | .upLow, .up => s.updHome h fun m => { m with resume := false }
  | .upFull, .down | .upLow, .down => if (s.home h).resume then s.enterDown h else s.linkLoss h
  | .upFull, .dormant | .upLow, .dormant => if (s.home h).resume then s else s.linkLoss h
  | _, _ => s

/-- LINK_STATE_REPORT (R2, R5): the report is recorded, then moves the service state. -/
def execLinkStateReport (h : HomeId) (st : LinkState) (s : State) : Host.Outcome State Fault Refusal :=
  .next (State.settle s ((s.fresh.updHome h fun m => { m with link := st }).applyLink h st))

/-- The three states in which rate reports are ignored (R2). -/
def ignoresRates : Service → Bool
  | .unequipped | .adminDown | .testHeld => true
  | _ => false

/-- RATE_REPORT (R2). -/
def execRateReport (h : HomeId) (up down : Word) (s : State) : Host.Outcome State Fault Refusal :=
  let t := s.fresh
  .next (if ignoresRates (s.service h) then t
    else t.updHome h fun m => { m with rateUp := up.toNat, rateDown := down.toNat })

/-- WAKE_FAILURE (R2, R8, R10). -/
def execWakeFailure (h : HomeId) (s : State) : Host.Outcome State Fault Refusal :=
  let t := s.fresh
  .next (State.settle s (
    if s.service h = .waking then t.wakeFailed .failure h
    else if (s.home h).resume then t.enterDown h
    else t))

/-! ## Frames (R15, R16) -/

/-- A taken upstream frame: length, filters, learning, queueing (R15). -/
def State.takeUpstream (h : HomeId) (bytes : List Byte) (s : State) : State :=
  let t := s.traffic h
  if bytes.length < 14 ∨ 1536 < bytes.length then t.count h (countUpDrop .length 1)
  else match upstreamClass s.ffu.filters bytes with
  | none => t.count h (countUpDrop .filter 1)
  | some cls =>
    (t.updHome h fun m => { m with learned := learnAddress (sourceOf bytes) m.learned }).placeUp h
      ⟨some h, cls, false, bytes.length, bytes⟩

/-- UPSTREAM_FRAME (R4, R14, R15). -/
def execUpstreamFrame (h : HomeId) (bytes : List Byte) (s : State) : Host.Outcome State Fault Refusal :=
  let t := s.fresh
  .next (State.settle s (match s.service h with
    | .unequipped => t
    | .testHeld => t.count h (countUpDrop .test 1)
    | .adminDown => t.count h (countUpDrop .admin 1)
    | _ => t.takeUpstream h bytes))

/-- A downstream frame may be given (R16). -/
def State.mayGive (s : State) (h : HomeId) (ready : Bool) : Bool :=
  ready && (s.service h).isUp && !(s.home h).resume && (s.home h).link == .up && (s.lpb.giving.at h).isNone

/-- DOWNSTREAM_GIVE_START (R16): the head frame leaves the queue; its cells stay taken. -/
def execDownstreamGiveStart (h : HomeId) (ready : Bool) (s : State) : Host.Outcome State Fault Refusal :=
  let t := s.fresh
  .next (match s.mayGive h ready, s.cqm.down.at h with
    | true, f :: rest =>
      { t with lpb := { t.lpb with giving := t.lpb.giving.put h (some f) },
               cqm := { t.cqm with down := t.cqm.down.put h rest },
               out := [.downFrame h f.bytes] }
    | _, _ => t)

/-- DOWNSTREAM_FRAME_TAKEN (R16, R31, R123). -/
def execDownstreamFrameTaken (h : HomeId) (s : State) : Host.Outcome State Fault Refusal :=
  let t := s.fresh
  .next (State.settle s (match s.lpb.giving.at h with
    | none => t
    | some f =>
      let u : State := { t with lpb := { t.lpb with giving := t.lpb.giving.put h none } }
      ((((u.release f.cells).count h (countDownFrame f.length)).traffic h).addVolume h f.length)))

/-! ## Surges and STORM (R19, R20, R22) -/

/-- The length of the storm hold and of the excuse window (R19, R20). -/
def State.stormLength (s : State) : Nat := s.cfg.stormHold * Config.second

/-- STORM has risen: the relay opens and a holding test is suspended (R22, R164). -/
def State.stormRose (s : State) : State :=
  State.suspend .storm { s with lpb := { s.lpb with relay := none } }

/-- STORM has fallen: the excuse window starts (R20). -/
def State.stormFell (s : State) : State :=
  { s with lpb := { s.lpb with excuseEnd := some (s.now + s.stormLength) } }

/-- The storm hold started, or restarted with its full duration (R19). -/
def State.startHold (h : HomeId) (s : State) : State :=
  { s with lpb := { s.lpb with stormEnd := some (s.now + s.stormLength) },
           orh := if s.stormDriven then s.orh else s.orh.offer (.stormBegin h) }

/-- SURGE (R19, R22): ignored for an UNEQUIPPED home (R4). -/
def execSurge (h : HomeId) (s : State) : Host.Outcome State Fault Refusal :=
  let t := s.fresh
  .next (State.settle s (
    if s.service h = .unequipped then t
    else
      let u := (t.count h fun c => { c with surges := sat32 c.surges 1 }).startHold h
      if s.storm then u else u.stormRose))

/-- STORM_HOLD_EXPIRY (R19, R20): the line falls with the own drive unless another station drives it (log 10). -/
def execStormHoldExpiry (s : State) : Host.Outcome State Fault Refusal :=
  let t := s.fresh
  .next (State.settle s (
    if t.stormDriven then
      let u : State := { t with lpb := { t.lpb with stormEnd := none }, orh := t.orh.offer .stormEnd }
      if u.storm then u else u.stormFell
    else t))

/-- STORM_RISE: another station drives STORM (R19, R22). -/
def execStormRise (s : State) : Host.Outcome State Fault Refusal :=
  let t := s.fresh
  let u : State := { t with pins := { t.pins with stormOthers := true } }
  .next (State.settle s (if s.storm then u else u.stormRose))

/-- STORM_FALL: the other stations stop driving STORM (R19, R20). -/
def execStormFall (s : State) : Host.Outcome State Fault Refusal :=
  let t := s.fresh
  let u : State := { t with pins := { t.pins with stormOthers := false } }
  .next (State.settle s (if s.storm && !u.storm then u.stormFell else u))

/-- EXCUSE_WINDOW_EXPIRY (R20). -/
def execExcuseWindowExpiry (s : State) : Host.Outcome State Fault Refusal :=
  let t := s.fresh
  .next { t with lpb := { t.lpb with excuseEnd := none } }

end Sys2Proof.Machine
end

