-- ==== Sys2Proof/Machine/Testing.lean ====
section
/-! DEFINITION. The commands of the Test Engine: claims, connecting, measurement steps, releasing, TBUSY and quiet
ends (chapter 9). -/

namespace Sys2Proof.Machine

/-! ## Claims and connecting (R151 to R154) -/

/-- The current test that a head entry becomes (R154): the entry's fields, its carried measurements and cause among
them. -/
def testOf (e : TestEntry) (now : Nat) : CurrentTest :=
  let ms := (e.carried.map Carried.meas).getD []
  { home := e.home, set := e.set, quiet := e.quiet, origin := e.origin, firstOrigin := e.firstOrigin,
    split := !ms.isEmpty, phase := .relaySettle now, meas := ms, part := [], cut := false, outcome := none,
    cause := e.carried.map Carried.cause, cancelled := false }

/-- A hold is refused in UNEQUIPPED and ADMIN_DOWN (R11). -/
def holdRefused (st : Service) : Bool := st == .unequipped || st == .adminDown

/-- The relay close request of a new test, taken or refused (R22, R154). -/
def State.closeRelay (h : HomeId) (s : State) : State :=
  if s.service h = .testHeld ∧ s.storm = false ∧ s.lpb.relay = none then
    { s with lpb := { s.lpb with relay := some h } }
  else s.enterReleasing none (some .storm)

/-- CONNECTING entered with the head entry: TBUSY driven, the head link DRIVING, hold and relay requested (R151,
R154). -/
def State.connect (s : State) : State :=
  match s.ten.queue with
  | [] => s
  | e :: rest =>
    let t : State := { s with ten := { s.ten with
      state := .connecting, queue := rest, current := some (testOf e s.now), tbusyDrive := true, headDriving := true
      holdSince := some s.now } }
    if holdRefused (s.service e.home) then t.enterReleasing (some .abortedAdmin) none
    else ((t.hold e.home).emit [.headSource .off]).closeRelay e.home

/-- The Test Engine is told that a CLAIM has gone out (R72, R151); a withdrawn one waits to be settled (R152). -/
def State.claimOut (withdrawn : Bool) (s : State) : State :=
  if withdrawn then
    { s with ten := { s.ten with withdrawal := s.ten.withdrawal.map fun w => { w with settled := some true } } }
  else if s.ten.state = .claiming then s.connect
  else s

/-- CLAIM_HEARD (R151, R153). -/
def execClaimHeard (caller : StationId) (h : HomeId) (g : Group) (s : State) : Host.Outcome State Fault Refusal :=
  let t := s.fresh
  let t : State := { t with cbi := { t.cbi with heard := t.cbi.heard.erase (.claim caller h g) } }
  .next (State.settle s (
    if s.ten.state = .claiming then
      let u := t.withdrawClaim (some caller)
      { u with ten := { u.ten with state := .waiting } }
    else if s.testHolding = true ∧ s.orh.stn ≤ caller then t.endTest .abortedConflict
    else t))

/-- A withdrawn CLAIM that went out makes this station connect (R152). -/
def State.claimsAnyway (s : State) (w : Withdrawal) : Bool :=
  w.settled == some true && s.ten.state == .waiting &&
    (match w.rival with | some r => decide (r < s.orh.stn) | none => false) &&
    (s.ten.queue.head?.map TestEntry.home == some w.home)

/-- CLAIM_WITHDRAWAL_SETTLED (R151, R152). -/
def execClaimWithdrawalSettled (s : State) : Host.Outcome State Fault Refusal :=
  let t := s.fresh
  .next (State.settle s (match s.ten.withdrawal with
    | some w =>
      if w.settled = none then t
      else
        let u : State := { t with ten := { t.ten with withdrawal := none } }
        if s.claimsAnyway w then u.connect else if w.owed then u.examine else u
    | none => t))

/-! ## Steps (R157 to R159) -/

/-- The current test changed. -/
def State.updTest (f : CurrentTest → CurrentTest) (s : State) : State :=
  { s with ten := { s.ten with current := s.ten.current.map f } }

/-- A step begun: its commands to the head and its first wait (R157 to R159). -/
def State.startStep (st : TestStep) (s : State) : State :=
  match st with
  | .fv => (s.updTest fun c => { c with phase := .pathSettle .fv 0 s.now, part := [] }).emit
      [.headSource .off, .headSelect .tg]
  | .ir => (s.updTest fun c => { c with phase := .pathSettle .ir 0 s.now, part := [] }).emit
      [.headSelect .tr, .headSource .dc48]
  | .cap => (s.updTest fun c => { c with phase := .capArmed s.now, part := [] }).emit
      [.headSelect .tr, .headSource .cc10ua]

/-- The next step of the set, or the end of the test: COMPLETE, or PARTIAL when a dangerous voltage has cut IR or CAP
(R157, R159). -/
def State.nextStep (s : State) : State :=
  match s.ten.current with
  | none => s
  | some c =>
    match c.set.next with
    | some st => s.startStep st
    | none => s.endTest (if c.cut then .partialResult else .complete)

/-- MEASURING entered (R154). -/
def State.measure (s : State) : State := State.nextStep { s with ten := { s.ten with state := .measuring } }

/-- A step completed: its measurements are entered; after FV a dangerous voltage takes IR and CAP out of the set
(R157). -/
def finishStep (st : TestStep) (ms : List Measurement) (c : CurrentTest) : CurrentTest :=
  let left := c.set.without st.alone
  let meas := c.meas ++ ms
  if st = .fv ∧ dangerous ms = true then
    { c with meas, set := ⟨false, false, false⟩, cut := c.cut || left.ir || left.cap, part := [] }
  else { c with meas, set := left, part := [] }

/-- A step completed, and the next one begun or the test ended. -/
def State.completeStep (st : TestStep) (ms : List Measurement) (s : State) : State :=
  (s.updTest (finishStep st ms)).nextStep

/-- RELAY_SETTLE_END (R154, step 3). -/
def execRelaySettleEnd (s : State) : Host.Outcome State Fault Refusal :=
  let t := s.fresh
  .next (State.settle s (match s.ten.state, s.ten.current with
    | .connecting, some ⟨home, _, quiet, _, _, _, .relaySettle _, _, _, _, _, _, _⟩ =>
      if quiet then
        let u := t.updTest fun c => { c with phase := .quietCall }
        { u with cbi := { u.cbi with quiet := some ⟨(s.home home).group, 2000, false⟩ } }
      else t.measure
    | _, _ => t))

/-- The Test Engine is told that its QUIET has gone out (R154, R155). -/
def State.quietOut (q : QuietCall) (s : State) : State :=
  let t := s.hearQuiet q.group q.ms
  match q.withdrawn, s.ten.state, s.ten.current.map CurrentTest.phase with
  | false, .connecting, some .quietCall => t.updTest fun c => { c with phase := .quietSettle s.now }
  | _, _, _ => t

/-- QUIET_SETTLE_END (R154). -/
def execQuietSettleEnd (s : State) : Host.Outcome State Fault Refusal :=
  let t := s.fresh
  .next (State.settle s (match s.ten.state, s.ten.current.map CurrentTest.phase with
    | .connecting, some (.quietSettle _) => t.measure
    | _, _ => t))

/-- STEP_SETTLE_END (R156, R157): READ is sent. -/
def execStepSettleEnd (s : State) : Host.Outcome State Fault Refusal :=
  let t := s.fresh
  .next (match s.ten.state, s.ten.current.map CurrentTest.phase with
    | .measuring, some (.pathSettle st n _) =>
      (t.updTest fun c => { c with phase := .reading st n s.now }).emit [.headRead]
    | _, _ => t)

/-- A reading taken: the next path, or the step's end (R157, R158). -/
def State.takeReading (st : TestStep) (n : Nat) (v i ac : Word) (s : State) : State :=
  let m := readingOf st n v i ac
  if n < 2 then
    (s.updTest fun c => { c with phase := .pathSettle st (n + 1) s.now, part := c.part ++ [m] }).emit
      [.headSelect (pathOf st (n + 1))]
  else
    let ms := ((s.ten.current.map CurrentTest.part).getD []) ++ [m]
    (if st = .ir then s.emit [.headSource .off] else s).completeStep st ms

/-- HEAD_READ_RESPONSE (R156 to R158): without READY the READ is sent again. -/
def execHeadReadResponse (v i ac : Word) (ready : Bool) (s : State) : Host.Outcome State Fault Refusal :=
  let t := s.fresh
  .next (State.settle s (match s.ten.state, s.ten.current.map CurrentTest.phase with
    | .measuring, some (.reading st n _) => if ready then t.takeReading st n v i ac else t.emit [.headRead]
    | _, _ => t))

/-- HEAD_READ_TIMEOUT (R156). -/
def execHeadReadTimeout (s : State) : Host.Outcome State Fault Refusal :=
  let t := s.fresh
  .next (State.settle s (match s.ten.state, s.ten.current.map CurrentTest.phase with
    | .measuring, some (.reading ..) => t.endTest .headFault
    | _, _ => t))

/-- CROSS_RISE (R159): the 1 us timer starts. -/
def execCrossRise (s : State) : Host.Outcome State Fault Refusal :=
  let t := s.fresh
  .next (match s.ten.state, s.ten.current.map CurrentTest.phase with
    | .measuring, some (.capArmed since) => t.updTest fun c => { c with phase := .capTiming since s.now }
    | _, _ => t)

/-- CROSS_FALL (R159, R161). -/
def execCrossFall (s : State) : Host.Outcome State Fault Refusal :=
  let t := s.fresh
  .next (State.settle s (match s.ten.state, s.ten.current.map CurrentTest.phase with
    | .measuring, some (.capTiming _ rise) =>
      (t.emit [.headSource .off]).completeStep .cap [capacitance (s.now - rise)]
    | _, _ => t))

/-- CAP_TIMEOUT (R159). -/
def execCapTimeout (s : State) : Host.Outcome State Fault Refusal :=
  let t := s.fresh
  .next (State.settle s (match s.ten.state, s.ten.current.map CurrentTest.phase with
    | .measuring, some (.capArmed _) => (t.emit [.headSource .off]).completeStep .cap [capacitanceOver]
    | .measuring, some (.capTiming ..) => (t.emit [.headSource .off]).completeStep .cap [capacitanceOver]
    | _, _ => t))

/-- HOLD_TIME_LIMIT (R163). -/
def execHoldTimeLimit (s : State) : Host.Outcome State Fault Refusal :=
  .next (State.settle s (s.fresh.endTest .abortedTimeout))

/-! ## Releasing (R12, R163, R164) -/

/-- A home released from TEST_HELD (R12). -/
def State.releaseHome (h : HomeId) (s : State) : State :=
  if s.service h = .testHeld then (s.emit [.restartStrobe h]).enterTraining h else s

/-- The entry that a suspended test becomes (R164). -/
def resumedEntry (c : CurrentTest) (cause : SuspendCause) : TestEntry :=
  ⟨c.home, c.set, c.quiet, .resumed, c.firstOrigin, some ⟨c.meas, cause⟩⟩

/-- A suspended test back at the head of the queue, merged with an entry for its home (R149, R164). -/
def Ten.requeue (c : CurrentTest) (cause : SuspendCause) (t : Ten) : Ten :=
  let e := resumedEntry c cause
  match t.queue.find? fun x => x.home == c.home with
  | some x => { t with queue := e.merge x.set x.quiet :: t.queue.filter fun y => y.home != c.home }
  | none => { t with queue := e :: t.queue }

/-- TBUSY no longer driven and the head link RELEASED (R163, step 4). -/
def State.releaseBus (s : State) : State :=
  let t : State := { s with ten := { s.ten with tbusyDrive := false, headDriving := false } }
  if s.tbusy && !t.tbusy then t.tbusyFell else t

/-- What a test leaves behind: its record, or its entry back in the queue (R163, step 5; R164, R165). An outcome goes before
a cancellation (log 68). -/
def State.fileTest (c : CurrentTest) (s : State) : State :=
  match c.outcome, c.cause with
  | some o, _ => s.writeRecord c.home c.firstOrigin o c.split c.meas
  | none, some cause =>
    if c.cancelled then s.writeCancelled c.home c.firstOrigin cause c.meas
    else { s with ten := s.ten.requeue c cause }
  | none, none => s

/-- RELEASE_SETTLE_END (R163, steps 3 to 6). -/
def execReleaseSettleEnd (s : State) : Host.Outcome State Fault Refusal :=
  let t := s.fresh
  .next (State.settle s (match s.ten.state, s.ten.current with
    | .releasing, some c =>
      let u := (if c.outcome = some .abortedAdmin then t else t.releaseHome c.home).releaseBus
      let v := u.fileTest c
      { v with ten := { v.ten with state := .idle, current := none } }
    | _, _ => t))

/-! ## Admin release (R13) -/

/-- The test of a home that the operator disables (R13, R163). That ABORTED_ADMIN also stands over a cancellation of the
suspension that it finds in RELEASING is the model's choice (log 68). -/
def State.abortForAdmin (h : HomeId) (s : State) : State :=
  if s.ten.currentHome = some h then
    if s.ten.state = .releasing then s.updTest fun c => { c with outcome := some .abortedAdmin }
    else s.endTest .abortedAdmin
  else s

/-! ## TBUSY and quiet (R95, R151, R155) -/

/-- TBUSY_RISE: another station drives TBUSY (R151). -/
def execTbusyRise (s : State) : Host.Outcome State Fault Refusal :=
  let t := s.fresh
  let u : State := { t with pins := { t.pins with tbusyOthers := true } }
  .next (State.settle s (
    if s.tbusy = false ∧ s.ten.state = .claiming then
      let v := u.withdrawClaim none
      { v with ten := { v.ten with state := .waiting } }
    else u))

/-- TBUSY_FALL: the other stations release TBUSY (R95, R155). -/
def execTbusyFall (s : State) : Host.Outcome State Fault Refusal :=
  let t := s.fresh
  let u : State := { t with pins := { t.pins with tbusyOthers := false } }
  .next (State.settle s (if s.tbusy && !u.tbusy then u.tbusyFell else u))

/-- QUIET_END_EXPIRY (R155). -/
def execQuietEndExpiry (g : Group) (s : State) : Host.Outcome State Fault Refusal :=
  .next (State.settle s (s.fresh.endQuiet g))

/-- QUIET_HEARD (R9, R72, R155): a duration above 2000 ms is taken as 2000 ms. -/
def execQuietHeard (g : Group) (ms : Word) (s : State) : Host.Outcome State Fault Refusal :=
  let t := s.fresh
  let t : State := { t with cbi := { t.cbi with heard := t.cbi.heard.erase (.quiet g ms) } }
  .next (State.settle s (t.hearQuiet g (min ms.toNat 2000)))

end Sys2Proof.Machine
end

