-- ==== Sys2Proof/Machine/Schedule.lean ====
section
/-! DEFINITION. The Upstream Scheduler's choices, the filling of UPDATA bursts, moves, refunds, credit and the
learning of the address table that moves feed (chapter 7, R134, R135). -/

namespace Sys2Proof

/-- The rotation of homes that starts after one (R116). -/
def rotationAfter (h : HomeId) : List HomeId := (List.range 8).map fun k => octal (h.val + 1 + k)

/-- How a choice was made (R115). -/
inductive ChoiceRule where
  | expedited | drr
  deriving DecidableEq, Repr

/-- Credit raised by n bytes, capped at the bucket depth (R112, R113). -/
def addCredit (credit : Int) (n depth : Nat) : Int := min (credit + n) depth

end Sys2Proof

namespace Sys2Proof.Machine

/-- What the scheduler chooses from: its own items and the home upstream queues. -/
structure Sched where
  ups : Ups
  up : Tab 8 (List Frame)
  deriving DecidableEq, Repr

/-- The head frame of a home's upstream queue. -/
def Sched.head (x : Sched) (h : HomeId) : Option Frame := (x.up.at h).head?

/-- A home eligible under the expedited rule (R116). -/
def Sched.eligible (x : Sched) (h : HomeId) : Bool :=
  (match x.head h with | some f => f.cls == .expedited | none => false) && decide ((x.ups.homes.at h).expCount < 16)

/-- The expedited rule's choice (R116). -/
def Sched.expChoice (x : Sched) : Option HomeId := (rotationAfter x.ups.expLast).find? x.eligible

/-- A visit opened at the next home with a frame (R117, step 2). -/
def Sched.visitNext (x : Sched) : Option Sched :=
  ((rotationAfter x.ups.drrPos).find? fun h => !(x.up.at h).isEmpty).map fun h =>
    { x with ups := { x.ups with
        drrPos := h, visitOpen := true
        homes := x.ups.homes.upd h fun m => { m with deficit := m.deficit + m.eff * 512 } } }

/-- The deficit round robin's choice (R117): the home offered, with the visits made on the way. The fuel bounds the
visits; a home with a frame is offered within three of its visits, so 32 suffice. -/
def Sched.drrChoice : Nat → Sched → Option (HomeId × Sched)
  | 0, _ => none
  | n + 1, x =>
    let here := x.ups.visitOpen && (match x.head x.ups.drrPos with
      | some f => decide (f.length ≤ (x.ups.homes.at x.ups.drrPos).deficit)
      | none => false)
    if here then some (x.ups.drrPos, x)
    else match x.visitNext with
      | none => none
      | some y => y.drrChoice n

/-- A choice: the expedited rule, then the deficit round robin (R115). -/
def Sched.choose (x : Sched) : Option (ChoiceRule × HomeId × Sched) :=
  match x.expChoice with
  | some h => some (.expedited, h, x)
  | none => (x.drrChoice 32).map fun r => (.drr, r.1, r.2)

/-- The charge of a taken frame (R113, R116, R117), and the deficit of a queue that has become empty (R118). -/
def chargeTake (rule : ChoiceRule) (h : HomeId) (len : Nat) (nowEmpty : Bool) (u : Ups) : Ups :=
  let v : Ups := match rule with
    | .expedited => { u with credit := u.credit - len, expLast := h,
                             homes := u.homes.upd h fun m => { m with expCount := m.expCount + 1 } }
    | .drr => { u with credit := u.credit - len,
                       homes := u.homes.upd h fun m => { m with deficit := m.deficit - len } }
  if nowEmpty then v.emptied h else v

/-- The head frame of the chosen home taken (R115). -/
def Sched.take (rule : ChoiceRule) (h : HomeId) (x : Sched) : Sched :=
  match x.up.at h with
  | [] => x
  | f :: rest => { ups := chargeTake rule h f.length rest.isEmpty x.ups, up := x.up.put h rest }

/-- The test of a chosen frame for an UPDATA burst (R115). -/
def burstTakes (credit : Int) (room : Nat) (taken : List Frame) (f : Frame) : Bool :=
  decide (0 < credit) && decide (cellCount taken + f.cells ≤ room) && decide (taken.length < 8) &&
    decide (byteCount taken + f.length ≤ 4096)

/-- An UPDATA burst filled frame by frame (R115). A choice whose frame fails the test leaves the scheduler as the
choice found it. -/
def Sched.fill : Nat → Nat → Sched → List Frame → Sched × List Frame
  | 0, _, x, fs => (x, fs)
  | n + 1, room, x, fs =>
    match x.choose with
    | none => (x, fs)
    | some (rule, h, y) =>
      match y.head h with
      | none => (x, fs)
      | some f => if burstTakes x.ups.credit room fs f then (y.take rule h).fill n room (fs ++ [f]) else (x, fs)

/-- The scheduler's part of the state. -/
def State.sched (s : State) : Sched := ⟨s.ups, s.cqm.up⟩

/-- The scheduler's part put back. -/
def State.withSched (x : Sched) (s : State) : State := { s with ups := x.ups, cqm := { s.cqm with up := x.up } }

/-- An UPDATA burst taken into the burst in assembly (R35, R115). At most 8 frames are taken, so 9 choices suffice. -/
def State.fillUpdata (room : Nat) (s : State) : State × List Frame :=
  let r := s.sched.fill 9 room []
  let t := s.withSched r.1
  ({ t with cqm := { t.cqm with assembly := some ⟨.updata, r.2⟩ } }, r.2)

/-! ## The address table (R134, R135) -/

/-- Numbers of the table that are free, lowest first. -/
def freeNumber (t : List AddrEntry) : Nat := ((List.range 513).find? fun n => !t.any fun e => e.num == n).getD 512

/-- An entry put in its place by number. -/
def insertEntry (e : AddrEntry) : List AddrEntry → List AddrEntry
  | [] => [e]
  | x :: rest => if e.num < x.num then e :: x :: rest else x :: insertEntry e rest

/-- The entry with the highest age, the lowest-numbered among equals (R135). -/
def oldestEntry : List AddrEntry → Option AddrEntry
  | [] => none
  | x :: rest =>
    match oldestEntry rest with
    | none => some x
    | some y => if x.age < y.age ∨ (x.age = y.age ∧ y.num < x.num) then some y else some x

/-- An unknown source address learned (R135). -/
def Gwu.learnNew (a : Addr) (st : StationId) (h : HomeId) (g : Gwu) : Gwu :=
  if g.table.length < 512 then
    { g with table := insertEntry ⟨freeNumber g.table, a, st, h, 0⟩ g.table,
             ctr := { g.ctr with learned := sat32 g.ctr.learned 1 } }
  else match oldestEntry g.table with
    | some o =>
      if 60 ≤ o.age then
        { g with table := g.table.map fun e => if e.num = o.num then ⟨e.num, a, st, h, 0⟩ else e,
                 ctr := { g.ctr with learned := sat32 g.ctr.learned 1, replacements := sat32 g.ctr.replacements 1 } }
      else { g with ctr := { g.ctr with notLearned := sat32 g.ctr.notLearned 1 } }
    | none => { g with ctr := { g.ctr with notLearned := sat32 g.ctr.notLearned 1 } }

/-- A source address offered to the address table (R135). -/
def Gwu.learn (a : Addr) (st : StationId) (h : HomeId) (g : Gwu) : Gwu :=
  if groupBit a then g
  else match g.table.find? fun e => e.addr == a with
  | some e =>
    let same := e.station == st && e.home == h
    { g with table := g.table.map fun x => if x.addr = a then ⟨x.num, a, st, h, 0⟩ else x,
             ctr := if same then g.ctr else { g.ctr with moves := sat32 g.ctr.moves 1 } }
  | none => g.learnNew a st h

/-- A frame accepted into the uplink queue: it joins the tail and its source is learned (R30, R38, R135). -/
def State.acceptUplink (station : StationId) (f : Frame) (s : State) : State :=
  { s with cqm := { s.cqm with uplink := s.cqm.uplink ++ [f] },
           gwu := s.gwu.learn (sourceOf f.bytes) station (f.home.getD 0) }

/-! ## Moves (R30, R121) -/

/-- The uplink queue takes a move (R30). -/
def State.moveFits (s : State) (f : Frame) : Bool :=
  decide (cellCount s.cqm.uplink + f.cells ≤ s.cfg.uplinkLimit)

/-- One move: a choice offered to the uplink queue, taken or blocked (R121). -/
def State.moveOnce (s : State) : State :=
  match s.sched.choose with
  | none => s
  | some (rule, h, y) =>
    match y.head h with
    | none => s
    | some f =>
      if s.moveFits f then
        let t := (s.withSched (y.take rule h)).acceptUplink s.orh.stn f
        { t with pvw := { t.pvw with sent := sat48 t.pvw.sent f.length } }
      else { s with ups := { s.ups with move := .blocked } }

/-- MOVE (R121). -/
def execMove (s : State) : Host.Outcome State Fault Refusal :=
  let t := s.fresh
  .next (State.settle s (if s.moveNow = .running then t.moveOnce else t))

/-- The uplink queue's cell count has fallen, or the queue was emptied: a blocked move is offered again (R121). -/
def State.unblock (s : State) : State :=
  { s with ups := { s.ups with move := if s.ups.move = .blocked then .running else s.ups.move } }

/-! ## The end of an UPDATA burst (R36, R113, R119) -/

/-- The reason for which a frame of a failed UPDATA burst is dropped; absent when it is returned (R36). -/
def State.returnRefusal (s : State) (h : HomeId) (f : Frame) : Option UpDrop :=
  if s.service h = .testHeld then some .test
  else if s.service h = .adminDown then some .admin
  else if s.cqm.flush then some .gatewayLost
  else if f.returned then some .busLoss
  else none

/-- One frame of a failed UPDATA burst returned to the head of its queue with its refund, or dropped (R36, R113). -/
def State.returnUp (f : Frame) (s : State) : State :=
  let h := f.home.getD 0
  match s.returnRefusal h f with
  | some r => (s.release f.cells).count h (countUpDrop r 1)
  | none =>
    { s with cqm := { s.cqm with up := s.cqm.up.put h (f.mark :: s.cqm.up.at h) },
             ups := { s.ups with credit := addCredit s.ups.credit f.length s.cfg.depth } }

/-- One frame of a failed DOWNDATA burst returned or dropped (R36). -/
def State.returnStn (i : StationId) (f : Frame) (s : State) : State :=
  if !s.working || f.returned then
    let t := s.release f.cells
    { t with cqm := { t.cqm with dropStn := t.cqm.dropStn.upd i fun n => sat32 n 1 } }
  else { s with cqm := { s.cqm with stn := s.cqm.stn.put i (f.mark :: s.cqm.stn.at i) } }

/-- One frame of a failed FLOOD burst returned or dropped (R36). -/
def State.returnFlood (f : Frame) (s : State) : State :=
  if !s.working || f.returned then
    let t := s.release f.cells
    { t with cqm := { t.cqm with dropFlood := sat32 t.cqm.dropFlood 1 } }
  else { s with cqm := { s.cqm with flood := f.mark :: s.cqm.flood } }

/-- The burst in assembly failed (R36): the last frame is handled first, so that the returned frames of a queue stand
at its head in burst order. -/
def State.failBurst (s : State) : State :=
  match s.cqm.assembly with
  | none => s
  | some a =>
    let t : State := { s with cqm := { s.cqm with assembly := none } }
    match a.source with
    | .updata => a.frames.foldr State.returnUp t
    | .downdata i => a.frames.foldr (State.returnStn i) t
    | .flood => a.frames.foldr State.returnFlood t

/-- The burst in assembly ended well: every frame is freed; UPDATA bytes count as sent, DOWNDATA frames as delivered
(R35, R119, R137). -/
def State.sendBurst (s : State) : State :=
  match s.cqm.assembly with
  | none => s
  | some a =>
    let t : State := { s with cqm := { s.cqm.setFree (s.cqm.free + cellCount a.frames) with assembly := none } }
    match a.source with
    | .updata => { t with pvw := { t.pvw with sent := sat48 t.pvw.sent (byteCount a.frames) } }
    | .downdata _ =>
      { t with gwu := { t.gwu with ctr := { t.gwu.ctr with delivered := sat32 t.gwu.ctr.delivered a.frames.length } } }
    | .flood => t

/-! ## Credit (R112, R131) -/

/-- CREDIT_INTERVAL_END (R112, R121, R131): S bytes of credit, and U bytes in the bucket of a working unit whose uplink
is UP. -/
def execCreditIntervalEnd (s : State) : Host.Outcome State Fault Refusal :=
  let t := s.fresh
  .next (State.settle s { t with
    ups := { t.ups with credit := addCredit t.ups.credit t.shc.s t.cfg.depth, creditStart := t.now }
    gwu := { t.gwu with
      bucket := if t.working ∧ t.gwu.uplinkUp = true then min (t.gwu.bucket + t.cfg.u) Config.uplinkDepth
        else t.gwu.bucket } })

end Sys2Proof.Machine
end

