-- ==== Sys2Proof/Machine/Start.lean ====
section
/-! DEFINITION. The configuration as loaded, the start of the station, the soft restart and the commands that bring
one about (R186 to R188, and the reset columns of every chapter). -/

namespace Sys2Proof

/-- A value clamped to the nearer end of its range (R186). -/
def clamp (lo hi n : Nat) : Nat := max lo (min hi n)

/-- The loaded configuration of one home (R186). -/
def homeCfgOf (m : HomeImage) : HomeCfg :=
  { equipped := m.equipped.getD Config.defaultHome.equipped
    tier := clamp 1 15 m.tier
    group := groupOf (clamp 0 15 m.group)
    prio := m.prio.getD Config.defaultHome.prio
    upLimit := clamp 16 255 m.upLimit
    downLimit := clamp 16 255 m.downLimit }

/-- A loaded filter (R44): a direction code that names none of the three loads the filter disabled, with BOTH. -/
def filterOf (m : FilterImage) : Filter :=
  { enabled := m.enabled.getD false && m.dir.isSome
    dir := m.dir.getD .both
    acts := m.acts
    minLen := clamp 0 1536 m.minLen
    mask := m.mask
    value := m.value }

/-- The loaded configuration of the station, with the power costs ordered (R186). -/
def cfgOf (m : CfgImage) : Cfg :=
  let pFull := clamp 1 255 m.pFull
  let pLow := min (clamp 1 255 m.pLow) pFull
  { upLimits := Tab.make fun h => clamp 16 255 (m.homes.at h).upLimit
    downLimits := Tab.make fun h => clamp 16 255 (m.homes.at h).downLimit
    uplinkLimit := clamp 128 1536 m.uplinkLimit
    stormHold := clamp 1 60 m.stormHold
    autoTests := m.autoTests.getD Config.defaults.autoTests
    cable := clamp 30 80 m.cable
    pFull := pFull
    pLow := pLow
    pSleep := min (clamp 1 255 m.pSleep) pLow
    pTest := clamp 1 255 m.pTest
    capK := clamp 16 65535 m.capK
    ramp := clamp 1 4096 m.ramp
    fallback := clamp 1 65535 m.fallback
    depth := clamp 4096 65535 m.depth
    u := clamp 16 65535 m.u
    b := clamp 1 65535 m.b
    mgmtAddr := m.mgmtAddr
    mgmtType := m.mgmtType
    operAddr := m.operAddr }

/-- The configuration a memory gives; an unreadable one gives the defaults (R186). -/
def loadCfg (mem : Option CfgImage) : Cfg := (mem.map cfgOf).getD Config.defaults

/-- The home configurations a memory gives. -/
def loadHomes (mem : Option CfgImage) : Tab 8 HomeCfg :=
  match mem with
  | some m => Tab.make fun h => homeCfgOf (m.homes.at h)
  | none => Tab.all Config.defaultHome

/-- The filters a memory gives. -/
def loadFilters (mem : Option CfgImage) : Tab 8 Filter :=
  match mem with
  | some m => Tab.make fun i => filterOf (m.filters.at i)
  | none => Tab.all Config.defaultFilter

end Sys2Proof

namespace Sys2Proof.Machine

/-- What a soft restart keeps (the Kept entries of every chapter's reset columns). -/
structure Kept where
  homes : Tab 8 HomeCounters
  adminDown : Tab 8 Bool
  dropUplink : Nat
  dropStn : Tab 8 Nat
  dropFlood : Nat
  bus : BusCounters
  gateway : GatewayCounters
  recordNo : Nat
  log : List ResultRecord
  lost : Nat
  lostEvents : Nat
  uplinkUp : Bool
  bsy : Bool
  deriving DecidableEq, Repr

/-- What a power-on starts from: every counter 0, nothing kept; the lines as the pins show them. -/
def Kept.none (uplinkUp bsy : Bool) : Kept :=
  { homes := Tab.all HomeCounters.zero, adminDown := Tab.all false, dropUplink := 0,
    dropStn := Tab.all 0, dropFlood := 0, bus := BusCounters.zero, gateway := GatewayCounters.zero, recordNo := 0,
    log := [], lost := 0, lostEvents := 0, uplinkUp, bsy }

/-- What a soft restart keeps of a state. -/
def State.kept (s : State) : Kept :=
  { homes := Tab.make fun h => (s.home h).ctr
    adminDown := Tab.make fun h => s.service h == .adminDown
    dropUplink := s.cqm.dropUplink
    dropStn := s.cqm.dropStn
    dropFlood := s.cqm.dropFlood
    bus := s.cbi.ctr
    gateway := s.gwu.ctr
    recordNo := s.ten.recordNo
    log := s.ten.log
    lost := s.ten.lost
    lostEvents := s.orh.lostEvents
    uplinkUp := s.gwu.uplinkUp
    bsy := s.cbi.bsy }

/-- A home record right after a start (R1): an equipped home that was ADMIN_DOWN stays so at a soft restart. -/
def startHome (c : HomeCfg) (k : HomeCounters) (wasAdminDown : Bool) : Home :=
  { Home.start c with
    service := if c.equipped then (if wasAdminDown then .adminDown else .down) else .unequipped, ctr := k }

/-- The start of the station (R186) from its pins and what it keeps: every block at its start values. -/
def startState (pins : Pins) (k : Kept) (pending : List Instr) : State :=
  let cfg := loadCfg pins.mem
  let homes := loadHomes pins.mem
  let defaulted := pins.mem.isNone
  { pins := pins
    cfg := cfg
    now := 0
    lpb := { homes := Tab.make fun h => startHome (homes.at h) (k.homes.at h) (k.adminDown.at h)
             giving := Tab.all Option.none, stormEnd := Option.none, excuseEnd := Option.none, relay := Option.none }
    ffu := { filters := loadFilters pins.mem, wake := Tab.all Option.none, pendingWakes := [] }
    cqm := { free := Config.cells, pause := false, up := Tab.all [], down := Tab.all [], uplink := [],
             stn := Tab.all [], flood := [], dropUplink := k.dropUplink, dropStn := k.dropStn, dropFlood := k.dropFlood,
             assembly := Option.none, held := [], lostRounds := 0, flush := false }
    cbi := { phase := .unknown, part := .none, bsy := k.bsy, bsyDrive := false, idDrive := false, urgDrive := false,
             claim := Option.none, quiet := Option.none, notice := Option.none, contending := Option.none,
             lateOrder := Option.none, lateReport := Option.none, call := Option.none, rx := Option.none,
             reservedOver := Option.none, spent := 0, freeSince := Option.none, watch := Option.none, windowStart := 0, orders := [], heard := [],
             selfWanted := false, selfSince := Option.none, ctr := k.bus }
    pvw := { roundStart := 0, peers := [], role := .line, active := Option.none, foundOnce := false, dup := false,
             dupQuiet := 4, dupHold := 0, stuckCount := 0, stuck := false, sent := 0, traffic := Tab.all false,
             latched := Option.none }
    shc := { s := 0, t := 0, bwCap := 0, bwShare := Option.none, bwParts := 0, bwPasses := 0, a := Option.none,
             pwCap := 0, pwShare := Option.none, pwParts := 0, pwPasses := 0 }
    ups := { credit := 0, creditStart := 0, raised := false, target := 0, expLast := 7, drrPos := 7,
             visitOpen := false, move := .idle, homes := Tab.make fun h => UpsHome.start (homes.at h).tier }
    gwu := { uplinkUp := k.uplinkUp, bucket := 0, giving := Option.none, table := [], tickStart := 0, position := 8,
             orders := [], reports := [], operAddr := cfg.operAddr, bulkReq := false, orderReq := false,
             ctr := k.gateway }
    ten := { state := .idle, queue := [], current := Option.none, withdrawal := Option.none, tbusyDrive := false,
             headDriving := false, quietEnds := Tab.all Option.none, holdSince := Option.none, recordNo := k.recordNo,
             log := k.log, lost := k.lost }
    bhu := { wakeQ := [], wakeSince := Tab.all Option.none, lastTraffic := Tab.all Option.none,
             outcome := Tab.all Option.none, reserve := false, remaining := 0, requests := [], batch := [] }
    orh := { executing := Option.none, queue := if defaulted then [⟨0, .event .configDefaulted⟩] else [],
             restart := Option.none, lostEvents := k.lostEvents, stn := pins.stn, fitted := pins.fitted,
             defaulted := defaulted, reportReq := false, reportTarget := 0 }
    out := []
    pending := pending }

/-- R108: on battery A is the fallback allowance, and the homes are fitted under it. -/
def State.startPower (s : State) : State :=
  if s.power = .mains then s
  else
    let t : State := { s with shc := { s.shc with a := some s.cfg.fallback, pwCap := s.cfg.fallback } }
    t.fit s.cfg.fallback

/-- The restart strobes of a start (R3): every equipped home that is not ADMIN_DOWN. -/
def State.startStrobes (s : State) : State :=
  s.emit ((homeIds.filter fun h => !holdRefused (s.service h)).map Pulse.restartStrobe)

/-- The station started (R186). -/
def startUp (pins : Pins) (k : Kept) (pending : List Instr) : State :=
  (startState pins k pending).startPower.startStrobes

/-- The pins that a power-on finds. -/
def pinsOf (p : StartPins) (restarts : Nat) : Pins :=
  { stn := p.stn, fitted := p.fitted, mem := p.mem, mainsOk := p.mainsOk, battLow := p.battLow,
    tbusyOthers := p.tbusy, stormOthers := p.storm, restarts }

/-- POWER_ON (R186). -/
def execPowerOn (p : StartPins) (s : State) : Host.Outcome State Fault Refusal :=
  .next (startUp (pinsOf p s.pins.restarts) (Kept.none p.uplLink p.bsy) s.pending)

/-- R165 at a soft restart: the record of a current test. -/
def State.restartTest (s : State) : State :=
  match s.ten.current with
  | none => s
  | some c =>
    if s.testHolding then
      let t := s.endTest .abortedRestart
      t.writeRecord c.home c.firstOrigin .abortedRestart c.split c.meas
    else match c.outcome, c.cause with
    | some o, _ => s.writeRecord c.home c.firstOrigin o c.split c.meas
    | none, some cause => s.writeCancelled c.home c.firstOrigin cause c.meas
    | none, none => s

/-- The pins that a soft restart finds: straps and configuration memory read afresh (R186, R188), a free value (log 48),
and the lines as they stand. -/
def Pins.reread (p : Pins) : Pins :=
  let b := Config.restartBoard p.restarts
  { p with stn := b.1, fitted := b.2.1, mem := b.2.2, restarts := p.restarts + 1 }

/-- The soft restart (R188): the test's end first, then every block's soft-restart values and the start-up of R186. -/
def State.softRestart (s : State) : State :=
  let t := s.restartTest
  let u := startUp t.pins.reread t.kept t.pending
  { u with out := t.out ++ u.out }

/-- A report that is this station's reply to RESTART (R187). -/
def isRestartBody : ReportBody → Bool
  | .reply _ _ .restarting => true
  | _ => false

/-- The soft restart takes effect if it is pending and the report that left is its reply (R187). -/
def State.restartIfLeft (left : Bool) (s : State) : State :=
  if left && s.orh.restart.isSome then s.softRestart else s

/-- RESTART_LIMIT_EXPIRY (R187). -/
def execRestartLimitExpiry (s : State) : Host.Outcome State Fault Refusal :=
  let t := s.fresh
  .next (State.settle s (if s.orh.restart.isSome then t.softRestart else t))

end Sys2Proof.Machine
end

