-- ==== Sys2Proof/Machine/Gateway.lean ====
section
/-! DEFINITION. The Gateway Unit: the uplink port and transmitter, frames from the uplink, flooding, the address
table's ageing, the management handler and reports toward the operator (chapter 8). -/

namespace Sys2Proof

/-- A home that may be named for a copy of a flooded frame (R138). -/
def mayBeNamed : Service → Bool
  | .upFull | .upLow | .quiet | .sleep | .waking => true
  | _ => false

/-- The management address and type are the defaults, with which no management frame can match (R129, log 60). -/
def Cfg.unmanaged (c : Cfg) : Bool := c.mgmtAddr == 0 && c.mgmtType == 0

end Sys2Proof

namespace Sys2Proof.Machine

/-! ## Reports in the gateway report buffer (R142, R143) -/

/-- An ORDER or REPORT call of this kind holds an entry reserved (R66): while this station receives it as callee, and
until the call ends if its close has not taken the entry. -/
def Cbi.reserves (k : CallKind) (c : Cbi) : Bool :=
  (c.part == .callee && c.rx.any fun r => r.kind == k) || c.reservedOver == some k

/-- Entries of the gateway report buffer that are taken: its reports, and the entry that a REPORT call reserves (R66). -/
def State.reportEntries (s : State) : Nat := s.gwu.reports.length + if s.cbi.reserves .report then 1 else 0

/-- Entries of the order buffer that are taken: its orders, and the entry that an ORDER call reserves (R66). -/
def State.orderEntries (s : State) : Nat := s.cbi.orders.length + if s.cbi.reserves .order then 1 else 0

/-- A report of the management handler (R142). -/
def State.handlerReport (tag : Word) (station code : Byte) (result : Result) (s : State) : State :=
  { s with gwu :=
    if s.reportEntries < 32 then { s.gwu with reports := s.gwu.reports ++ [⟨tag, station, .handler code result⟩] }
    else { s.gwu with ctr := { s.gwu.ctr with mgmtReportsLost := sat32 s.gwu.ctr.mgmtReportsLost 1 } } }

/-- OWN_REPORT_PASS (R143): the head of the own report queue passes into the gateway report buffer. -/
def execOwnReportPass (s : State) : Host.Outcome State Fault Refusal :=
  let t := s.fresh
  .next (State.settle s (match s.working, s.orh.queue with
    | true, r :: rest =>
      if s.reportEntries < 32 then
        { t with orh := { t.orh with queue := rest },
                 gwu := { t.gwu with reports := t.gwu.reports ++ [⟨r.tag, BitVec.ofNat 8 s.orh.stn.val, .own r.body⟩] } }
      else t
    | _, _ => t))

/-! ## Frames from the uplink (R132, R133, R138) -/

/-- The homes named for a copy of a flooded frame (R138), in index order. -/
def State.namedHomes (s : State) (d : Addr) : List HomeId :=
  homeIds.filter fun h => mayBeNamed (s.service h) && (groupBit d || (s.home h).learned.contains d)

/-- A frame flooded: the own homes' copies first, then the flood queue (R133). -/
def State.floodFrame (bytes : List Byte) (s : State) : State :=
  ((s.namedHomes (destinationOf bytes)).foldl (fun t h => t.placeDown h bytes) s).placeFlood bytes

/-- A data frame from the uplink sent toward its destination (R133). -/
def State.routeFrame (bytes : List Byte) (s : State) : State :=
  let d := destinationOf bytes
  if groupBit d then s.floodFrame bytes
  else match s.gwu.table.find? fun e => e.addr == d with
  | some e => if e.station = s.orh.stn then s.placeDown e.home bytes else s.placeStn e.station e.home bytes
  | none => s.floodFrame bytes

/-- An order offered to the management order list (R140). -/
def State.offerOrder (m : MgmtOrder) (s : State) : State :=
  if s.gwu.orders.length < 8 then
    { s with gwu := { s.gwu with orders := s.gwu.orders ++ [m],
                                 ctr := { s.gwu.ctr with ordersTaken := sat32 s.gwu.ctr.ordersTaken 1 } } }
  else s.handlerReport m.order.tag (BitVec.ofNat 8 m.target.val) (BitVec.ofNat 8 m.order.code.toNat) .notTaken

/-- A malformed management frame counted (R139). -/
def State.countMalformed (s : State) : State :=
  { s with gwu := { s.gwu with ctr := { s.gwu.ctr with malformed := sat32 s.gwu.ctr.malformed 1 } } }

/-- A management frame (R139). -/
def State.manage (bytes : List Byte) (s : State) : State :=
  if bytes.length < 20 then s.countMalformed
  else
    let t : State := { s with gwu := { s.gwu with operAddr := sourceOf bytes } }
    let tag := wordOf (pairOf bytes 14)
    let target := bytes.getD 16 0
    let code := bytes.getD 17 0
    let count := pairOf bytes 18
    if 7 < target.toNat ∨ 40 < count ∨ bytes.length < 20 + 2 * count then
      t.countMalformed.handlerReport tag target code .refusedRange
    else if 15 < code.toNat then t.countMalformed.handlerReport tag target code .unknownOrder
    else t.offerOrder ⟨octal target.toNat, ⟨tag, BitVec.ofNat 4 code.toNat, mgmtArgs bytes count⟩⟩

/-- A frame past the checks of the uplink is counted (R132, R147). -/
def State.countReceived (len : Nat) (s : State) : State :=
  { s with gwu := { s.gwu with ctr := { s.gwu.ctr with
      framesReceived := sat32 s.gwu.ctr.framesReceived 1, bytesReceived := sat48 s.gwu.ctr.bytesReceived len } } }

/-- A management frame by its destination and type (R132, step 3; R129). -/
def State.isManagement (s : State) (bytes : List Byte) : Bool :=
  !s.cfg.unmanaged && destinationOf bytes == s.cfg.mgmtAddr && wordOf (pairOf bytes 12) == s.cfg.mgmtType

/-- UPLINK_FRAME_RECEIVED (R132). -/
def execUplinkFrameReceived (bytes : List Byte) (err : Bool) (s : State) : Host.Outcome State Fault Refusal :=
  let t := s.fresh
  .next (State.settle s (
    if !s.working then
      { t with gwu := { t.gwu with ctr := { t.gwu.ctr with standbyDrops := sat32 t.gwu.ctr.standbyDrops 1 } } }
    else if err = true ∨ bytes.length < 14 ∨ 1536 < bytes.length then
      { t with gwu := { t.gwu with ctr := { t.gwu.ctr with errorDrops := sat32 t.gwu.ctr.errorDrops 1 } } }
    else
      let u := t.countReceived bytes.length
      if s.isManagement bytes then u.manage bytes else u.routeFrame bytes))

/-! ## The uplink port and the transmitter (R130, R131, R145) -/

/-- The frame of the uplink queue that the transmitter gives is freed (R31). -/
def State.dropGiven (s : State) : State :=
  match s.cqm.uplink with
  | [] => s
  | f :: rest => { s with cqm := { s.cqm.setFree (s.cqm.free + f.cells) with uplink := rest } }

/-- The frame being given is cut (R130): a queue frame is freed and counted, a report stays. -/
def State.cutGiving (s : State) : State :=
  match s.gwu.giving with
  | none => s
  | some .report => { s with gwu := { s.gwu with giving := none } }
  | some .queueFrame =>
    let t := s.dropGiven
    State.unblock { t with gwu := { t.gwu with giving := none },
                           cqm := { t.cqm with dropUplink := sat32 t.cqm.dropUplink 1 } }

/-- UPLINK_STATE_CHANGE (R130). -/
def execUplinkStateChange (up : Bool) (s : State) : Host.Outcome State Fault Refusal :=
  let t := s.fresh
  let u : State := { t with gwu := { t.gwu with uplinkUp := up } }
  .next (State.settle s (if s.working && s.gwu.uplinkUp && !up then u.cutGiving else u))

/-- The report frame at the head of the buffer (R145). -/
def State.headReport (s : State) : Option (List Byte) :=
  s.gwu.reports.head?.map fun r => reportFrame s.gwu.operAddr s.cfg.mgmtAddr s.cfg.mgmtType r

/-- What the transmitter would give next: the head report before the head of the uplink queue (R131). -/
def State.nextGiven (s : State) : Option (Giving × List Byte) :=
  match s.headReport with
  | some bytes => some (.report, bytes)
  | none => s.cqm.uplink.head?.map fun f => (.queueFrame, f.bytes)

/-- The transmitter starts (R131). -/
def State.startGiving (g : Giving) (bytes : List Byte) (s : State) : State :=
  { s with gwu := { s.gwu with giving := some g, bucket := s.gwu.bucket - bytes.length },
           out := s.out ++ [.uplinkFrame bytes] }

/-- TRANSMITTER_START (R131). -/
def execTransmitterStart (s : State) : Host.Outcome State Fault Refusal :=
  let t := s.fresh
  .next (if s.working ∧ s.gwu.giving = none ∧ s.gwu.uplinkUp = true then
    match s.nextGiven with
    | some (g, bytes) => if bytes.length ≤ s.gwu.bucket then t.startGiving g bytes else t
    | none => t
  else t)

/-- A queue frame taken whole by the PHY (R31, R131). -/
def State.queueFrameSent (s : State) : State :=
  match s.cqm.uplink with
  | [] => { s with gwu := { s.gwu with giving := none } }
  | f :: _ =>
    let t := s.dropGiven
    State.unblock { t with gwu := { t.gwu with
      giving := none
      ctr := { t.gwu.ctr with framesSent := sat32 t.gwu.ctr.framesSent 1,
                              bytesSent := sat48 t.gwu.ctr.bytesSent f.length } } }

/-- A report that is this station's reply to RESTART (R187). -/
def isRestartReport (r : GatewayReport) : Bool :=
  match r.body with
  | .own b => isRestartBody b
  | _ => false

/-- A report frame taken whole by the PHY (R131); the reply to RESTART makes the restart take effect (R187). -/
def State.reportSent (s : State) : State :=
  let left := s.gwu.reports.head?.elim false isRestartReport
  State.restartIfLeft left { s with gwu := { s.gwu with
    giving := none, reports := s.gwu.reports.tail
    ctr := { s.gwu.ctr with reportsSent := sat32 s.gwu.ctr.reportsSent 1 } } }

/-- UPLINK_FRAME_TAKEN (R131, R187). -/
def execUplinkFrameTaken (s : State) : Host.Outcome State Fault Refusal :=
  let t := s.fresh
  .next (State.settle s (match s.gwu.giving with
    | none => t
    | some .queueFrame => t.queueFrameSent
    | some .report => t.reportSent))

/-! ## Ageing, and the hand-off of own orders (R136, R140) -/

/-- The table after an age tick (R136). -/
def ageTable (t : List AddrEntry) : List AddrEntry :=
  (t.map fun e => { e with age := e.age + 1 }).filter fun e => decide (e.age < 300)

/-- ADDRESS_AGE_TICK (R136). -/
def execAddressAgeTick (s : State) : Host.Outcome State Fault Refusal :=
  let t := s.fresh
  .next (if s.working then
    { t with gwu := { t.gwu with
        table := ageTable t.gwu.table, tickStart := t.now
        ctr := { t.gwu.ctr with
          agedOut := sat32 t.gwu.ctr.agedOut (t.gwu.table.length - (ageTable t.gwu.table).length) } } }
  else t)

/-- MANAGEMENT_ORDER_HANDOFF (R140): the oldest order for this station goes to its own order buffer. -/
def execManagementOrderHandoff (s : State) : Host.Outcome State Fault Refusal :=
  let t := s.fresh
  .next (State.settle s (match s.gwu.orders.find? fun m => m.target == s.orh.stn with
    | some m =>
      if s.working ∧ s.orderEntries < 4 ∧ s.stalled = false then
        { t with gwu := { t.gwu with orders := t.gwu.orders.eraseP fun m => m.target == s.orh.stn },
                 cbi := { t.cbi with orders := t.cbi.orders ++ [m.order] } }
      else t
    | none => t))

end Sys2Proof.Machine
end

