-- ==== Sys2Proof/Machine/Reception.lean ====
section
/-! DEFINITION. The station as callee and listener: call words and answers, the words of a transfer read against its
format, frames taken at their headers, flood copies, wake matches, closes and heard broadcasts (R37 to R39, R47 to R51,
R65, R66, R69 to R74, R76). -/

namespace Sys2Proof

/-- A transfer marked bad, its structure lost (R69). -/
def Reception.lose (r : Reception) : Reception := { r with bad := true, lost := true }

/-- A reception as it begins. -/
def Reception.start (k : CallKind) (caller : StationId) : Reception :=
  { kind := k, caller, bad := false, lost := false, extra := false
    stage := match k with
      | .updata | .downdata | .flood => .burstHeader
      | .notice => .body 6
      | .claim => .body 1
      | .quiet => .body 2
      | .order => .orderTag
      | .report => .reportTag
    words := [], framesLeft := 0, frameIdx := 0, total := 0 }

/-- The stage after a counted field: the words it counts, or the end. -/
def bodyStage (n : Nat) : RxStage := if n = 0 then .done else .body n

/-- The stage after a frame: the next frame's header, or the end. -/
def Reception.afterFrame (r : Reception) : Reception :=
  { r with framesLeft := r.framesLeft - 1, stage := if r.framesLeft ≤ 1 then .done else .frameHeader1 }

/-- Whether the format is complete. -/
def Reception.complete (r : Reception) : Bool := match r.stage with | .done => true | _ => false

/-- The bytes a data word adds to a frame (R68). -/
def ArrivingFrame.push (f : ArrivingFrame) (w : Word) (ok : Bool) : ArrivingFrame :=
  let bs := (bytesOfWord w).take (f.length - f.bytes.length)
  { f with bytes := f.bytes ++ bs,
           badPositions := if ok then f.badPositions else f.badPositions ++ [f.bytes.length, f.bytes.length + 1] }

/-- The frame of a burst in reception once its words are in: downstream frames are ORDINARY, the mark clear (R25,
R68). -/
def ArrivingFrame.frame (f : ArrivingFrame) (upward : Bool) (home : Option HomeId) : Frame :=
  ⟨home, if upward then f.cls else .ordinary, false, f.length, f.bytes⟩

end Sys2Proof

namespace Sys2Proof.Machine

/-! ## Frames held in a burst in reception (R37, R39) -/

/-- The reception under way changed. -/
def State.setRx (r : Reception) (s : State) : State := { s with cbi := { s.cbi with rx := some r } }

/-- The cells held in the burst for a destination (R37). -/
def State.heldCells (s : State) (d : Destination) : Nat :=
  ((s.cqm.held.filter fun x => x.dest == d).map fun x => x.frame.cells).sum

/-- A frame held in the burst in reception: its cells are taken at once (R37). -/
def State.holdFrame (x : Held) (s : State) : State :=
  let t := s.alloc x.frame.cells
  { t with cqm := { t.cqm with held := t.cqm.held ++ [x] } }

/-- Why a downstream frame or copy is refused at its header, with a reserve of free cells that it must leave (R37:
none; R39: 64); absent when it is held. That a DOWNDATA frame refused by both the limit and the free count is counted under
the limit is the model's choice (log 66). -/
def State.holdRefusal (s : State) (reserve : Nat) (h : HomeId) (len : Nat) : Option DownDrop :=
  match downRefusal (s.service h) with
  | some r => some r
  | none =>
    if s.downLimit h < cellCount (s.cqm.down.at h) + s.heldCells (.home h) + cellsOf len then some (s.limitReason h)
    else if s.cqm.free < cellsOf len + reserve then some .critical
    else none

/-- A downstream frame or copy held, or discarded and counted (R37, R39, R49). -/
def State.holdDown (reserve : Nat) (f : ArrivingFrame) (s : State) (h : HomeId) : State :=
  match s.holdRefusal reserve h f.length with
  | some r => s.count h (countDownDrop r 1)
  | none => s.holdFrame ⟨.home h, f.idx, f.frame false (some h)⟩

/-- An UPDATA frame held for the uplink queue, or discarded and counted (R37). -/
def State.holdUp (f : ArrivingFrame) (s : State) : State :=
  if cellsOf f.length ≤ s.cqm.free ∧
      cellCount s.cqm.uplink + s.heldCells .uplink + cellsOf f.length ≤ s.cfg.uplinkLimit then
    s.holdFrame ⟨.uplink, f.idx, f.frame true f.home⟩
  else { s with cqm := { s.cqm with dropUplink := sat32 s.cqm.dropUplink 1 } }

/-- The homes of a list that are asleep (R47). -/
def State.asleepOf (s : State) (hs : List HomeId) : List HomeId := hs.filter fun h => (s.service h).asleep

/-- A frame at its header (R37, R49). A frame whose home word was bad has no destination (log 14); a FLOOD frame
waits for its third data word (R138). -/
def State.openFrame (r : Reception) (f : ArrivingFrame) (s : State) : State :=
  match r.kind, f.home with
  | .updata, some _ => (s.holdUp f).setRx { r with stage := .frameData { f with started := true, matched := true } }
  | .downdata, some h =>
    let g := { f with started := true, matchHomes := s.asleepOf [h], matched := (s.asleepOf [h]).isEmpty }
    (s.holdDown 0 f h).setRx { r with stage := .frameData g }
  | .flood, _ => s.setRx { r with stage := .frameData f }
  | _, _ => s.setRx { r with stage := .frameData { f with started := true, matched := true } }

/-- The copies of a flood frame, made at its third data word (R39, R138). A destination with a byte from a word of bad
parity names no home (log 14). -/
def State.nameCopies (f : ArrivingFrame) (s : State) : State × ArrivingFrame :=
  if f.badPositions.any fun p => decide (p < 6) then (s, { f with started := true, matched := true })
  else
    let hs := s.namedHomes (destinationOf f.bytes)
    (hs.foldl (State.holdDown 64 f) s,
      { f with started := true, filters := s.ffu.filters, matchHomes := s.asleepOf hs,
               matched := (s.asleepOf hs).isEmpty })

/-! ## Wake matching in a burst (R49 to R51) -/

/-- A held frame without a WAKE match freed and counted (R49). A copy refused at the header is not counted again: the
model's choice where R51 could be read otherwise (log 52). -/
def State.freeUnmatched (f : ArrivingFrame) (h : HomeId) (s : State) : State :=
  let mine : Held → Bool := fun x => x.dest == .home h && x.idx == f.idx
  if s.cqm.held.any mine then
    let t := (s.release (cellCount ((s.cqm.held.filter mine).map Held.frame))).count h (countDownDrop .asleep 1)
    { t with cqm := { t.cqm with held := t.cqm.held.filter fun x => !mine x } }
  else s

/-- The end of the match for one home (R49): an unmatched frame is freed, a match is entered in the pending wake
list, the first of a burst for the home (R50). -/
def State.matchHome (src : WakeSource) (f : ArrivingFrame) (ids : List FilterId) (s : State) (h : HomeId) : State :=
  if ids.isEmpty then s.freeUnmatched f h
  else if s.ffu.pendingWakes.any fun w => w.home == h then s
  else { s with ffu := { s.ffu with
      pendingWakes := s.ffu.pendingWakes ++ [⟨h, ids, f.length, f.bytes.take 64, src⟩] } }

/-- The source of a wake match in a burst (R50). -/
def sourceOfKind (k : CallKind) : WakeSource := if k = .flood then .flood else .downdata

/-- The end of the match of a frame (R49, R51): one test for every home it is for. -/
def State.matchFrame (k : CallKind) (f : ArrivingFrame) (s : State) : State :=
  f.matchHomes.foldl (State.matchHome (sourceOfKind k) f (wakeSet f.filters f.length f.bytes f.badPositions)) s

/-- The bytes of a frame written into the frames held of it. -/
def State.fillHeld (f : ArrivingFrame) (s : State) : State :=
  { s with
    cqm := { s.cqm with
      held := s.cqm.held.map fun x =>
        if x.idx = f.idx then { x with frame := { x.frame with bytes := f.bytes } } else x } }

/-- A data word of a frame. -/
def State.dataWord (r : Reception) (f : ArrivingFrame) (w : Word) (ok : Bool) (s : State) : State :=
  let f1 := f.push w ok
  let p := if r.kind = .flood ∧ f1.started = false ∧ 6 ≤ f1.bytes.length then s.nameCopies f1 else (s, f1)
  let q := if p.2.started = true ∧ p.2.matched = false ∧ min 64 p.2.length ≤ p.2.bytes.length then
      (p.1.matchFrame r.kind p.2, { p.2 with matched := true })
    else p
  if q.2.length ≤ q.2.bytes.length then (q.1.fillHeld q.2).setRx r.afterFrame
  else q.1.setRx { r with stage := .frameData q.2 }

/-! ## Transfer words against the format (R69, R76) -/

/-- The second header word of a frame: its length opens the frame, or loses the structure (R69). -/
def State.lengthWord (r : Reception) (home : Option HomeId) (cls : FrameClass) (w : Word) (ok : Bool) (s : State) :
    State :=
  let len := field w 0 11
  if ok = false ∨ len < 14 ∨ 1536 < len ∨ 4096 < r.total + len then s.setRx r.lose
  else s.openFrame { r with total := r.total + len, frameIdx := r.frameIdx + 1 }
    { idx := r.frameIdx, home, cls, length := len, bytes := [], badPositions := [], started := false, matchHomes := [],
      filters := s.ffu.filters, matched := false }

/-- A word that counts others: read, or the structure lost (R69). -/
def countWord (r : Reception) (w : Word) (ok : Bool) (n limit : Nat) (stage : RxStage) : Reception :=
  if ok = false ∨ limit < n then r.lose else { r with stage, words := r.words ++ [w] }

/-- A transfer word taken at its place in the format (R69). -/
def State.stageWord (r : Reception) (w : Word) (ok : Bool) (s : State) : State :=
  match r.stage with
  | .burstHeader =>
    s.setRx { countWord r w ok (field w 0 4) 8 (if field w 0 4 = 0 then .done else .frameHeader1) with
      framesLeft := field w 0 4 }
  | .frameHeader1 =>
    s.setRx { r with stage := .frameHeader2 (if ok then some (octal (field w 8 3)) else none)
                                (if field w 15 1 = 1 then .expedited else .ordinary) }
  | .frameHeader2 home cls => s.lengthWord r home cls w ok
  | .frameData f => s.dataWord r f w ok
  | .orderTag => s.setRx { r with stage := .orderHeader, words := r.words ++ [w] }
  | .orderHeader => s.setRx (countWord r w ok (field w 0 8) 40 (bodyStage (field w 0 8)))
  | .reportTag => s.setRx { r with stage := .reportHeader, words := r.words ++ [w] }
  | .reportHeader => s.setRx { r with stage := .reportCount, words := r.words ++ [w] }
  | .reportCount => s.setRx (countWord r w ok w.toNat 1024 (bodyStage w.toNat))
  | .body n => s.setRx { r with stage := bodyStage (n - 1), words := r.words ++ [w] }
  | .done => s.setRx { r with extra := true }

/-- A transfer word of the call this station takes (R69): after its structure is lost, words are not kept. -/
def State.takeWord (r : Reception) (w : Word) (p : Bool) (s : State) : State :=
  let ok := goodParity w p
  if r.lost then s else s.stageWord { r with bad := r.bad || !ok } w ok

/-! ## The end of a reception (R38, R50, R70) -/

/-- One held frame at a burst's good end (R38). -/
def State.joinHeld (caller : StationId) (s : State) (x : Held) : State :=
  match x.dest with
  | .uplink =>
    if s.working then s.acceptUplink caller x.frame
    else
      let t := s.release x.frame.cells
      { t with cqm := { t.cqm with dropUplink := sat32 t.cqm.dropUplink 1 } }
  | .home h =>
    match downRefusal (s.service h) with
    | some r => (s.release x.frame.cells).count h (countDownDrop r 1)
    | none => s.joinDown h x.frame

/-- The good end of a burst in reception (R38), then the pending wake list (R50). -/
def State.goodEnd (caller : StationId) (s : State) : State :=
  let t : State := { s with cqm := { s.cqm with held := [] }, ffu := { s.ffu with pendingWakes := [] } }
  s.ffu.pendingWakes.foldl State.applyWake (s.cqm.held.foldl (State.joinHeld caller) t)

/-- The bad end of a burst in reception (R38, R50): every held frame is freed, the pending wake list discarded. -/
def State.badEnd (s : State) : State :=
  { s with cqm := { s.cqm.setFree (s.cqm.free + cellCount (s.cqm.held.map Held.frame)) with held := [] },
           ffu := { s.ffu with pendingWakes := [] } }

/-- What a GOOD close places (R70, R74). A report that a station no longer working loses does not take its reserved entry
(R66). -/
def State.placeReceived (r : Reception) (s : State) : State :=
  match r.kind with
  | .order => { s with cbi := { s.cbi with orders := s.cbi.orders ++ (orderOf r.words).toList } }
  | .report =>
    if s.working then
      { s with gwu := { s.gwu with reports := s.gwu.reports ++ (gatewayReportOf r.caller r.words).toList } }
    else
      { s with cbi := { s.cbi with reservedOver := some .report },
               gwu := { s.gwu with ctr := { s.gwu.ctr with reportsLost := sat32 s.gwu.ctr.reportsLost 1 } } }
  | _ => s.goodEnd r.caller

/-- The kind of an order or report in reception, whose entry is reserved (R66). -/
def Cbi.reservedKind (c : Cbi) : Option CallKind :=
  (c.rx.map Reception.kind).filter fun k => k == .order || k == .report

/-- The close word driven and the reception over (R70). What is received at a GOOD close takes the entry reserved for it;
at a BAD close the entry stays reserved until the call ends (R66). -/
def State.driveClose (good : Bool) (s : State) : State :=
  State.strobe (closeWordOf good s.orh.stn)
    { s with cbi := { s.cbi with
        rx := none, phase := .close, windowStart := s.now
        reservedOver := if good then none else s.cbi.reservedKind } }

/-- The close of a callee (R70): GOOD places what was received, BAD frees it and counts. -/
def State.closeGood (r : Reception) (s : State) : State := (s.driveClose true).placeReceived r

/-- The BAD close of a callee (R69, R70). -/
def State.closeBad (s : State) : State :=
  let t := (s.driveClose false).badEnd
  { t with cbi := { t.cbi with ctr := { t.cbi.ctr with badBursts := sat32 t.cbi.ctr.badBursts 1 } } }

/-- A callee whose last transfer word has come closes GOOD in the same step; a transfer marked bad closes when the
words have stopped (R69). -/
def State.closeIfComplete (s : State) : State :=
  match s.cbi.part, s.cbi.rx with
  | .callee, some r =>
    if r.complete then
      if r.bad then { s with cbi := { s.cbi with phase := .close } } else s.closeGood r
    else s
  | _, _ => s

/-- TRANSFER_WORD_RECEIVED (R69, R72, R73). -/
def execTransferWordReceived (w : Word) (parity : Bool) (s : State) : Host.Outcome State Fault Refusal :=
  let t := s.fresh
  .next (State.settle s (match s.cbi.rx with
    | some r =>
      State.closeIfComplete (State.takeWord r w parity { t with cbi := { t.cbi with windowStart := t.now } })
    | none => t))

/-- BAD_CLOSE_TIMEOUT (R69). -/
def execBadCloseTimeout (s : State) : Host.Outcome State Fault Refusal :=
  let t := s.fresh
  .next (State.settle s (match s.cbi.part, s.cbi.rx with
    | .callee, some r => if r.bad then t.closeBad else t
    | _, _ => t))

/-! ## Call words and answers (R65, R66, R75) -/

/-- Whether this station answers TAKE, and the room it gives (R66). -/
def State.answerOf (s : State) (k : CallKind) : Bool × Nat :=
  match k with
  | .order => (decide (s.cbi.orders.length < 4) && !s.stalled, 4 - s.cbi.orders.length)
  | .report => (s.working && decide (s.gwu.reports.length < 32), 32 - s.gwu.reports.length)
  | _ => (decide (0 < s.room k), s.room k)

/-- A callee's answer, driven with the call word's step (R66). -/
def State.answer (k : CallKind) (caller : StationId) (s : State) : State :=
  let a := s.answerOf k
  State.strobe (answerWordOf a.1 s.orh.stn a.2) { s with cbi := { s.cbi with
    part := .callee, phase := if a.1 then .transfer else .answer, windowStart := s.now
    rx := if a.1 then some (.start k caller) else none } }

/-- A call that this station follows as a listener. -/
def State.listen (k : CallKind) (rx : Option Reception) (s : State) : State :=
  { s with cbi := { s.cbi with part := .listener, phase := if k.addressed then .answer else .transfer,
                               windowStart := s.now, rx := rx } }

/-- A call word of good parity and form (R65): the station becomes callee or listener. -/
def State.takeCall (w : Word) (s : State) : State :=
  let k := callKindOf w
  if k.addressed then
    if namesStation w s.orh.stn then s.answer k (callerOf w) else s.listen k none
  else s.listen k (some (.start k (callerOf w)))

/-- CALL_WORD (R65, R66, R76). That a listener follows a call word of bad parity by the kind it reads there is the model's
choice (log 62). -/
def execCallWord (w : Word) (parity : Bool) (s : State) : Host.Outcome State Fault Refusal :=
  let t := s.fresh
  .next (State.settle s (
    if s.cbi.phase = .call ∧ s.cbi.part ≠ .caller then
      if goodParity w parity = false then
        let u := t.listen (callKindOf w) none
        { u with cbi := { u.cbi with ctr := { u.cbi.ctr with badCallWords := sat32 u.cbi.ctr.badCallWords 1 } } }
      else if callWellFormed w = false then
        let u := t.listen (callKindOf w) none
        { u with cbi := { u.cbi with ctr := { u.cbi.ctr with malformedCalls := sat32 u.cbi.ctr.malformedCalls 1 } } }
      else t.takeCall w
    else t))

/-! ## The end of a call for a listener or callee (R60, R72, R73, R78) -/

/-- A broadcast discarded (R72). -/
def State.discardBroadcast (s : State) : State :=
  { s with cbi := { s.cbi with
      ctr := { s.cbi.ctr with broadcastsDiscarded := sat32 s.cbi.ctr.broadcastsDiscarded 1 } } }

/-- What a listener has heard of a NOTICE, CLAIM or QUIET (R72). -/
def heardWhole (r : Reception) : Option Heard :=
  if r.complete && !r.bad && !r.extra then heardOf r.kind r.caller r.words else none

/-- The end of a listener's reception at the fall of CB_BSY (R72, R73), or of a callee's that the fall cuts (R69). -/
def State.endReception (s : State) : State :=
  match s.cbi.part, s.cbi.rx with
  | .listener, some r =>
    if r.kind = .flood then if r.complete && !r.bad then s.goodEnd r.caller else s.badEnd
    else match heardWhole r with
      | some x => { s with cbi := { s.cbi with heard := s.cbi.heard ++ [x] } }
      | none => s.discardBroadcast
  | .callee, some _ => s.badEnd
  | _, _ => s

/-- The end of a reception at a bus reset (R78). -/
def State.cutReception (s : State) : State :=
  match s.cbi.part, s.cbi.rx with
  | .listener, some r => if r.kind = .flood then s.badEnd else s.discardBroadcast
  | .callee, some _ => s.badEnd
  | _, _ => s

end Sys2Proof.Machine
end

