-- ==== Sys2Proof/Machine/Bus.lean ====
section
/-! DEFINITION. The station as contender and caller: the phases, contention, the calls it makes and their outcomes, the
quiet gap, the watchdog, the bus reset and the self-check (chapter 4). -/

namespace Sys2Proof

/-- The urgency of what a station contends with (R61). -/
def Contending.urgent : Contending → Bool
  | .updata | .gateway => false
  | _ => true

/-- The kind of a call. -/
def CallBody.kind : CallBody → CallKind
  | .updata => .updata | .downdata => .downdata | .flood => .flood | .notice _ => .notice | .claim _ => .claim
  | .quiet _ => .quiet | .order _ => .order | .report _ => .report

/-- Frames taken in queue order from the head of a queue within a room in cells (absent: no bound), 8 frames and 4096
bytes (R73, R137): what is taken, and what is left. -/
def takeWithin (room : Option Nat) : List Frame → List Frame → List Frame × List Frame
  | taken, [] => (taken, [])
  | taken, f :: rest =>
    if (match room with | some r => decide (cellCount taken + f.cells ≤ r) | none => true) && decide (taken.length < 8) &&
        decide (byteCount taken + f.length ≤ 4096) then takeWithin room (taken ++ [f]) rest
    else (taken, f :: rest)

/-- The 64 words of the self-check loop (R81). -/
def selfCheckWord (n : Nat) : Word := if n / 16 % 2 = 0 then wordOf (2 ^ (n % 16)) else ~~~(wordOf (2 ^ (n % 16)))

/-- The parity line of a self-check word: word 40 is driven with wrong parity (R81). -/
def selfCheckParity (n : Nat) : Bool := if n = 40 then !oddParity (selfCheckWord n) else oddParity (selfCheckWord n)

/-- One word of the loop as read back: flagged with bad parity, and unequal to what was driven. -/
def selfCheckFlags (readBack : List (Word × Bool)) (n : Nat) : Bool × Bool :=
  match readBack[n]? with
  | some (w, p) => (!goodParity w p, w != selfCheckWord n)
  | none => (true, true)

/-- The result of the loop (R81). A word has failed when its flag is not the one expected or it reads back unequal, so
word 40 fails when it is not flagged: the model's choice (log 53). -/
def selfCheckResult (readBack : List (Word × Bool)) : SelfCheckResult :=
  let ns := List.range 64
  let bad := fun n => (selfCheckFlags readBack n).1
  let fail := fun n => (bad n != (n == 40)) || (selfCheckFlags readBack n).2
  { pass := !ns.any fail
    flagged := (ns.filter bad).length
    unequal := (ns.filter fun n => (selfCheckFlags readBack n).2).length
    first := ns.find? fail }

end Sys2Proof

namespace Sys2Proof.Machine

/-! ## Phases and contention (R59 to R64) -/

/-- UNKNOWN is left for FREE when CB_BSY is seen negated (R59). -/
def State.observeBus (s : State) : State :=
  { s with cbi :=
    if s.cbi.phase = .unknown ∧ s.cbi.bsy = false then { s.cbi with phase := .free, freeSince := some s.now } else s.cbi }

/-- The bulk allowance (R63). -/
def State.allowance (s : State) : Nat := if s.working then 4 else 1

/-- The call the station may contend for (R61, R63): none while a self-check request waits, since pending calls do not hold
it back (R80, log 69). -/
def State.chooseCall (s : State) : Option Contending :=
  if s.cbi.selfWanted then none
  else if s.cbi.claim.isSome then some .claim
  else if s.cbi.quiet.isSome then some .quiet
  else if s.cbi.notice.isSome then some .notice
  else if s.gwu.orderReq then some .order
  else if s.orh.reportReq then some .report
  else if s.cbi.spent < s.allowance then
    if s.ups.raised then some .updata else if s.gwu.bulkReq then some .gateway else none
  else none

/-- The oldest management order for another station (R140). -/
def State.busOrder (s : State) : Option MgmtOrder := s.gwu.orders.find? fun m => m.target != s.orh.stn

/-- Contention entered with a call (R62). -/
def State.contend (k : Contending) (s : State) : State :=
  { s with cbi := { s.cbi with
      part := .contender, contending := some k, bsyDrive := true, idDrive := true, urgDrive := k.urgent
      lateOrder := if k = .order then s.busOrder else none
      lateReport := if k = .report then s.orh.queue.head? else none } }

/-- The contend window begun by a rise of CB_BSY (R60, R64, R77). -/
def State.openWindow (s : State) : State :=
  { s with cbi := { s.cbi with
      phase := .contend, part := .none, bsy := true, watch := some s.now, freeSince := none, windowStart := s.now } }

/-- CONTEND_START (R62). -/
def execContendStart (s : State) : Host.Outcome State Fault Refusal :=
  let t := s.fresh.observeBus
  .next (match t.cbi.phase, t.cbi.part, t.chooseCall with
    | .free, .none, some k => t.openWindow.contend k
    | _, _, _ => t)

/-- CB_BSY_RISE (R60, R62, R77). -/
def execCbBsyRise (s : State) : Host.Outcome State Fault Refusal :=
  let t := s.fresh.observeBus
  .next (match t.cbi.phase, t.chooseCall with
    | .free, some k => t.openWindow.contend k
    | .free, none => t.openWindow
    | _, _ => { t with cbi := { t.cbi with bsy := true } })

/-- A CLAIM whose late withdrawal takes effect at a lost contention: the call is removed and the Test Engine is told
(R61). -/
def State.claimRemoved (s : State) : State :=
  match s.cbi.claim with
  | some c =>
    if c.withdrawn then
      { s with cbi := { s.cbi with claim := none },
               ten := { s.ten with withdrawal := s.ten.withdrawal.map fun w => { w with settled := some false } } }
    else s
  | none => s

/-- A QUIET whose late withdrawal takes effect at a lost contention (R61). -/
def State.quietRemoved (s : State) : State :=
  { s with cbi := { s.cbi with quiet := s.cbi.quiet.filter fun q => !q.withdrawn } }

/-- The late withdrawal of the call contended for takes effect as its contention is lost (R61). -/
def State.withdrawContended (s : State) : State :=
  match s.cbi.contending with
  | some .claim => s.claimRemoved
  | some .quiet => s.quietRemoved
  | _ => s

/-- The contention is over for this station without a win (R61, R62). -/
def State.loseContention (s : State) : State :=
  let t := s.withdrawContended
  { t with cbi := { t.cbi with
      part := .none, contending := none, bsyDrive := false, idDrive := false, urgDrive := false, lateOrder := none
      lateReport := none } }

/-- CONTEND_MIDPOINT (R62): a bulk contender that sees CB_D8 asserted drops out. -/
def execContendMidpoint (d8 : Bool) (s : State) : Host.Outcome State Fault Refusal :=
  let t := s.fresh
  .next (State.settle s (
    if s.cbi.phase = .contend ∧ s.cbi.part = .contender ∧ s.cbi.urgDrive = false ∧ d8 = true then t.loseContention
    else t))

/-! ## The calls the station makes (R61, R65, R68, R73) -/

/-- The target of an UPDATA call at the win (R114). -/
def State.updataTarget (s : State) : StationId :=
  match s.pvw.active with
  | some g => if g = s.orh.stn then s.ups.target else g
  | none => s.ups.target

/-- The target of a REPORT call at the win (R144, R185). -/
def State.reportCallTarget (s : State) : StationId :=
  match s.pvw.active with
  | some g => if g = s.orh.stn then s.orh.reportTarget else g
  | none => s.orh.reportTarget

/-- A delivery position holds a frame: a station other than this one, or the flood queue at 8 (R137). -/
def State.positionWaits (s : State) (p : Nat) : Bool :=
  if p = 8 then !s.cqm.flood.isEmpty else octal p != s.orh.stn && !(s.cqm.stn.at (octal p)).isEmpty

/-- The next non-empty position after the delivery position (R137). -/
def State.nextPosition (s : State) : Option Nat :=
  ((List.range 9).map fun k => (s.gwu.position + 1 + k) % 9).find? s.positionWaits

/-- The call word driven and the call begun (R62, R65). -/
def State.makeCall (b : CallBody) (target : StationId) (ws : List Word) (s : State) : State :=
  State.strobe (callWordOf b.kind s.orh.stn target) { s with cbi := { s.cbi with
    part := .caller, phase := if b.kind.addressed then .answer else .transfer, contending := none
    call := some ⟨b, target, ws⟩, idDrive := false, urgDrive := false, lateOrder := none, lateReport := none
    windowStart := s.now } }

/-- A won contention with nothing left to carry: the bus is released with no call word (log 19). -/
def State.winNothing (s : State) : State :=
  { s.loseContention with cbi := { s.loseContention.cbi with phase := .call } }

/-- A bulk win charged (R63). -/
def State.charge (s : State) : State := { s with cbi := { s.cbi with spent := s.cbi.spent + 1 } }

/-- A FLOOD filled from the head of the flood queue and called (R73). -/
def State.callFlood (s : State) : State :=
  let r := takeWithin none [] s.cqm.flood
  State.makeCall .flood s.orh.stn (burstWords r.1)
    { s with cqm := { s.cqm with flood := r.2, assembly := some ⟨.flood, r.1⟩ } }

/-- The Gateway Unit's bulk call (R137). -/
def State.callGateway (s : State) : State :=
  match s.nextPosition with
  | some p =>
    let t : State := { s with gwu := { s.gwu with position := p } }
    if p = 8 then t.callFlood else t.makeCall .downdata (octal p) []
  | none => s.callFlood

/-- The station has won with a call (R61, R62): it names its contents and drives its call word. -/
def State.win (k : Contending) (s : State) : State :=
  match k with
  | .claim => match s.cbi.claim with
    | some c => State.makeCall (.claim c) s.orh.stn (claimWords c.home c.group) { s with cbi := { s.cbi with claim := none } }
    | none => s.winNothing
  | .quiet => match s.cbi.quiet with
    | some q => State.makeCall (.quiet q) s.orh.stn (quietWords q.group q.ms) { s with cbi := { s.cbi with quiet := none } }
    | none => s.winNothing
  | .notice => match s.cbi.notice with
    | some n => State.makeCall (.notice n) s.orh.stn (noticeWords n) { s with cbi := { s.cbi with notice := none } }
    | none => s.winNothing
  | .order => match s.busOrder.or s.cbi.lateOrder with
    | some m => s.makeCall (.order m) m.target []
    | none => s.winNothing
  | .report => match s.orh.queue.head?.or s.cbi.lateReport with
    | some r => s.makeCall (.report r) s.reportCallTarget []
    | none => s.winNothing
  | .updata => s.charge.makeCall .updata s.updataTarget []
  | .gateway => s.charge.callGateway

/-- The highest ID line among asserted ones (R62). -/
def highestId (ids : Byte) : Option StationId := ([7, 6, 5, 4, 3, 2, 1, 0] : List StationId).find? fun i => ids.getLsbD i.val

/-- The ID lines at the end of the window: the other stations' and the own. -/
def State.idLines (s : State) (ids : Byte) : Byte :=
  if s.cbi.idDrive then ids ||| BitVec.ofNat 8 (2 ^ s.orh.stn.val) else ids

/-- CONTEND_WINDOW_END (R62, R63). -/
def execContendWindowEnd (ids : Byte) (s : State) : Host.Outcome State Fault Refusal :=
  let t := s.fresh
  .next (State.settle s (
    if s.cbi.phase = .contend then
      match highestId (s.idLines ids), s.cbi.part, s.cbi.contending with
      | none, .contender, _ => t.loseContention
      | none, _, _ => t
      | some i, .contender, some k =>
        if i = s.orh.stn then t.win k
        else { t.loseContention with cbi := { t.loseContention.cbi with phase := .call } }
      | some _, _, _ => { t with cbi := { t.cbi with phase := .call } }
    else t))

/-! ## Outcomes (R71, R137, R141, R185) -/

/-- The own-call counters (R83). -/
def countOutcome (o : CallOutcome) (c : BusCounters) : BusCounters :=
  match o with
  | .good => c
  | .bad => { c with ownBad := sat32 c.ownBad 1 }
  | .full => { c with ownFull := sat32 c.ownFull 1 }
  | .absent => { c with ownAbsent := sat32 c.ownAbsent 1 }

/-- The caller's end of a call: CB_BSY released (R58, R67, R70). -/
def State.leaveCall (s : State) : State :=
  { s with cbi := { s.cbi with part := .none, call := none, bsyDrive := false } }

/-- Every frame of a per-station down queue freed and counted (R137). -/
def State.flushStn (i : StationId) (s : State) : State :=
  { s with cqm := { s.cqm.setFree (s.cqm.free + cellCount (s.cqm.stn.at i)) with
      stn := s.cqm.stn.put i []
      dropStn := s.cqm.dropStn.upd i fun n => sat32 n (s.cqm.stn.at i).length } }

/-- The outcome of an ORDER call on the entry it carried (R141). -/
def State.orderOutcome (o : CallOutcome) (m : MgmtOrder) (s : State) : State :=
  if m ∈ s.gwu.orders then
    let t : State := { s with gwu := { s.gwu with orders := s.gwu.orders.erase m } }
    match o with
    | .good => t
    | .absent => t.handlerReport m.order.tag (BitVec.ofNat 8 m.target.val) (BitVec.ofNat 8 m.order.code.toNat) .noStation
    | _ => s
  else s

/-- The outcome of a REPORT call (R71, R185, R187): GOOD removes the head report. That it removes it only while it is still
the report that the call carried is the model's choice (log 63). -/
def State.reportOutcome (o : CallOutcome) (r : Report) (s : State) : State :=
  if o = .good ∧ s.orh.queue.head? = some r then
    State.restartIfLeft (isRestartBody r.body) { s with orh := { s.orh with queue := s.orh.queue.tail } }
  else s

/-- The requester acts on the outcome of its call (R71). -/
def State.actOn (o : CallOutcome) (c : OwnCall) (s : State) : State :=
  match c.body, o with
  | .updata, .good | .downdata, .good => s.sendBurst
  | .updata, .bad | .downdata, .bad => s.failBurst
  | .downdata, .absent => s.flushStn c.target
  | .order m, o => s.orderOutcome o m
  | .report r, o => s.reportOutcome o r
  | _, _ => s

/-- The end of an addressed call with its outcome: counted, the bus released, the requester told (R71, R83). -/
def State.endCall (o : CallOutcome) (c : OwnCall) (s : State) : State :=
  State.actOn o c (State.leaveCall { s with cbi := { s.cbi with ctr := countOutcome o s.cbi.ctr } })

/-- The words of a transfer after a TAKE with its room (R68, R74, R115, R137). -/
def State.startTransfer (c : OwnCall) (room : Nat) (s : State) : State :=
  let go (t : State) (ws : List Word) : State :=
    { t with cbi := { t.cbi with call := some { c with words := ws }, phase := .transfer, windowStart := t.now } }
  match c.body with
  | .updata =>
    let r := s.fillUpdata room
    go r.1 (burstWords r.2)
  | .downdata =>
    let r := takeWithin (some room) [] (s.cqm.stn.at c.target)
    go { s with cqm := { s.cqm with stn := s.cqm.stn.put c.target r.2, assembly := some ⟨.downdata c.target, r.1⟩ } }
      (burstWords r.1)
  | .order m => go s (orderWords m.order)
  | .report r => go s (reportCallWords r)
  | _ => s

/-- ANSWER_WORD (R60, R67): judged by the caller, followed by the others. -/
def execAnswerWord (w : Word) (parity : Bool) (s : State) : Host.Outcome State Fault Refusal :=
  let t := s.fresh
  .next (State.settle s (
    if s.cbi.phase = .answer then
      match s.cbi.part, s.cbi.call with
      | .caller, some c =>
        if goodParity w parity = true ∧ octal (field w 11 3) = c.target then
          if field w 14 2 = 1 then t.startTransfer c (field w 0 11)
          else if field w 14 2 = 2 then t.endCall .full c
          else t.endCall .absent c
        else t.endCall .absent c
      | .listener, _ =>
        if goodParity w parity = true ∧ field w 14 2 = 1 then { t with cbi := { t.cbi with phase := .transfer } } else t
      | _, _ => t
    else t))

/-- ANSWER_WINDOW_EXPIRY (R67). -/
def execAnswerWindowExpiry (s : State) : Host.Outcome State Fault Refusal :=
  let t := s.fresh
  .next (State.settle s (match s.cbi.phase, s.cbi.part, s.cbi.call with
    | .answer, .caller, some c => t.endCall .absent c
    | _, _, _ => t))

/-- CLOSE_WORD (R60, R70). -/
def execCloseWord (w : Word) (parity : Bool) (s : State) : Host.Outcome State Fault Refusal :=
  let t := s.fresh
  .next (State.settle s (match s.cbi.phase, s.cbi.part, s.cbi.call with
    | .close, .caller, some c =>
      if goodParity w parity = true ∧ field w 14 2 = 1 ∧ octal (field w 11 3) = c.target then t.endCall .good c
      else t.endCall .bad c
    | .transfer, .listener, _ =>
      if s.cbi.rx.isNone then { t with cbi := { t.cbi with phase := .close } } else t
    | _, _, _ => t))

/-- CLOSE_WINDOW_EXPIRY (R70). -/
def execCloseWindowExpiry (s : State) : Host.Outcome State Fault Refusal :=
  let t := s.fresh
  .next (State.settle s (match s.cbi.phase, s.cbi.part, s.cbi.call with
    | .close, .caller, some c => t.endCall .bad c
    | _, _, _ => t))

/-- A broadcast of this station has gone out (R72, R73): its requester is told. -/
def State.wentOut (b : CallBody) (s : State) : State :=
  let t := s.leaveCall
  match b with
  | .claim c => t.claimOut c.withdrawn
  | .quiet q => t.quietOut q
  | .flood => t.sendBurst
  | _ => t

/-- The last word of this station's transfer has been strobed (R68, R72). -/
def State.lastWordSent (c : OwnCall) (s : State) : State :=
  if c.body.kind.addressed then { s with cbi := { s.cbi with phase := .close, call := some { c with words := [] } } }
  else s.wentOut c.body

/-- TRANSFER_WORD_SENT (R58, R68, R72). -/
def execTransferWordSent (s : State) : Host.Outcome State Fault Refusal :=
  let t := s.fresh
  .next (State.settle s (match s.cbi.phase, s.cbi.part, s.cbi.call with
    | .transfer, .caller, some c =>
      match c.words with
      | [] => t
      | w :: rest =>
        let u := State.strobe w { t with cbi := { t.cbi with windowStart := t.now } }
        if rest.isEmpty then u.lastWordSent c
        else { u with cbi := { u.cbi with call := some { c with words := rest } } }
    | _, _, _ => t))

/-! ## The fall of CB_BSY, the quiet gap, the watchdog, the bus reset (R60, R64, R77 to R79) -/

/-- A NOTICE put back among the pending calls, unless a newer latch has replaced it (R79). -/
def putBackNotice (n : Notice) (c : Cbi) : Cbi :=
  if c.notice.isSome then { c with ctr := { c.ctr with noticesReplaced := sat32 c.ctr.noticesReplaced 1 } }
  else { c with notice := some n }

/-- A call cut before its end put back with its contents unchanged, or ended as failed (R71, R73, R79); `reset` says that
a bus reset cuts it. A CLAIM or QUIET withdrawn too late is put back with that mark (log 22). That a fall of CB_BSY alone
treats a broadcast of the part as a bus reset does is the model's choice (log 54). -/
def State.cutCall (reset : Bool) (c : OwnCall) (s : State) : State :=
  let t := s.leaveCall
  match c.body with
  | .notice n => { t with cbi := putBackNotice n t.cbi }
  | .claim k => { t with cbi := { t.cbi with claim := some k } }
  | .quiet q => { t with cbi := { t.cbi with quiet := t.cbi.quiet.or (some q) } }
  | .flood => t.failBurst
  | .updata | .downdata =>
    if reset then t.failBurst else s.endCall .bad c
  | .order _ | .report _ => s.endCall .bad c

/-- What a fall of CB_BSY or a bus reset cuts on this station's side as contender or caller. -/
def State.cutOwn (reset : Bool) (s : State) : State :=
  match s.cbi.part, s.cbi.call with
  | .caller, some c => s.cutCall reset c
  | .contender, _ => s.loseContention
  | _, _ => s

/-- The bus seen FREE: no part in a call, nothing driven, no entry reserved, the free time from 0 (R60, R64, R66, R78). -/
def State.busFree (s : State) : State :=
  { s with cbi := { s.cbi with
      phase := .free, part := .none, bsyDrive := false, idDrive := false, urgDrive := false, contending := none
      call := none, rx := none, reservedOver := none, freeSince := some s.now } }

/-- CB_BSY_FALL (R59, R60, R64, R77). -/
def execCbBsyFall (s : State) : Host.Outcome State Fault Refusal :=
  let t := s.fresh
  let u : State := { t with cbi := { t.cbi with bsy := false, watch := none } }
  .next (State.settle s (
    if s.cbi.phase = .selfCheck then { t with cbi := { t.cbi with bsy := false } }
    else ((u.endReception).cutOwn false).busFree))

/-- QUIET_GAP (R64). -/
def execQuietGap (s : State) : Host.Outcome State Fault Refusal :=
  let t := s.fresh
  .next (if s.cbi.phase = .free ∧ s.cbi.bsy = false ∧ s.cbi.freeSince.isSome = true then
    { t with cbi := { t.cbi with spent := 0 } }
  else t)

/-- BUS_WATCHDOG_EXPIRY (R77). -/
def execBusWatchdogExpiry (s : State) : Host.Outcome State Fault Refusal :=
  let t := s.fresh
  .next (if s.cbi.watch.isSome = true ∧ s.cbi.bsy = true ∧ s.cbi.phase ≠ .unknown ∧ s.cbi.phase ≠ .selfCheck then
    State.emit [.busReset] { t with cbi := { t.cbi with
      watch := some t.now, ctr := { t.cbi.ctr with resetsPulsed := sat32 t.cbi.ctr.resetsPulsed 1 } } }
  else t)

/-- The spent count, the free time and the counter at a bus reset (R78). -/
def State.resetCounts (s : State) : State :=
  { s with cbi := { s.cbi with
      spent := 0, freeSince := some s.now, ctr := { s.cbi.ctr with resetsSeen := sat32 s.cbi.ctr.resetsSeen 1 } } }

/-- BUS_RESET (R78 to R80): in SELF_CHECK the loop goes on. -/
def execBusReset (s : State) : Host.Outcome State Fault Refusal :=
  let t := s.fresh
  .next (State.settle s (
    if s.cbi.phase = .selfCheck then t.resetCounts
    else State.resetCounts ((t.cutReception).cutOwn true).busFree))

/-! ## The self-check (R80, R81) -/

/-- SELF_CHECK_START (R80). -/
def execSelfCheckStart (s : State) : Host.Outcome State Fault Refusal :=
  let t := s.fresh.observeBus
  .next (if t.cbi.selfWanted = true ∧ t.cbi.phase = .free ∧ t.cbi.part = .none then
    { t with cbi := { t.cbi with
        selfWanted := false, phase := .selfCheck, watch := none, selfSince := some t.now, freeSince := none } }
  else t)

/-- SELF_CHECK_END (R80, R81): the result goes to the reply, and the part finds the bus again from UNKNOWN. -/
def execSelfCheckEnd (readBack : List (Word × Bool)) (s : State) : Host.Outcome State Fault Refusal :=
  let t := s.fresh
  .next (State.settle s (
    if s.cbi.phase = .selfCheck then
      State.observeBus (State.reply .done (.selfCheck (selfCheckResult readBack))
        { t with cbi := { t.cbi with phase := .unknown, selfSince := none } })
    else t))

end Sys2Proof.Machine
end

