-- ==== Sys2Proof/Machine/Peer.lean ====
section
/-! DEFINITION. The Peer View: notices heard, the round boundary with its aging, gateway choice, watches and latch, and
what the other blocks do at the boundary (chapter 5, R40, R42, R101, R120, R146). -/

namespace Sys2Proof

/-- An entry put in its place by station ID, replacing one of the same ID (R90). -/
def insertPeer (e : PeerEntry) : List PeerEntry → List PeerEntry
  | [] => [e]
  | x :: rest =>
    if e.id = x.id then e :: rest else if e.id < x.id then e :: x :: rest else x :: insertPeer e rest

/-- The view after one aging (R85, R91). -/
def agePeers (ps : List PeerEntry) : List PeerEntry :=
  (ps.map fun p => { p with age := p.age + 1 }).filter fun p => decide (p.age < 4)

/-- The own role (R93). -/
def chooseRole (fitted : Bool) (own : StationId) (ps : List PeerEntry) : Role :=
  if fitted then
    if ps.any fun p => decide (own < p.id) && p.notice.role != .line then .standby else .active
  else .line

/-- The highest-ID entry that says GATEWAY_ACTIVE (R94). -/
def highestActive (ps : List PeerEntry) : Option StationId :=
  ps.foldl (fun acc p =>
    if p.notice.role = .active then some (match acc with | some a => max a p.id | none => p.id) else acc) none

/-- The active gateway (R94). -/
def chooseActive (role : Role) (own : StationId) (ps : List PeerEntry) : Option StationId :=
  if role = .active then some own else highestActive ps

/-- The event of a gateway choice against the one before (R94). -/
def gatewayEvent (before now : Option StationId) (foundOnce : Bool) : Option Event :=
  match before, now with
  | some _, none => if foundOnce then some .gatewayLost else none
  | none, some g => some (.gatewayFound g)
  | some a, some g => if a = g then none else some (.gatewayFound g)
  | none, none => none

end Sys2Proof

namespace Sys2Proof.Machine

/-! ## NOTICE_HEARD (R90, R92) -/

/-- A notice with the own ID heard (R92). -/
def State.hearDuplicate (s : State) : State :=
  { s with
    pvw := { s.pvw with dup := true, dupQuiet := 0, dupHold := if s.pvw.dupHold = 0 then 256 else s.pvw.dupHold }
    orh := if s.pvw.dupHold = 0 then s.orh.offer .duplicateId else s.orh }

/-- NOTICE_HEARD (R90, R92). -/
def execNoticeHeard (caller : StationId) (n : Notice) (s : State) : Host.Outcome State Fault Refusal :=
  let t := s.fresh
  let t : State := { t with cbi := { t.cbi with heard := t.cbi.heard.erase (.notice caller n) } }
  .next (State.settle s (
    if caller = s.orh.stn then t.hearDuplicate
    else { t with pvw := { t.pvw with peers := insertPeer ⟨caller, n, 0⟩ t.pvw.peers } }))

/-! ## The notice latched (R86 to R89) -/

/-- A frame of a home's upstream queue is in the burst in assembly (R86). -/
def State.assembledOf (s : State) (h : HomeId) : Bool :=
  match s.cqm.assembly with
  | some ⟨.updata, fs⟩ => fs.any fun f => f.home == some h
  | _ => false

/-- A home that counts as active for the round just ended (R86). -/
def State.homeActive (s : State) (h : HomeId) : Bool :=
  !ignoresRates (s.service h) && (s.pvw.traffic.at h || !(s.cqm.up.at h).isEmpty || s.assembledOf h)

/-- The bandwidth weight W (R86). -/
def State.bandwidthWeight (s : State) : Nat := ((homeIds.filter s.homeActive).map s.eff).sum

/-- The bytes waiting upstream: the home queues and the home frames in the burst in assembly (R87). -/
def State.queuedBytes (s : State) : Nat :=
  (homeIds.map fun h => byteCount (s.cqm.up.at h)).sum +
    (match s.cqm.assembly with | some ⟨.updata, fs⟩ => byteCount fs | _ => 0)

/-- The upstream demand D (R87). -/
def State.demand (s : State) : Nat := min 65535 ((s.pvw.sent + s.queuedBytes + 127) / 128)

/-- A home that wants FULL (R88). -/
def State.wantsFull (s : State) (h : HomeId) : Bool :=
  s.service h == .training || s.service h == .waking || s.bhu.wakeQ.contains h ||
    (inService (s.service h) && decide (s.idleSeconds h < 30))

/-- A test is present (R88). -/
def State.testPresent (s : State) : Bool := !s.ten.queue.isEmpty || s.testHolding || s.ten.state == .releasing

/-- The power weight (R88). -/
def State.powerWeight (s : State) : Nat :=
  ((homeIds.filter s.wantsFull).map s.eff).sum + (if s.testPresent then 8 else 0)

/-- The power demand (R88). -/
def State.powerDemand (s : State) : Nat :=
  min 65535 (s.floor + s.cfg.fullOver * (homeIds.filter s.wantsFull).length + (if s.testPresent then s.cfg.pTest else 0))

/-- The test state a notice says (R89). -/
def noticeTestOf : TestState → NoticeTest
  | .idle => .idle
  | .deferred | .waiting | .claiming => .waiting
  | .connecting | .measuring | .releasing => .holding

/-- The binder group a notice says: that of the home under test while HOLDING (R89). -/
def State.noticeGroup (s : State) : Group :=
  if noticeTestOf s.ten.state = .holding then
    match s.ten.currentHome with | some h => (s.home h).group | none => 0
  else 0

/-- The notice as it stands at a latch (R86 to R89). -/
def State.noticeNow (s : State) : Notice :=
  { role := s.pvw.role
    mains := s.power
    storm := s.stormDriven
    test := noticeTestOf s.ten.state
    group := s.noticeGroup
    dup := s.pvw.dup
    uplinkUp := s.pvw.role != .line && s.gwu.uplinkUp
    powerWeight := s.powerWeight
    weight := s.bandwidthWeight
    demand := s.demand
    powerDemand := s.powerDemand
    u := if s.pvw.role = .line then 0 else s.cfg.u
    b := if s.pvw.role = .line then 0 else s.cfg.b }

/-- The latch: the notice taken, its NOTICE call requested, the round counters cleared (R85, step 5). -/
def State.latch (s : State) : State :=
  { s with
    pvw := { s.pvw with latched := some s.noticeNow, sent := 0, traffic := Tab.all false, roundStart := s.now }
    cbi := { s.cbi with
      notice := some s.noticeNow
      ctr := if s.cbi.notice.isSome
        then { s.cbi.ctr with noticesReplaced := sat32 s.cbi.ctr.noticesReplaced 1 } else s.cbi.ctr } }

/-! ## The other steps of the boundary -/

/-- A home's effective weight from its tier and step floor (R127). -/
def effOf (tier : Nat) (stepFloor : Option Nat) : Nat := match stepFloor with | some f => min f tier | none => tier

/-- The Upstream Scheduler at the boundary: expedited counts 0, staged tiers taken (R120, R127). -/
def State.upsBoundary (s : State) : State :=
  { s with
    lpb := { s.lpb with
      homes := Tab.make fun h =>
        { s.home h with tier := (s.ups.homes.at h).stagedTier.getD (s.home h).tier } }
    ups := { s.ups with
      homes := Tab.make fun h =>
        let m := s.ups.homes.at h
        { m with expCount := 0, stagedTier := none
                 eff := match m.stagedTier with | some t => effOf t m.stepFloor | none => m.eff } } }

/-- Aging, the own role and the active gateway, with the events that follow (R85, steps 1 to 3). -/
def State.choose (s : State) : State :=
  let ps := agePeers s.pvw.peers
  let role := chooseRole s.orh.fitted s.orh.stn ps
  let active := chooseActive role s.orh.stn ps
  { s with
    pvw := { s.pvw with peers := ps, role := role, active := active, foundOnce := s.pvw.foundOnce || active.isSome }
    orh := (gatewayEvent s.pvw.active active s.pvw.foundOnce).toList.foldl (fun o e => o.offer e) s.orh }

/-- The test bus is held by nobody (R95). -/
def State.heldByNobody (s : State) : Bool :=
  s.tbusy && !(s.pvw.peers.any fun p => p.notice.test == .holding) && !(s.testHolding || s.ten.state == .releasing)

/-- The stuck count after a boundary (R95). -/
def State.nextStuckCount (s : State) : Nat := if s.heldByNobody then min 4 (s.pvw.stuckCount + 1) else 0

/-- The TBUSY-stuck watch and the duplicate-ID counts (R85, step 4; R92, R95). -/
def State.watches (s : State) : State :=
  let newly := s.nextStuckCount == 4 && s.pvw.stuckCount != 4
  { s with
    pvw := { s.pvw with
      stuckCount := s.nextStuckCount
      stuck := s.pvw.stuck || newly
      dupHold := s.pvw.dupHold - 1
      dupQuiet := min 4 (s.pvw.dupQuiet + 1)
      dup := s.pvw.dup && decide (s.pvw.dupQuiet + 1 < 4) }
    orh := if newly then s.orh.offer .tbusyStuck else s.orh }

/-- The lost-rounds count and the flush of gateway loss (R40). -/
def State.lostRounds (s : State) : State :=
  if s.pvw.active.isSome then { s with cqm := { s.cqm with lostRounds := 0, flush := false } }
  else if s.cqm.lostRounds = 15 then
    homeIds.foldl (fun t h => t.freeUp .gatewayLost h) { s with cqm := { s.cqm with lostRounds := 16, flush := true } }
  else { s with cqm := { s.cqm with lostRounds := min 16 (s.cqm.lostRounds + 1) } }

/-- The frames of the gateway queues. -/
def Cqm.gatewayFrames (c : Cqm) : List Frame := c.uplink ++ (homeIds.flatMap fun i => c.stn.at i) ++ c.flood

/-- Leaving GATEWAY_ACTIVE (R42, R146). -/
def State.leaveGateway (s : State) : State :=
  { s with
    cqm := { s.cqm.setFree (s.cqm.free + cellCount s.cqm.gatewayFrames) with
      uplink := []
      stn := Tab.all []
      flood := []
      dropUplink := sat32 s.cqm.dropUplink s.cqm.uplink.length
      dropStn := Tab.make fun i => sat32 (s.cqm.dropStn.at i) (s.cqm.stn.at i).length
      dropFlood := sat32 s.cqm.dropFlood s.cqm.flood.length }
    gwu := { s.gwu with
      giving := none
      table := []
      orders := []
      reports := []
      ctr := { s.gwu.ctr with
        ordersLost := sat32 s.gwu.ctr.ordersLost s.gwu.orders.length
        reportsLost := sat32 s.gwu.ctr.reportsLost s.gwu.reports.length } } }

/-- Entering GATEWAY_ACTIVE (R146). -/
def State.enterGateway (s : State) : State :=
  { s with gwu := { s.gwu with
      table := [], orders := [], reports := [], bucket := 0, giving := none, position := 8, tickStart := s.now } }

/-- What a change of role does to the gateway's queues and tables (R42, R146). -/
def State.roleChange (wasWorking : Bool) (s : State) : State :=
  if wasWorking && !s.working then s.leaveGateway
  else if !wasWorking && s.working then s.enterGateway
  else s

/-- The share calculations of the boundary (R101): bandwidth always, power while on battery. -/
def State.shareBoundary (s : State) : State :=
  let t := s.bandwidthCalc
  if s.power = .mains then t else t.powerRound

/-- ROUND_BOUNDARY (R85, R101, R120, R150). -/
def execRoundBoundary (s : State) : Host.Outcome State Fault Refusal :=
  let t := s.fresh.upsBoundary.choose.watches
  let u := (t.lostRounds.roleChange s.working).latch.shareBoundary
  .next (State.settle s u.examine)

end Sys2Proof.Machine
end

