-- ==== Sys2Proof/Machine/Orders.lean ====
section
/-! DEFINITION. The Order Handler: taking orders and executing each, with its refusals and its reply (chapter 11, R13,
R23, R55, R56, R80, R96, R124, R126, R127, R149, R165, R167). -/

namespace Sys2Proof

/-- An argument of an order; absent ones are refused before they are read (R182). -/
def Order.arg (o : Order) (k : Nat) : Nat := (o.args.getD k 0).toNat

/-- A direction code of an order (R183). -/
def directionOf : Nat → Option Direction
  | 0 => some .up | 1 => some .down | 2 => some .both | _ => none

/-- A test set summed from 1 FV, 2 IR, 4 CAP (R183). -/
def testSetOf (n : Nat) : TestSet := ⟨n % 2 == 1, n / 2 % 2 == 1, n / 4 % 2 == 1⟩

/-- An action set summed from 1 EXPEDITE, 2 WAKE, 4 DROP (R183). -/
def actionsOf (n : Nat) : Actions := ⟨n % 2 == 1, n / 2 % 2 == 1, n / 4 % 2 == 1⟩

/-- The flag of byte position p in four mask words, position 0 in bit 15 of the first (section 4.10). -/
def maskFlag (words : List Word) (p : Nat) : Bool := (words.getD (p / 16) 0).getLsbD (15 - p % 16)

/-- The byte of position p in 32 value words, the lower-numbered byte in bits 15 to 8. -/
def valueByte (words : List Word) (p : Nat) : Byte :=
  BitVec.ofNat 8 (field (words.getD (p / 2) 0) (if p % 2 = 0 then 8 else 0) 8)

/-- The contents that a WRITE_FILTER order gives a filter, which stays disabled (R55). -/
def filterContents (o : Order) (dir : Direction) : Filter :=
  { enabled := false, dir, acts := actionsOf (o.arg 2), minLen := min (o.arg 3) 1536
    mask := Tab.make fun p => maskFlag ((o.args.drop 4).take 4) p.val
    value := Tab.make fun p => valueByte ((o.args.drop 8).take 32) p.val }

/-- The threshold of a STAGE_VOLUME_STEP order: three words, high word first; 0 is taken as 1; the weight clamped to
1 to 15 (R124). -/
def thresholdOf (o : Order) : Threshold :=
  ⟨max 1 (o.arg 1 * 2 ^ 32 + o.arg 2 * 2 ^ 16 + o.arg 3), clamp 1 15 (o.arg 4)⟩

/-- A step placed among a home's thresholds; absent when two are staged behind an active one (R124). -/
def UpsHome.stage (t : Threshold) (m : UpsHome) : Option UpsHome :=
  if m.threshold.isNone then some { m with threshold := some t }
  else if m.staged.length < 2 then some { m with staged := m.staged ++ [t] }
  else none

end Sys2Proof

namespace Sys2Proof.Machine

/-! ## Taking orders (R182) -/

/-- ORDER_START (R182): the head order leaves the buffer, with a report queue entry reserved for its reply. -/
def execOrderStart (s : State) : Host.Outcome State Fault Refusal :=
  let t := s.fresh
  .next (State.settle s (match s.cbi.orders with
    | o :: rest =>
      if s.orh.executing = none ∧ s.orh.restart = none ∧ s.orh.entries < 16 then
        { t with cbi := { t.cbi with orders := rest }, orh := { t.orh with executing := some o } }
      else t
    | [] => t))

/-- The order under execution, if it is one of a code (log 5). -/
def State.running (s : State) (code : Nat) : Option Order := s.orh.executing.filter fun o => o.code.toNat == code

/-- The order under execution carried out: its form is checked first, then whether its home is above 7 (R182, R183). -/
def State.execute (code args : Nat) (homeArg : Bool) (f : Order → State → State) (s : State) : State :=
  let t := s.fresh
  match s.running code with
  | some o =>
    if o.args.length < args ∨ (homeArg = true ∧ 7 < o.arg 0) then t.reply .refusedRange .none else f o t
  | none => t

/-! ## What a LINE_STATUS reply carries (R83, R96, R109, R128, R147, R148, R168, R181, R183) -/

/-- The step that the current test has under way. -/
def Ten.step (t : Ten) : Option TestPhase := t.current.map CurrentTest.phase

/-- The station part (R183). -/
def State.stationStatus (s : State) : StationStatus :=
  { stn := s.orh.stn, fitted := s.orh.fitted, defaulted := s.orh.defaulted, lostEvents := s.orh.lostEvents
    queueEntries := s.orh.entries, queueEvents := s.orh.events, free := s.cqm.free, bus := s.cbi.ctr
    s := s.shc.s, t := s.shc.t, bwCap := s.shc.bwCap, bwShare := s.shc.bwShare, bwParts := s.shc.bwParts
    bwPasses := s.shc.bwPasses, a := s.shc.a, pwCap := s.shc.pwCap, pwShare := s.shc.pwShare, pwParts := s.shc.pwParts
    pwPasses := s.shc.pwPasses, capK := s.cfg.capK, ramp := s.cfg.ramp, fallback := s.cfg.fallback
    credit := s.ups.credit, depth := s.cfg.depth, raised := s.ups.raised, move := s.ups.move, expLast := s.ups.expLast
    drrPos := s.ups.drrPos, visitOpen := s.ups.visitOpen, gateway := s.gwu.ctr, tableEntries := s.gwu.table.length
    testState := s.ten.state, testHome := s.ten.currentHome, testStep := s.ten.step, testQueue := s.ten.queue
    quietGroups := groupIds.filter s.quietRunning, logRecords := s.ten.log.length
    logUnread := (s.ten.log.filter fun r => !r.read).length, lostResults := s.ten.lost, power := s.power
    lineCost := s.lineCost, reserve := s.bhu.reserve, remaining := s.bhu.remaining, wakeQueue := s.bhu.wakeQ }

/-- A home's wake timer in seconds (R168). -/
def State.wakeTimer (s : State) (h : HomeId) : Option Nat :=
  (s.bhu.wakeSince.at h).map fun t => min 30 ((s.now - t) / Config.second)

/-- The home part (R183). -/
def State.homeStatus (s : State) (h : HomeId) : HomeStatus :=
  let m := s.home h
  { home := h, service := m.service, ret := m.ret, rateUp := m.rateUp, rateDown := m.rateDown, learned := m.learned
    flaps := m.flaps, upCells := cellCount (s.cqm.up.at h), upFrames := (s.cqm.up.at h).length
    downCells := cellCount (s.cqm.down.at h), downFrames := (s.cqm.down.at h).length, wake := s.ffu.wake.at h
    tier := m.tier, ups := s.ups.homes.at h, outcome := s.bhu.outcome.at h, wakeTimer := s.wakeTimer h
    idleTimer := s.idleSeconds h }

/-- The homes a LINE_STATUS order names: one, or all eight for 8. -/
def statusHomes (n : Nat) : List HomeId := if n = 8 then homeIds else [octal n]

/-- LINE_STATUS (R183): the state as the order finds it. -/
def execLineStatus (s : State) : Host.Outcome State Fault Refusal :=
  .next (State.settle s (s.execute 1 1 false fun o t =>
    if 8 < o.arg 0 then t.reply .refusedRange .none
    else t.reply .done (.lineStatus t.stationStatus ((statusHomes (o.arg 0)).map t.homeStatus))))

/-! ## Orders on homes -/

/-- READ_COUNTERS (R23, R183). -/
def execReadCounters (s : State) : Host.Outcome State Fault Refusal :=
  .next (State.settle s (s.execute 2 2 true fun o t =>
    if 1 < o.arg 1 then t.reply .refusedRange .none
    else
      let h := octal (o.arg 0)
      let u := t.reply .done (.counters (t.home h).ctr)
      if o.arg 1 = 1 then u.updHome h fun m => { m with ctr := HomeCounters.zero } else u))

/-- The scheduler's items of a home changed. -/
def State.updUps (h : HomeId) (f : UpsHome → UpsHome) (s : State) : State :=
  { s with ups := { s.ups with homes := s.ups.homes.upd h f } }

/-- SET_TIER (R127). -/
def execSetTier (s : State) : Host.Outcome State Fault Refusal :=
  .next (State.settle s (s.execute 3 2 true fun o t =>
    (t.updUps (octal (o.arg 0)) fun m => { m with stagedTier := some (clamp 1 15 (o.arg 1)) }).reply .done .none))

/-- A home disabled (R13): its test ends first, then it enters ADMIN_DOWN; nothing for one already there. -/
def State.disableHome (h : HomeId) (s : State) : State :=
  if s.service h = .adminDown then s else (s.abortForAdmin h).enterAdminDown h

/-- A home enabled (R13). -/
def State.enableHome (h : HomeId) (s : State) : State :=
  if s.service h = .adminDown then s.enterDown h else s

/-- LINE_ADMIN (R13, R183). That a value above 1 is judged before an UNEQUIPPED home is the model's choice (log 51). -/
def execLineAdmin (s : State) : Host.Outcome State Fault Refusal :=
  .next (State.settle s (s.execute 4 2 true fun o t =>
    let h := octal (o.arg 0)
    if 1 < o.arg 1 then t.reply .refusedRange .none
    else if t.service h = .unequipped then t.reply .refusedState .none
    else
      let u := if o.arg 1 = 0 then t.disableHome h else t.enableHome h
      u.reply .done (.service (u.service h))))

/-! ## Orders on tests -/

/-- The place and set of a home's entry in the test queue, counted from 1 at the head (R149). -/
def Ten.placeOf (h : HomeId) (t : Ten) : ReplyData :=
  match t.queue.findIdx? fun e => e.home == h with
  | some k => .testPlace (k + 1) ((t.queue[k]?.map TestEntry.set).getD ⟨false, false, false⟩)
  | none => .none

/-- TEST_LINE (R149, R183). That a set or quiet value out of range is judged before the home's state is the model's choice
(log 51). -/
def execTestLine (s : State) : Host.Outcome State Fault Refusal :=
  .next (State.settle s (s.execute 5 3 true fun o t =>
    let h := octal (o.arg 0)
    if o.arg 1 = 0 ∨ 7 < o.arg 1 ∨ 1 < o.arg 2 then t.reply .refusedRange .none
    else if holdRefused (t.service h) then t.reply .refusedState .none
    else match t.ten.request h (testSetOf (o.arg 1)) (o.arg 2 == 1) .order with
      | none => t.reply .refusedFull .none
      | some q => State.reply .done (q.placeOf h) { t with ten := q }))

/-- The record that a removed entry writes: only a RESUMED one that carries measurements (R165). -/
def State.removedRecord (e : TestEntry) (s : State) : State :=
  match e.carried with
  | some c => s.writeCancelled e.home e.firstOrigin c.cause c.meas
  | none => s

/-- An entry removed from the queue, with the CLAIM made for it withdrawn (R165). -/
def State.cancelEntry (e : TestEntry) (s : State) : State :=
  let t := if s.ten.state = .claiming ∧ s.ten.queue.head? = some e then s.withdrawClaim none else s
  State.removedRecord e { t with ten := { t.ten with queue := t.ten.queue.filter fun x => x.home != e.home } }

/-- The current test is a suspension in RELEASING (R165). -/
def Ten.suspending (t : Ten) : Bool :=
  t.state == .releasing && (match t.current with | some c => c.outcome.isNone && c.cause.isSome | none => false)

/-- A cancellation that the current test takes (R165). -/
def State.cancelCurrent (h : HomeId) (s : State) : State :=
  if s.ten.currentHome = some h then
    if s.testHolding then s.endTest .abortedCancel
    else if s.ten.suspending then s.updTest fun c => { c with cancelled := true }
    else s
  else s

/-- Whether a cancellation finds something to act on (R165). -/
def State.cancels (s : State) (h : HomeId) : Bool :=
  s.ten.queue.any (fun e => e.home == h) || (s.ten.currentHome == some h && (s.testHolding || s.ten.suspending))

/-- CANCEL_TEST (R165). -/
def execCancelTest (s : State) : Host.Outcome State Fault Refusal :=
  .next (State.settle s (s.execute 6 1 true fun o t =>
    let h := octal (o.arg 0)
    let u := match t.ten.queue.find? fun e => e.home == h with
      | some e => t.cancelEntry e
      | none => t
    (u.cancelCurrent h).reply (if t.cancels h then .done else .refusedState) .none))

/-- READ_RESULTS (R167). That the copies in the reply show the read flag as it was before is the model's choice
(log 58). -/
def execReadResults (s : State) : Host.Outcome State Fault Refusal :=
  .next (State.settle s (s.execute 7 1 false fun o t =>
    let unread := t.ten.log.filter fun r => !r.read
    let given := unread.take (min (o.arg 0) 16)
    let u : State := { t with ten := { t.ten with
      log := t.ten.log.map fun r => if given.contains r then { r with read := true } else r } }
    u.reply .done (.results given (unread.length - given.length))))

/-! ## Volume orders (R124, R126) -/

/-- The thresholds a reply carries. -/
def State.thresholds (s : State) (h : HomeId) : ReplyData :=
  .thresholds (s.ups.homes.at h).threshold (s.ups.homes.at h).staged

/-- A step staged, and compared when it became the active threshold (R124, R125). -/
def State.stageStep (h : HomeId) (m : UpsHome) (s : State) : State :=
  let r := compareThresholds h m
  { s with ups := { s.ups with homes := s.ups.homes.put h r.1 }, orh := r.2.foldl (fun o e => o.offer e) s.orh }

/-- STAGE_VOLUME_STEP (R124): the reply to a refused step carries the thresholds as they stand. -/
def execStageVolumeStep (s : State) : Host.Outcome State Fault Refusal :=
  .next (State.settle s (s.execute 8 5 true fun o t =>
    let h := octal (o.arg 0)
    match (t.ups.homes.at h).stage (thresholdOf o) with
    | none => t.reply .refusedFull (t.thresholds h)
    | some m =>
      let u := t.stageStep h m
      u.reply .done (u.thresholds h)))

/-- CLEAR_VOLUME_STEPS (R126). -/
def execClearVolumeSteps (s : State) : Host.Outcome State Fault Refusal :=
  .next (State.settle s (s.execute 9 1 true fun o t =>
    (t.updUps (octal (o.arg 0)) fun m => { m with staged := [] }).reply .done .none))

/-- NEW_ACCOUNTING_PERIOD (R126). -/
def execNewAccountingPeriod (s : State) : Host.Outcome State Fault Refusal :=
  .next (State.settle s (s.execute 10 0 false fun _ t =>
    State.reply .done .none { t with ups := { t.ups with homes := Tab.make fun h =>
      { t.ups.homes.at h with volume := 0, eff := (t.home h).tier, stepFloor := none } } }))

/-! ## Filters (R55, R56) -/

/-- A filter replaced. -/
def State.putFilter (i : FilterId) (f : Filter) (s : State) : State :=
  { s with ffu := { s.ffu with filters := s.ffu.filters.put i f } }

/-- WRITE_FILTER (R55, R183). That an action set above 7 is judged before the enabled state is the model's choice
(log 51). -/
def execWriteFilter (s : State) : Host.Outcome State Fault Refusal :=
  .next (State.settle s (s.execute 11 40 false fun o t =>
    let i := octal (o.arg 0)
    match directionOf (o.arg 1) with
    | none => t.reply .refusedRange .none
    | some dir =>
      if 7 < o.arg 0 ∨ 7 < o.arg 2 then t.reply .refusedRange .none
      else if (t.ffu.filters.at i).enabled then t.reply .refusedState .none
      else (t.putFilter i (filterContents o dir)).reply .done (.filter (filterContents o dir))))

/-- FILTER_ENABLE (R56, R183). -/
def execFilterEnable (s : State) : Host.Outcome State Fault Refusal :=
  .next (State.settle s (s.execute 12 2 false fun o t =>
    let i := octal (o.arg 0)
    if 7 < o.arg 0 ∨ 1 < o.arg 1 then t.reply .refusedRange .none
    else (t.putFilter i { t.ffu.filters.at i with enabled := o.arg 1 == 1 }).reply .done .none))

/-! ## The view, the self-check, the restart (R80, R96, R187) -/

/-- READ_PEERS (R96). -/
def execReadPeers (s : State) : Host.Outcome State Fault Refusal :=
  .next (State.settle s (s.execute 13 0 false fun _ t =>
    t.reply .done (.peers
      { role := t.pvw.role, active := t.pvw.active, lost := t.pvw.active.isNone, stuck := t.pvw.stuck, dup := t.pvw.dup,
        latched := t.pvw.latched, peers := t.pvw.peers })))

/-- BUS_SELF_CHECK (R80): the request waits for the bus; the order stays under execution until the result. -/
def execBusSelfCheck (s : State) : Host.Outcome State Fault Refusal :=
  .next (State.settle s (s.execute 14 0 false fun _ t =>
    if t.cbi.phase = .selfCheck then t else { t with cbi := { t.cbi with selfWanted := true } }))

/-- RESTART (R187). -/
def execRestart (s : State) : Host.Outcome State Fault Refusal :=
  .next (State.settle s (s.execute 15 0 false fun _ t =>
    let u := t.reply .done .restarting
    { u with orh := { u.orh with restart := some u.now } }))

/-- UNKNOWN_ORDER (R182): order code 0. -/
def execUnknownOrder (s : State) : Host.Outcome State Fault Refusal :=
  .next (State.settle s (s.execute 0 0 false fun _ t => t.reply .unknownOrder .none))

end Sys2Proof.Machine
end

