-- ==== Sys2Proof/Machine/Dispatch.lean ====
section
/-! DEFINITION. The meaning of each command, one arm per constructor. -/

namespace Sys2Proof.Machine

/-- The effect of a command on everything but the queue of waiting commands. -/
def exec (i : Instr) (s : State) : Host.Outcome State Fault Refusal :=
  match i with
  | .powerOn pins => Sys2Proof.Machine.execPowerOn pins s
  | .linkStateReport h st => Sys2Proof.Machine.execLinkStateReport h st s
  | .rateReport h up down => Sys2Proof.Machine.execRateReport h up down s
  | .activity h => Sys2Proof.Machine.execActivity h s
  | .wakeFailure h => Sys2Proof.Machine.execWakeFailure h s
  | .upstreamFrame h bytes => Sys2Proof.Machine.execUpstreamFrame h bytes s
  | .downstreamGiveStart h ready => Sys2Proof.Machine.execDownstreamGiveStart h ready s
  | .downstreamFrameTaken h => Sys2Proof.Machine.execDownstreamFrameTaken h s
  | .modeRequestFull h => Sys2Proof.Machine.execModeRequestFull h s
  | .modeRequestLow h => Sys2Proof.Machine.execModeRequestLow h s
  | .modeRequestSleep h => Sys2Proof.Machine.execModeRequestSleep h s
  | .modeRequestWake h => Sys2Proof.Machine.execModeRequestWake h s
  | .wakeWithdrawRequest h => Sys2Proof.Machine.execWakeWithdrawRequest h s
  | .wakeAbandonRequest h => Sys2Proof.Machine.execWakeAbandonRequest h s
  | .surge h => Sys2Proof.Machine.execSurge h s
  | .stormHoldExpiry => Sys2Proof.Machine.execStormHoldExpiry s
  | .stormRise => Sys2Proof.Machine.execStormRise s
  | .stormFall => Sys2Proof.Machine.execStormFall s
  | .excuseWindowExpiry => Sys2Proof.Machine.execExcuseWindowExpiry s
  | .cbBsyRise => Sys2Proof.Machine.execCbBsyRise s
  | .contendStart => Sys2Proof.Machine.execContendStart s
  | .contendMidpoint d8 => Sys2Proof.Machine.execContendMidpoint d8 s
  | .contendWindowEnd ids => Sys2Proof.Machine.execContendWindowEnd ids s
  | .callWord w parity => Sys2Proof.Machine.execCallWord w parity s
  | .answerWord w parity => Sys2Proof.Machine.execAnswerWord w parity s
  | .answerWindowExpiry => Sys2Proof.Machine.execAnswerWindowExpiry s
  | .transferWordSent => Sys2Proof.Machine.execTransferWordSent s
  | .transferWordReceived w parity => Sys2Proof.Machine.execTransferWordReceived w parity s
  | .badCloseTimeout => Sys2Proof.Machine.execBadCloseTimeout s
  | .closeWord w parity => Sys2Proof.Machine.execCloseWord w parity s
  | .closeWindowExpiry => Sys2Proof.Machine.execCloseWindowExpiry s
  | .cbBsyFall => Sys2Proof.Machine.execCbBsyFall s
  | .noticeHeard caller n => Sys2Proof.Machine.execNoticeHeard caller n s
  | .claimHeard caller h g => Sys2Proof.Machine.execClaimHeard caller h g s
  | .quietHeard g ms => Sys2Proof.Machine.execQuietHeard g ms s
  | .claimWithdrawalSettled => Sys2Proof.Machine.execClaimWithdrawalSettled s
  | .quietGap => Sys2Proof.Machine.execQuietGap s
  | .busWatchdogExpiry => Sys2Proof.Machine.execBusWatchdogExpiry s
  | .busReset => Sys2Proof.Machine.execBusReset s
  | .selfCheckStart => Sys2Proof.Machine.execSelfCheckStart s
  | .selfCheckEnd readBack => Sys2Proof.Machine.execSelfCheckEnd readBack s
  | .roundBoundary => Sys2Proof.Machine.execRoundBoundary s
  | .creditIntervalEnd => Sys2Proof.Machine.execCreditIntervalEnd s
  | .move => Sys2Proof.Machine.execMove s
  | .uplinkStateChange up => Sys2Proof.Machine.execUplinkStateChange up s
  | .transmitterStart => Sys2Proof.Machine.execTransmitterStart s
  | .uplinkFrameTaken => Sys2Proof.Machine.execUplinkFrameTaken s
  | .uplinkFrameReceived bytes err => Sys2Proof.Machine.execUplinkFrameReceived bytes err s
  | .addressAgeTick => Sys2Proof.Machine.execAddressAgeTick s
  | .managementOrderHandoff => Sys2Proof.Machine.execManagementOrderHandoff s
  | .ownReportPass => Sys2Proof.Machine.execOwnReportPass s
  | .orderStart => Sys2Proof.Machine.execOrderStart s
  | .lineStatus => Sys2Proof.Machine.execLineStatus s
  | .readCounters => Sys2Proof.Machine.execReadCounters s
  | .setTier => Sys2Proof.Machine.execSetTier s
  | .lineAdmin => Sys2Proof.Machine.execLineAdmin s
  | .testLine => Sys2Proof.Machine.execTestLine s
  | .cancelTest => Sys2Proof.Machine.execCancelTest s
  | .readResults => Sys2Proof.Machine.execReadResults s
  | .stageVolumeStep => Sys2Proof.Machine.execStageVolumeStep s
  | .clearVolumeSteps => Sys2Proof.Machine.execClearVolumeSteps s
  | .newAccountingPeriod => Sys2Proof.Machine.execNewAccountingPeriod s
  | .writeFilter => Sys2Proof.Machine.execWriteFilter s
  | .filterEnable => Sys2Proof.Machine.execFilterEnable s
  | .readPeers => Sys2Proof.Machine.execReadPeers s
  | .busSelfCheck => Sys2Proof.Machine.execBusSelfCheck s
  | .restart => Sys2Proof.Machine.execRestart s
  | .unknownOrder => Sys2Proof.Machine.execUnknownOrder s
  | .restartLimitExpiry => Sys2Proof.Machine.execRestartLimitExpiry s
  | .relaySettleEnd => Sys2Proof.Machine.execRelaySettleEnd s
  | .quietSettleEnd => Sys2Proof.Machine.execQuietSettleEnd s
  | .quietEndExpiry g => Sys2Proof.Machine.execQuietEndExpiry g s
  | .stepSettleEnd => Sys2Proof.Machine.execStepSettleEnd s
  | .headReadResponse v b_i ac ready => Sys2Proof.Machine.execHeadReadResponse v b_i ac ready s
  | .headReadTimeout => Sys2Proof.Machine.execHeadReadTimeout s
  | .crossRise => Sys2Proof.Machine.execCrossRise s
  | .crossFall => Sys2Proof.Machine.execCrossFall s
  | .capTimeout => Sys2Proof.Machine.execCapTimeout s
  | .holdTimeLimit => Sys2Proof.Machine.execHoldTimeLimit s
  | .releaseSettleEnd => Sys2Proof.Machine.execReleaseSettleEnd s
  | .tbusyRise => Sys2Proof.Machine.execTbusyRise s
  | .tbusyFall => Sys2Proof.Machine.execTbusyFall s
  | .mainsOkFall => Sys2Proof.Machine.execMainsOkFall s
  | .mainsOkRise => Sys2Proof.Machine.execMainsOkRise s
  | .battLowRise => Sys2Proof.Machine.execBattLowRise s
  | .battLowFall => Sys2Proof.Machine.execBattLowFall s
  | .wakeTimeLimit h => Sys2Proof.Machine.execWakeTimeLimit h s
  | .idleTimerExpiry h => Sys2Proof.Machine.execIdleTimerExpiry h s

end Sys2Proof.Machine
end

