-- ==== Sys2Proof/Machine/Step.lean ====
section
/-! DEFINITION. One step of the part: the command at the front of the queue, or a tick of its clock. -/

namespace Sys2Proof.Machine

/-- What a step does on an empty queue: the part's clock advances by one microsecond, and a part that does not know
where the bus stands sees it (log 3). -/
def State.tick (s : State) : State := State.observeBus { s.fresh with now := s.now + 1 }

/-- One step: the front command is taken from the queue and run on the rest. -/
def step (s : State) : Host.Outcome State Fault Refusal :=
  match s.pending with
  | [] => .next s.tick
  | c :: rest => exec c { s with pending := rest }

/-- The state with the command that a word spells at the front of its queue; no word spells one. -/
def State.withFetchWord (s : State) (nbits w : Nat) : State :=
  match decodeTableWord nbits w with
  | some c => { s with pending := c :: s.pending }
  | none => s

end Sys2Proof.Machine
end

