-- ==== Sys2Proof/Safety.lean ====
section
/-! DEFINITION. The words in which the statements speak: what the end of a command may write, and the invariants of
the manual. -/

namespace Sys2Proof

/-- A test state with the four states in which no test holds the bus taken as one (R150). -/
def TestState.apartFromHead : TestState → TestState
  | .deferred | .waiting | .claiming => .idle
  | st => st

/-- A call without the mark of a late withdrawal of its CLAIM (R61, R151). -/
def OwnCall.unmarked (c : OwnCall) : OwnCall :=
  match c.body with
  | .claim k => { c with body := .claim { k with withdrawn := false } }
  | _ => c

/-- Frames that cells can hold: at most 1536 bytes (R25). -/
def framesFit (q : List Frame) : Prop := ∀ f ∈ q, f.length ≤ 1536

end Sys2Proof

namespace Sys2Proof.Machine

/-! ## What the end of a command writes -/

/-- A state without what the examination of the head entry (R150, R151) and the standing requests (R114, R121, R137,
R140, R185) write. -/
def State.rest (s : State) : State :=
  { s with
    ten := { s.ten with state := s.ten.state.apartFromHead, withdrawal := none }
    cbi := { s.cbi with claim := none, call := s.cbi.call.map OwnCall.unmarked }
    ups := { s.ups with raised := false, target := 0, move := .idle }
    gwu := { s.gwu with bulkReq := false, orderReq := false }
    orh := { s.orh with reportReq := false, reportTarget := 0 } }

/-- The standing requests stand exactly while their conditions hold (R114, R121, R137, R140, R185). -/
def StandingRequestsHold (s : State) : Prop :=
  s.ups.raised = s.wantsUpdata ∧ s.gwu.bulkReq = s.wantsBulk ∧ s.gwu.orderReq = s.wantsOrder ∧
    s.orh.reportReq = s.wantsReport ∧
    (s.ups.move = .idle ↔ ¬(s.working = true ∧ 0 < s.ups.credit ∧ s.cqm.upWaiting = true))

/-! ## Cells (R24, R32, R35) -/

/-- The cells of the frames being given to the transceivers (R16). -/
def State.givingCells (s : State) : Nat := (homeIds.map fun h => ((s.lpb.giving.at h).elim 0 Frame.cells)).sum

/-- The cells of a table of queues. -/
def tabCells (t : Tab 8 (List Frame)) : Nat := (homeIds.map fun i => cellCount (t.at i)).sum

/-- The cells of the burst in assembly (R35). -/
def Cqm.assemblyCells (c : Cqm) : Nat := c.assembly.elim 0 fun a => cellCount a.frames

/-- The cells that frames hold (R24). -/
def State.cellsInUse (s : State) : Nat :=
  tabCells s.cqm.up + tabCells s.cqm.down + cellCount s.cqm.uplink + tabCells s.cqm.stn + cellCount s.cqm.flood +
    s.cqm.assemblyCells + cellCount (s.cqm.held.map Held.frame) + s.givingCells

/-- The burst in assembly exists only during the transfer or the close of an own data call (R35). -/
def BurstOnlyInItsCall (s : State) : Prop :=
  s.cqm.assembly.isSome = true →
    s.cbi.part = .caller ∧ ∃ c, s.cbi.call = some c ∧
      (((c.body = .updata ∨ c.body = .downdata) ∧ (s.cbi.phase = .transfer ∨ s.cbi.phase = .close)) ∨
        (c.body = .flood ∧ s.cbi.phase = .transfer))

/-- Every cell is free or held by a frame, and by one only (R24). -/
def CellsBalance (s : State) : Prop := s.cqm.free + s.cellsInUse = Config.cells ∧ BurstOnlyInItsCall s

/-- The pause is on below 256 free cells and off from 384 on (R32). -/
def PauseFollowsFreeCount (s : State) : Prop :=
  (s.cqm.free < 256 → s.cqm.pause = true) ∧ (384 ≤ s.cqm.free → s.cqm.pause = false)

/-! ## Queues and lists -/

/-- A home in TEST_HELD, ADMIN_DOWN or UNEQUIPPED has no frame queued (R14). -/
def ClosedHomesHoldNoFrames (s : State) : Prop :=
  (∀ h, (s.service h = .testHeld ∨ s.service h = .adminDown ∨ s.service h = .unequipped) →
    s.cqm.up.at h = [] ∧ s.cqm.down.at h = []) ∧
  (∀ h, ∀ f ∈ s.cqm.up.at h, f.home = some h) ∧
  ∀ fs, s.cqm.assembly = some ⟨.updata, fs⟩ → ∀ f ∈ fs, ∃ h, f.home = some h ∧ s.service h ≠ .unequipped

/-- A station that is not the active gateway has empty gateway queues and tables (R26, R42, R146). -/
def GatewayQueuesOnlyAtGateway (s : State) : Prop :=
  s.working = false → s.cqm.uplink = [] ∧ (∀ i, s.cqm.stn.at i = []) ∧ s.cqm.flood = [] ∧ s.gwu.table = [] ∧
    s.gwu.orders = [] ∧ s.gwu.reports = [] ∧ s.gwu.giving = none

/-- The report queue: 16 entries with the reservation, 12 events (R181, R184). -/
def ReportQueueBounded (s : State) : Prop := s.orh.entries ≤ 16 ∧ s.orh.events ≤ 12

/-- The test queue: distinct homes, and room for the current test (R149, R150). -/
def TestQueueBounded (s : State) : Prop :=
  (s.ten.queue.map TestEntry.home).Nodup ∧ s.ten.queue.length + (if s.ten.current.isSome then 1 else 0) ≤ 8

/-- The wake queue: distinct homes, all in SLEEP (R176). -/
def WakeQueueSleeps (s : State) : Prop := s.bhu.wakeQ.Nodup ∧ ∀ h ∈ s.bhu.wakeQ, s.service h = .sleep

/-- The peer view: entries in ID order, none with the own ID, ages 0 to 3 (R90, R91). -/
def PeerViewOrdered (s : State) : Prop :=
  (s.pvw.peers.map PeerEntry.id).Pairwise (· < ·) ∧ ∀ p ∈ s.pvw.peers, p.id ≠ s.orh.stn ∧ p.age < 4

/-- The address table: at most 512 entries with distinct addresses and distinct numbers 0 to 511, no address with its
group bit set, ages 0 to 299 (R134). -/
def AddressTableDistinct (s : State) : Prop :=
  s.gwu.table.length ≤ 512 ∧ (s.gwu.table.map AddrEntry.addr).Nodup ∧ (s.gwu.table.map AddrEntry.num).Nodup ∧
    ∀ e ∈ s.gwu.table, groupBit e.addr = false ∧ e.num < 512 ∧ e.age < 300

/-- The order buffer, the management order list and the gateway report buffer within their sizes, the entries that
receptions reserve included (R59, R66, R140, R143). -/
def BuffersBounded (s : State) : Prop :=
  s.orderEntries ≤ 4 ∧ s.gwu.orders.length ≤ 8 ∧ s.reportEntries ≤ 32

/-- The spent count is 0 to 4 (R59), and a contention with the bulk call leaves room for its win (R63). -/
def SpentCountBounded (s : State) : Prop :=
  s.cbi.spent ≤ 4 ∧ ((s.cbi.contending = some .updata ∨ s.cbi.contending = some .gateway) → s.cbi.spent < 4)

/-- The results log holds at most 16 records, and the record number is a byte (R166, R167). -/
def ResultsLogBounded (s : State) : Prop := s.ten.log.length ≤ 16 ∧ s.ten.recordNo < 256

/-! ## Rates, weights, power -/

/-- The shaped rate lies between 0 and the lesser of K and U last used (R105). -/
def ShapedRateBounded (s : State) : Prop :=
  s.shc.s ≤ s.shc.t ∧ s.shc.t ≤ min s.cfg.capK s.shc.bwCap

/-- The upstream credit lies between -1536 and the bucket depth (R113), and the frames that it pays for are at most
1536 bytes long. -/
def CreditBounded (s : State) : Prop :=
  (-1536 ≤ s.ups.credit ∧ s.ups.credit ≤ s.cfg.depth) ∧ (∀ h, framesFit (s.cqm.up.at h)) ∧
    ∀ fs, s.cqm.assembly = some ⟨.updata, fs⟩ → framesFit fs

/-- Every home's effective weight lies between 1 and its tier weight (R125), and the weights it is made from are 1 to
15. -/
def WeightsBounded (s : State) : Prop :=
  ∀ h, let m := s.ups.homes.at h
    (1 ≤ m.eff ∧ m.eff ≤ (s.home h).tier) ∧ (s.home h).tier ≤ 15 ∧ (∀ w, m.stepFloor = some w → 1 ≤ w) ∧
    (∀ w, m.stagedTier = some w → 1 ≤ w ∧ w ≤ 15) ∧ (∀ t, m.threshold = some t → 1 ≤ t.weight) ∧
    ∀ t ∈ m.staged, 1 ≤ t.weight

/-- The allowance is present on battery and absent on mains (R97, R106, R108). -/
def AllowanceOnBatteryOnly (s : State) : Prop := s.shc.a.isSome = true ↔ s.power ≠ .mains

/-- What the homes cost once the requests sent are taken, with P_test while a test is in CONNECTING or MEASURING
(section 10.2). -/
def State.spending (s : State) : Nat := s.lineCostLeft + if s.testHolding then s.cfg.pTest else 0

/-- On battery the spending stays within the allowance (section 10.2), with what keeps it so: the power costs are
ordered (R186), a home is sent one request by a fitting (R173), no test holds the bus in BATTERY_LOW (R164, R174), and a
test that waits or claims has its power (R150). A WAKE stands only for a home in SLEEP (log 59). -/
def SpendingWithinAllowance (s : State) : Prop :=
  WakeQueueSleeps s ∧ (∀ h, (.wake, h) ∈ s.bhu.requests → s.service h = .sleep) ∧
  (s.cfg.pSleep ≤ s.cfg.pLow ∧ s.cfg.pLow ≤ s.cfg.pFull) ∧
  (s.power ≠ .mains →
    (∃ a, s.shc.a = some a ∧ s.spending ≤ a) ∧
    ((s.bhu.requests.filter fun r => r.1 != .abandon).map Prod.snd).Nodup ∧
    (s.power = .batteryLow → s.testHolding = false) ∧
    ((s.ten.state = .waiting ∨ s.ten.state = .claiming) → s.power = .battery ∧ s.examPowerShort = false))

/-- A FULL, LOW or WAKE command at the front is one that the unit has sent (R7, R173): the requests that raise a home's
spending come from it alone. -/
def RaisesAreSent (s : State) : Prop :=
  ∀ h c, s.pending.head? = some c →
    (c = .modeRequestFull h → (.full, h) ∈ s.bhu.requests) ∧
    (c = .modeRequestLow h → (.low, h) ∈ s.bhu.requests) ∧
    (c = .modeRequestWake h → (.wake, h) ∈ s.bhu.requests)

/-- No wake withdrawal waits for a home that a QUIET has overtaken in an up state: there R173 has it change nothing
(log 61). -/
def NoWithdrawalOvertakenByQuiet (s : State) : Prop := ∀ h, s.service h = .quiet → (.withdraw, h) ∉ s.bhu.requests

/-- A relay is closed only for the home of a test in CONNECTING or MEASURING, while STORM is not asserted (R22). -/
def RelayOnlyUnderTest (s : State) : Prop :=
  ∀ h, s.lpb.relay = some h →
    s.testHolding = true ∧ s.storm = false ∧ s.service h = .testHeld ∧ s.ten.currentHome = some h

/-- A home in TEST_HELD is the home of the test in CONNECTING, MEASURING or RELEASING (R150); an admin release has
taken it out of TEST_HELD (R12, R13). -/
def HeldHomeIsUnderTest (s : State) : Prop :=
  (∀ h, s.service h = .testHeld →
    (s.testHolding = true ∨ s.ten.state = .releasing) ∧ s.ten.currentHome = some h) ∧
  ∀ c, s.ten.current = some c → c.outcome = some .abortedAdmin → s.service c.home ≠ .testHeld

/-- The fields of a home record fit its service state: a return mode in QUIET only (R1), resume pending in an up state
only (R1, R7, R9, R11, R13), no rates in UNEQUIPPED, ADMIN_DOWN and TEST_HELD (R2); at most four learned addresses,
distinct and none with its group bit set (R18), and at most three drop times (R21). -/
def HomeFieldsFitState (s : State) : Prop :=
  ∀ h, let m := s.home h
    (m.ret.isSome = true ↔ m.service = .quiet) ∧ (m.resume = true → m.service.isUp = true) ∧
    (ignoresRates m.service = true → m.rateUp = 0 ∧ m.rateDown = 0) ∧
    (m.learned.length ≤ 4 ∧ m.learned.Nodup ∧ ∀ a ∈ m.learned, groupBit a = false) ∧ m.flaps.length ≤ 3

/-! ## The start of the station -/

/-- Every block right after a start from pins, with what the start keeps: the power-on and the soft-restart columns of
every chapter (R1, R24, R26, R44, R59, R83, R84, R97, R108, R111, R129, R147, R148, R168, R181, R186). On battery the
fitting of the start finds no home that it pays for, so the fallback allowance stays whole. -/
def StartsEveryBlock (pins : Pins) (k : Kept) (t : State) : Prop :=
  let cfg := loadCfg pins.mem
  let home (h : HomeId) : HomeCfg := (loadHomes pins.mem).at h
  t.pins = pins ∧ t.now = 0 ∧ t.cfg = cfg ∧
  (∀ h, t.home h =
    { equipped := (home h).equipped, tier := (home h).tier, group := (home h).group, prio := (home h).prio
      service := if (home h).equipped then (if k.adminDown.at h then .adminDown else .down) else .unequipped
      ret := none, resume := false, link := .down, rateUp := 0, rateDown := 0, learned := [], flaps := []
      ctr := k.homes.at h }) ∧
  (t.lpb.giving = Tab.all none ∧ t.lpb.stormEnd = none ∧ t.lpb.excuseEnd = none ∧ t.lpb.relay = none) ∧
  t.ffu = { filters := loadFilters pins.mem, wake := Tab.all none, pendingWakes := [] } ∧
  t.cqm = { free := 2048, pause := false, up := Tab.all [], down := Tab.all [], uplink := [], stn := Tab.all []
            flood := [], dropUplink := k.dropUplink, dropStn := k.dropStn, dropFlood := k.dropFlood, assembly := none
            held := [], lostRounds := 0, flush := false } ∧
  t.cbi = { phase := .unknown, part := .none, bsy := k.bsy, bsyDrive := false, idDrive := false, urgDrive := false
            claim := none, quiet := none, notice := none, contending := none, lateOrder := none, lateReport := none
            call := none, rx := none, reservedOver := none, spent := 0, freeSince := none, watch := none, windowStart := 0, orders := []
            heard := [], selfWanted := false, selfSince := none, ctr := k.bus } ∧
  t.pvw = { roundStart := 0, peers := [], role := .line, active := none, foundOnce := false, dup := false
            dupQuiet := 4, dupHold := 0, stuckCount := 0, stuck := false, sent := 0, traffic := Tab.all false
            latched := none } ∧
  t.shc = { s := 0, t := 0, bwCap := 0, bwShare := none, bwParts := 0, bwPasses := 0
            a := if pins.mainsOk then none else some cfg.fallback
            pwCap := if pins.mainsOk then 0 else cfg.fallback, pwShare := none, pwParts := 0, pwPasses := 0 } ∧
  (t.ups.credit = 0 ∧ t.ups.creditStart = 0 ∧ t.ups.raised = false ∧ t.ups.target = 0 ∧ t.ups.expLast = 7 ∧
    t.ups.drrPos = 7 ∧ t.ups.visitOpen = false ∧ t.ups.move = .idle ∧
    ∀ h, t.ups.homes.at h = { expCount := 0, deficit := 0, eff := (home h).tier, stepFloor := none, stagedTier := none
                              volume := 0, threshold := none, staged := [] }) ∧
  t.gwu = { uplinkUp := k.uplinkUp, bucket := 0, giving := none, table := [], tickStart := 0, position := 8
            orders := [], reports := [], operAddr := cfg.operAddr, bulkReq := false, orderReq := false
            ctr := k.gateway } ∧
  t.ten = { state := .idle, queue := [], current := none, withdrawal := none, tbusyDrive := false
            headDriving := false, quietEnds := Tab.all none, holdSince := none, recordNo := k.recordNo, log := k.log
            lost := k.lost } ∧
  (t.bhu.wakeQ = [] ∧ t.bhu.wakeSince = Tab.all none ∧ t.bhu.lastTraffic = Tab.all none ∧
    (∀ h, t.bhu.outcome.at h = none) ∧ t.bhu.reserve = false ∧ t.bhu.requests = [] ∧
    t.bhu.remaining = if pins.mainsOk then 0 else cfg.fallback) ∧
  t.orh = { executing := none, queue := if pins.mem = none then [⟨0, .event .configDefaulted⟩] else [], restart := none
            lostEvents := k.lostEvents, stn := pins.stn, fitted := pins.fitted, defaulted := decide (pins.mem = none)
            reportReq := false, reportTarget := 0 }

/-- The restart strobes of a start: one to every equipped home that is not ADMIN_DOWN (R3). -/
def startStrobesOf (pins : Pins) (k : Kept) : List Pulse :=
  (homeIds.filter fun h => ((loadHomes pins.mem).at h).equipped && !k.adminDown.at h).map Pulse.restartStrobe

/-- A property of states kept by every step: the front command's, or the tick's on an empty queue. -/
def KeptByEveryStep (P : State → Prop) : Prop := ∀ s t, P s → step s = .next t → P t

end Sys2Proof.Machine
end

