-- ==== Sys2Proof/WellFormed.lean ====
section
/-! DEFINITION. Which commands can reach the part: the ranges the manual gives for what arrives with an event. -/

namespace Sys2Proof

/-- A frame a transceiver delivers: 1 to 2047 bytes (R2). That the uplink PHY delivers frames of the same lengths is the
model's choice (log 67). -/
def frameArrivalOk (bytes : List Byte) : Bool := decide (1 ≤ bytes.length) && decide (bytes.length ≤ 2047)

/-- The values section 4.10 gives for the fields of a NOTICE; the two-bit fields have no other values. -/
def Notice.wf (n : Notice) : Bool :=
  decide (n.powerWeight ≤ 128) && decide (n.weight ≤ 120) && decide (n.demand < 65536) &&
    decide (n.powerDemand < 65536) && decide (n.u < 65536) && decide (n.b < 65536)

/-- The ranges of what arrives with a command. -/
def Instr.wf : Instr → Bool
  | .upstreamFrame _ bytes => frameArrivalOk bytes
  | .uplinkFrameReceived bytes _ => frameArrivalOk bytes
  | .noticeHeard _ n => n.wf
  | .quietHeard _ ms => decide (1 ≤ ms.toNat)
  | .selfCheckEnd readBack => decide (readBack.length = 64)
  | _ => true

end Sys2Proof
end

