-- ==== Sys2Proof/Certificates/Slice0/Obligations.lean ====
section
/-! DEFINITION. The statements for the provers. Where a command ends with `State.settle`, what that end may write is
stated by `EndOfCommandWritesOnlyExaminationAndRequests` and `HeadEntryExamined`, so an equation
`exec c s = .next (State.settle s u)` gives the command's effect and its frame whole. -/

section
open Sys2Proof Sys2Proof.Machine

/-! ## The step, the queue, the end of a command -/

/-- A step takes the command at the front of the queue and runs it on the queue's rest. -/
def Obligations.StepRunsFrontCommand : Prop :=
  ∀ (c : Instr) (rest : List Instr) (s : State), step { s with pending := c :: rest } = exec c { s with pending := rest }

/-- No command stops the part, and none touches the queue of waiting commands. On an empty queue the clock advances by
one microsecond, and a part in UNKNOWN that sees CB_BSY negated goes to FREE and starts its free time (log 3, log 37;
R59). -/
def Obligations.EveryStepAnswersAndTicksWhenIdle : Prop :=
  (∀ (c : Instr) (s : State), ∃ t, exec c s = .next t ∧ t.pending = s.pending) ∧
  (∀ s : State, s.pending = [] →
    step s = .next { s with
      out := []
      now := s.now + 1
      cbi := if s.cbi.phase = .unknown ∧ s.cbi.bsy = false
        then { s.cbi with phase := .free, freeSince := some (s.now + 1) } else s.cbi })

/-- The end of a command writes the test state short of a holding one, the CLAIM with its withdrawal, and the standing
requests, and nothing else. The standing requests then stand exactly while their conditions hold: UPDATA on a station that
is not the active gateway and has one, with credit above 0 and a frame waiting (R114); moves on the active gateway (R121);
the Gateway Unit's bulk call for a frame to flood or for another station (R137); ORDER for an order to another station
(R140); REPORT for a report to an active gateway that is another station (R185). UPDATA records its target when it is
raised, REPORT while it stands. -/
def Obligations.EndOfCommandWritesOnlyExaminationAndRequests : Prop :=
  ∀ s0 s : State,
    let t := State.settle s0 s
    let works : Prop := s.pvw.role = .active
    let waiting : Prop := 0 < s.ups.credit ∧ ∃ h, s.cqm.up.at h ≠ []
    t.rest = s.rest ∧ StandingRequestsHold t ∧
    (t.ups.raised = true ↔ ¬works ∧ s.pvw.active ≠ none ∧ waiting) ∧
    (∀ g, s.pvw.active = some g → t.ups.target = if t.ups.raised = true ∧ s.ups.raised = false then g else s.ups.target) ∧
    (s.pvw.active = none → t.ups.target = s.ups.target) ∧
    (¬(works ∧ waiting) → t.ups.move = .idle) ∧
    (works → waiting → t.ups.move = if s.ups.move = .blocked then .blocked else .running) ∧
    (t.gwu.bulkReq = true ↔ works ∧ (s.cqm.flood ≠ [] ∨ ∃ i, i ≠ s.orh.stn ∧ s.cqm.stn.at i ≠ [])) ∧
    (t.gwu.orderReq = true ↔ works ∧ ∃ m ∈ s.gwu.orders, m.target ≠ s.orh.stn) ∧
    (t.orh.reportReq = true ↔ (∃ g, s.pvw.active = some g ∧ g ≠ s.orh.stn) ∧ s.orh.queue ≠ []) ∧
    (∀ g, s.pvw.active = some g → t.orh.reportTarget = if t.orh.reportReq = true then g else s.orh.reportTarget) ∧
    (s.pvw.active = none → t.orh.reportTarget = s.orh.reportTarget)

/-- The table of R150 with the CLAIM of R151: when the test state is IDLE, or an input of the table has changed, the
head entry is examined: DEFERRED, WAITING, or CLAIMING with a CLAIM requested, one that is already pending or in its call
standing as it is; with a withdrawal outstanding CLAIMING waits. Leaving CLAIMING withdraws the CLAIM (R151); from another
state CLAIM and withdrawal stand as they are. The line cost is the one that the requests sent leave (R171, log 7).
In a test state that holds the test bus, or with no input of the table changed, no examination is made (log 44). -/
def Obligations.HeadEntryExaminedOnChange : Prop :=
  (∀ s0 s : State, s.ten.state = .idle ∨ s0.examInputs ≠ s.examInputs →
    s.ten.state ≠ .connecting → s.ten.state ≠ .measuring → s.ten.state ≠ .releasing →
    let left := if s.ten.state = .claiming then s.withdrawClaim none else s
    let steps (st : TestState) : Prop :=
      (State.settle s0 s).ten = { left.ten with state := st } ∧ (State.settle s0 s).cbi = left.cbi
    (s.ten.queue = [] → steps .idle) ∧
    ∀ e q, s.ten.queue = e :: q →
      let deferred : Prop := s.storm = true ∨ s.pvw.stuck = true ∨ s.power = .batteryLow ∨
        (s.power = .battery ∧ s.shc.a.getD 0 < s.lineCostLeft + s.cfg.pTest) ∨ s.service e.home = .adminDown
      (deferred → steps .deferred) ∧ (¬deferred → s.tbusy = true → steps .waiting) ∧
      let claimed : Prop := s.cbi.claim ≠ none ∨ ∃ c t ws, s.cbi.call = some ⟨.claim c, t, ws⟩
      (¬deferred → s.tbusy = false → s.ten.withdrawal = none → ¬claimed →
        (State.settle s0 s).ten = { s.ten with state := .claiming } ∧
          (State.settle s0 s).cbi = { s.cbi with claim := some ⟨e.home, (s.home e.home).group, false⟩ }) ∧
      (¬deferred → s.tbusy = false → s.ten.withdrawal = none → claimed →
        (State.settle s0 s).ten = { s.ten with state := .claiming } ∧ (State.settle s0 s).cbi = s.cbi) ∧
      (¬deferred → s.tbusy = false → ∀ w, s.ten.withdrawal = some w →
        (State.settle s0 s).ten = { s.ten with withdrawal := some { w with owed := true } } ∧
          (State.settle s0 s).cbi = s.cbi)) ∧
  (∀ s0 s : State,
    (s.ten.state = .connecting ∨ s.ten.state = .measuring ∨ s.ten.state = .releasing ∨
      (s.ten.state ≠ .idle ∧ s0.examInputs = s.examInputs)) →
    (State.settle s0 s).ten = s.ten ∧ (State.settle s0 s).cbi = s.cbi)

/-! ## Start (R186 and the reset columns) -/

/-- POWER_ON and the soft restart: what each block starts with, from the straps, the configuration memory and the levels
of the lines. POWER_ON keeps nothing. The soft restart ends a current test first, with its record (R165), reads straps and
memory afresh (a free value, log 48), takes the lines as they stand, forgets the frames being given (log 42), and keeps the
counters, the results log, the lost events and the homes that are ADMIN_DOWN (R188); its pulses are those of the test's end,
then the restart strobes (log 46). -/
def Obligations.PowerOnStartsEveryBlock : Prop :=
  (∀ (p : StartPins) (s : State),
    let pins : Pins := ⟨p.stn, p.fitted, p.mem, p.mainsOk, p.battLow, p.tbusy, p.storm, s.pins.restarts⟩
    let kept : Kept :=
      { homes := Tab.all HomeCounters.zero, adminDown := Tab.all false, dropUplink := 0, dropStn := Tab.all 0
        dropFlood := 0, bus := BusCounters.zero, gateway := GatewayCounters.zero, recordNo := 0, log := [], lost := 0
        lostEvents := 0, uplinkUp := p.uplLink, bsy := p.bsy }
    ∃ t, exec (.powerOn p) s = .next t ∧ StartsEveryBlock pins kept t ∧ t.pending = s.pending ∧ t.working = false ∧
      (∀ h, t.idleSeconds h = 30) ∧ t.out = startStrobesOf pins kept) ∧
  (∀ s : State,
    let e := s.restartTest
    let board := Config.restartBoard e.pins.restarts
    let pins : Pins := ⟨board.1, board.2.1, board.2.2, e.pins.mainsOk, e.pins.battLow, e.pins.tbusyOthers,
      e.pins.stormOthers, e.pins.restarts + 1⟩
    let kept : Kept :=
      { homes := Tab.make fun h => (e.home h).ctr, adminDown := Tab.make fun h => decide (e.service h = .adminDown)
        dropUplink := e.cqm.dropUplink, dropStn := e.cqm.dropStn, dropFlood := e.cqm.dropFlood, bus := e.cbi.ctr
        gateway := e.gwu.ctr, recordNo := e.ten.recordNo, log := e.ten.log, lost := e.ten.lost
        lostEvents := e.orh.lostEvents, uplinkUp := e.gwu.uplinkUp, bsy := e.cbi.bsy }
    StartsEveryBlock pins kept s.softRestart ∧ s.softRestart.pending = s.pending ∧
      s.softRestart.out = e.out ++ startStrobesOf pins kept) ∧
  ∀ s : State,
    (s.ten.current = none → s.restartTest = s) ∧
    ∀ c, s.ten.current = some c →
      let holds : Prop := s.ten.state = .connecting ∨ s.ten.state = .measuring
      (holds → s.restartTest = (s.enterReleasing (some .abortedRestart) none).writeRecord c.home c.firstOrigin
        .abortedRestart c.split c.meas) ∧
      (¬holds → ∀ o, c.outcome = some o → s.restartTest = s.writeRecord c.home c.firstOrigin o c.split c.meas) ∧
      (¬holds → c.outcome = none → ∀ k, c.cause = some k → s.restartTest =
        if c.meas = [] then s
        else s.writeRecord c.home c.firstOrigin (if k = .storm then .abortedStorm else .abortedCancel) true c.meas)

/-- The state after reset is the one POWER_ON gives with the pins of log 1: straps 0, an unreadable configuration
memory, mains present, every other line negated or released. The choice of the pins is the model's. -/
def Obligations.ResetIsPowerOnWithChosenPins : Prop :=
  exec (.powerOn ⟨0, false, none, true, false, false, false, false, false⟩) State.reset = .next State.reset

/-- Every loaded field lies in its range, a filter's minimum length among them (R44), and the power costs are ordered
(R186). -/
def Obligations.LoadedConfigurationInRange : Prop :=
  ∀ mem : Option CfgImage,
    let c := loadCfg mem
    (∀ h, 16 ≤ c.upLimits.at h ∧ c.upLimits.at h ≤ 255 ∧ 16 ≤ c.downLimits.at h ∧ c.downLimits.at h ≤ 255) ∧
    (128 ≤ c.uplinkLimit ∧ c.uplinkLimit ≤ 1536) ∧ (1 ≤ c.stormHold ∧ c.stormHold ≤ 60) ∧
    (30 ≤ c.cable ∧ c.cable ≤ 80) ∧ (1 ≤ c.pSleep ∧ c.pSleep ≤ c.pLow ∧ c.pLow ≤ c.pFull ∧ c.pFull ≤ 255) ∧
    (1 ≤ c.pTest ∧ c.pTest ≤ 255) ∧ (16 ≤ c.capK ∧ c.capK ≤ 65535) ∧ (1 ≤ c.ramp ∧ c.ramp ≤ 4096) ∧
    (1 ≤ c.fallback ∧ c.fallback ≤ 65535) ∧ (4096 ≤ c.depth ∧ c.depth ≤ 65535) ∧ (16 ≤ c.u ∧ c.u ≤ 65535) ∧
    (1 ≤ c.b ∧ c.b ≤ 65535) ∧
    (∀ h, 1 ≤ ((loadHomes mem).at h).tier ∧ ((loadHomes mem).at h).tier ≤ 15) ∧
    (∀ i, ((loadFilters mem).at i).minLen ≤ 1536) ∧
    (mem = none → c = Config.defaults ∧ (∀ h, ((loadHomes mem).at h).equipped = false) ∧
      ∀ i, (loadFilters mem).at i = Config.defaultFilter)

/-! ## Shared effects of chapter 1 -/

/-- Entries to service states. A change of state makes the wake record absent as a new sleep period begins (R53), runs the
wake timer in WAKING only (R177), starts the idle timer as an up state is entered from TRAINING or WAKING (R178), and
keeps only homes in SLEEP in the wake queue (R176), and only such homes with a WAKE that waits (log 59). Entering DOWN frees the downstream queue as LINE_DOWN drops and
keeps the upstream one (R6). A hold and a disable tear the home down (R11, R13, R14, R118). A failed wake is counted and
its event offered (R8, R177). Nothing else changes. -/
def Obligations.HomeStateEntriesWriteTheirFields : Prop :=
  (∀ (st : Service) (h : HomeId) (s : State),
    s.moveTo st h = { s with
      lpb := { s.lpb with homes := s.lpb.homes.put h { s.home h with service := st } }
      ffu := { s.ffu with
        wake := if st = .sleep ∧ s.service h ≠ .waking ∧ s.service h ≠ .sleep then s.ffu.wake.put h none
          else s.ffu.wake }
      bhu := { s.bhu with
        wakeSince := s.bhu.wakeSince.put h (if st = .waking then some s.now else none)
        lastTraffic := if (st = .upFull ∨ st = .upLow) ∧ (s.service h = .training ∨ s.service h = .waking)
          then s.bhu.lastTraffic.put h (some s.now) else s.bhu.lastTraffic
        wakeQ := if st = .sleep then s.bhu.wakeQ else s.bhu.wakeQ.erase h
        requests := if st = .sleep then s.bhu.requests else s.bhu.requests.filter fun r => r != (.wake, h) } }) ∧
  (∀ (h : HomeId) (s : State),
    let q := s.cqm.down.at h
    s.enterDown h = State.moveTo .down h { s with
      lpb := { s.lpb with
        homes := s.lpb.homes.put h { s.home h with
          rateUp := 0, rateDown := 0, learned := [], resume := false, ret := none
          ctr := countDownDrop .lineDown q.length (s.home h).ctr } }
      cqm := { s.cqm.setFree (s.cqm.free + cellCount q) with down := s.cqm.down.put h [] } }) ∧
  (∀ (h : HomeId) (s : State),
    let up := s.cqm.up.at h
    let down := s.cqm.down.at h
    let torn (m : Home) (ru : UpDrop) (rd : DownDrop) : State :=
      { s with
        lpb := { s.lpb with
          homes := s.lpb.homes.put h { m with
            ret := none, resume := false, rateUp := 0, rateDown := 0, learned := []
            ctr := countDownDrop rd down.length (countUpDrop ru up.length m.ctr) } }
        cqm := { (s.cqm.setFree (s.cqm.free + cellCount up)).setFree (s.cqm.free + cellCount up + cellCount down) with
          up := s.cqm.up.put h [], down := s.cqm.down.put h [] }
        ups := { s.ups with
          homes := s.ups.homes.put h { s.ups.homes.at h with deficit := 0 }
          visitOpen := s.ups.visitOpen && s.ups.drrPos != h } }
    s.hold h = (torn (s.home h) .test .test).moveTo .testHeld h ∧
    s.enterAdminDown h = (torn { s.home h with flaps := [] } .admin .admin).moveTo .adminDown h) ∧
  (∀ (cause : WakeFailCause) (h : HomeId) (s : State),
    s.wakeFailed cause h = State.offer (.wakeFail h cause) (State.moveTo .sleep h { s with
      lpb := { s.lpb with
        homes := s.lpb.homes.put h { s.home h with
          resume := false, ret := none
          ctr := { (s.home h).ctr with wakeFailures := sat32 (s.home h).ctr.wakeFailures 1 } } } }))

/-- A home entering TRAINING on battery is judged on the spare power (R175); on mains it trains. The costs of the other
homes are those that the requests sent leave (log 7). -/
def Obligations.TrainingAdmittedOnSparePower : Prop :=
  ∀ (h : HomeId) (s : State),
    let others := ((homeIds.filter fun x => x != h).map s.costLeft).sum
    let test := if s.ten.state = .claiming ∨ s.ten.state = .connecting ∨ s.ten.state = .measuring ∨
        (s.bhu.reserve = true ∧ (s.ten.state = .deferred ∨ s.ten.state = .waiting)) then s.cfg.pTest else 0
    let a := s.shc.a.getD 0
    let asleep := (s.moveTo .training h).toSleep h
    (s.power = .mains → s.enterTraining h = s.moveTo .training h) ∧
    (s.power = .battery → others + test + s.cfg.pFull ≤ a → s.enterTraining h = s.moveTo .training h) ∧
    (s.power ≠ .mains → ¬(s.power = .battery ∧ others + test + s.cfg.pFull ≤ a) → others + test + s.cfg.pSleep ≤ a →
      s.enterTraining h = asleep) ∧
    (s.power ≠ .mains → ¬(s.power = .battery ∧ others + test + s.cfg.pFull ≤ a) → a < others + test + s.cfg.pSleep →
      s.enterTraining h = asleep.powerRound)

/-! ## Link reports, rates, wake failures, activity -/

/-- LINK_STATE_REPORT (R2, R5, R6, R8, R10): the report is recorded, and in every service state moves the home as the
rules say.
A link loss (R6, R20, R21): expected while STORM is asserted or the excuse window runs; otherwise it is counted,
its second joins the flap list, and three within 900 seconds send the Test Engine a FLAP request and empty the list. -/
def Obligations.LinkReportsAndLossesMoveHome : Prop :=
  (∀ (h : HomeId) (st : LinkState) (s : State),
    let seen : State := { s with out := [], lpb := { s.lpb with homes := s.lpb.homes.put h { s.home h with link := st } } }
    let ends (u : State) : Prop := exec (.linkStateReport h st) s = .next (State.settle s u)
    let m := s.home h
    (m.service = .down → st = .training → ends (seen.enterTraining h)) ∧
    (m.service = .down → st = .up → (seen.enterTraining h).service h = .training →
      ends ((seen.enterTraining h).moveTo .upFull h)) ∧
    (m.service = .down → st = .up → (seen.enterTraining h).service h ≠ .training → ends (seen.enterTraining h)) ∧
    (m.service = .down → (st = .down ∨ st = .dormant) → ends seen) ∧
    (m.service = .training → st = .up → ends (seen.moveTo .upFull h)) ∧
    (m.service = .training → (st = .down ∨ st = .dormant) → ends (seen.enterDown h)) ∧
    (m.service = .training → st = .training → ends seen) ∧
    (m.service = .waking → st = .up → ends (seen.moveTo .upFull h)) ∧
    (m.service = .waking → st = .down → ends (seen.wakeFailed .down h)) ∧
    (m.service = .waking → (st = .training ∨ st = .dormant) → ends seen) ∧
    (m.service.isUp = true → st = .up →
      ends { seen with lpb := { seen.lpb with homes := seen.lpb.homes.put h { m with link := st, resume := false } } }) ∧
    (m.service.isUp = true → m.resume = true → st = .down → ends (seen.enterDown h)) ∧
    (m.service.isUp = true → m.resume = true → st = .dormant → ends seen) ∧
    (m.service.isUp = true → m.resume = false → (st = .down ∨ st = .dormant) → ends (seen.linkLoss h)) ∧
    (m.service.isUp = true → st = .training → ends seen) ∧
    ((m.service = .unequipped ∨ m.service = .adminDown ∨ m.service = .sleep ∨ m.service = .quiet ∨
      m.service = .testHeld) → ends seen)) ∧
  (∀ (h : HomeId) (s : State),
    let d := s.enterDown h
    let now := s.now / 1000000
    let old := (s.home h).flaps
    let l := (if 3 ≤ old.length then old.tail else old) ++ [now]
    let counted (fl : List Nat) : State := { d with
      lpb := { d.lpb with
        homes := d.lpb.homes.put h { d.home h with
          flaps := fl, ctr := { (d.home h).ctr with flaps := sat32 (d.home h).ctr.flaps 1 } } } }
    let fires : Prop := l.length = 3 ∧ now - l.headD 0 ≤ 900 ∧ s.cfg.autoTests = true
    ((s.storm = true ∨ s.lpb.excuseEnd.isSome = true) → s.linkLoss h = d) ∧
    (s.storm = false → s.lpb.excuseEnd = none → ¬fires → s.linkLoss h = counted l) ∧
    (s.storm = false → s.lpb.excuseEnd = none → fires →
      s.linkLoss h = { counted [] with
        ten := (d.ten.request h ⟨true, true, true⟩ false .flap).getD d.ten }))

/-- RATE_REPORT (R2), WAKE_FAILURE and WAKE_ABANDON_REQUEST (R2, R8, R10, R177), ACTIVITY (R176, R179) in every service
state.
MODE_REQUEST_FULL, LOW, SLEEP and WAKE in every service state (R7); the request leaves the requests sent (log 6).
WAKE_WITHDRAW_REQUEST (R8, R173): WAKING, or an UP_FULL whose link came up first, goes to SLEEP with no failure
counted. On battery, or while its group is quiet, it goes to the head of the wake queue, behind the homes that the same
fitting has withdrawn before (log 24; log 65 when a QUIET comes between); on mains it is sent WAKE again at once (R179). Any
other home is left as it is. -/
def Obligations.HomeSignalsAndModeRequestsByState : Prop :=
  ((∀ (h : HomeId) (up down : Word) (s : State),
    let st := s.service h
    ((st = .unequipped ∨ st = .adminDown ∨ st = .testHeld) →
      exec (.rateReport h up down) s = .next { s with out := [] }) ∧
    (st ≠ .unequipped → st ≠ .adminDown → st ≠ .testHeld →
      exec (.rateReport h up down) s = .next { s with
        out := []
        lpb := { s.lpb with
          homes := s.lpb.homes.put h { s.home h with rateUp := up.toNat, rateDown := down.toNat } } })) ∧
  (∀ (h : HomeId) (s : State),
    let f : State := { s with out := [] }
    let taken : State := { f with bhu := { s.bhu with requests := s.bhu.requests.erase (.abandon, h) } }
    (s.service h = .waking →
      exec (.wakeFailure h) s = .next (State.settle s (f.wakeFailed .failure h)) ∧
      exec (.wakeAbandonRequest h) s = .next (State.settle s (taken.wakeFailed .timeLimit h))) ∧
    (s.service h ≠ .waking → (s.home h).resume = true →
      exec (.wakeFailure h) s = .next (State.settle s (f.enterDown h))) ∧
    (s.service h ≠ .waking → (s.home h).resume = false → exec (.wakeFailure h) s = .next (State.settle s f)) ∧
    (s.service h ≠ .waking → exec (.wakeAbandonRequest h) s = .next (State.settle s taken))) ∧
  (∀ (h : HomeId) (s : State),
    let quiet := (s.ten.quietEnds.at (s.home h).group).isSome = true
    (s.service h = .sleep → h ∉ s.bhu.wakeQ → s.power = .mains → ¬quiet →
      exec (.activity h) s = .next (State.settle s { s with
        out := [], bhu := { s.bhu with requests := s.bhu.requests ++ [(.wake, h)] } })) ∧
    (s.service h = .sleep → h ∉ s.bhu.wakeQ → (s.power ≠ .mains ∨ quiet) →
      exec (.activity h) s = .next (State.settle s { s with
        out := [], bhu := { s.bhu with wakeQ := s.bhu.wakeQ ++ [h] } })) ∧
    ((s.service h ≠ .sleep ∨ h ∈ s.bhu.wakeQ) →
      exec (.activity h) s = .next (State.settle s { s with out := [] })))) ∧
  (∀ (h : HomeId) (s : State),
    let m := s.home h
    let f (r : ModeRequest) : State :=
      { s with out := [], bhu := { s.bhu with requests := s.bhu.requests.erase (r, h) } }
    let put (m : Home) (u : State) : State := { u with lpb := { u.lpb with homes := u.lpb.homes.put h m } }
    (exec (.modeRequestFull h) s = .next (State.settle s (
      if m.service = .upLow then (f .full).moveTo .upFull h
      else if m.service = .quiet then put { m with ret := some .full } (f .full) else f .full))) ∧
    (exec (.modeRequestLow h) s = .next (State.settle s (
      if m.service = .upFull then (f .low).moveTo .upLow h
      else if m.service = .quiet then put { m with ret := some .low } (f .low) else f .low))) ∧
    (exec (.modeRequestSleep h) s = .next (State.settle s (
      if m.service = .upFull ∨ m.service = .upLow ∨ m.service = .training then
        (put { m with resume := false, ret := none } (f .sleep)).moveTo .sleep h
      else if m.service = .quiet then put { m with ret := some .sleep } (f .sleep) else f .sleep))) ∧
    exec (.modeRequestWake h) s = .next (State.settle s (
      if m.service = .sleep then
        (put { m with ctr := { m.ctr with wakes := sat32 m.ctr.wakes 1 } } (f .wake)).moveTo .waking h
      else f .wake))) ∧
  (∀ (h : HomeId) (s : State),
    let f : State := { s with out := [], bhu := { s.bhu with requests := s.bhu.requests.erase (.withdraw, h) } }
    let slept : State := State.moveTo .sleep h { f with
      lpb := { s.lpb with homes := s.lpb.homes.put h { s.home h with resume := false, ret := none } } }
    let q := s.bhu.wakeQ.erase h
    exec (.wakeWithdrawRequest h) s = .next (State.settle s (
      if s.service h = .waking ∨ s.service h = .upFull then
        if s.power = .mains ∧ s.ten.quietEnds.at (s.home h).group = none then
          { slept with bhu := { slept.bhu with requests := s.bhu.requests.erase (.withdraw, h) ++ [(.wake, h)] } }
        else
          { slept with
            bhu := { slept.bhu with
              wakeQ := q.takeWhile (· ∈ s.bhu.batch) ++ h :: q.dropWhile (· ∈ s.bhu.batch)
              batch := s.bhu.batch ++ [h] } }
      else f)))

/-! ## Cells, counters, frames -/

/-- Cells leave and return to the free list together; the pause and the critical event follow each change of the free
count (R24, R32, R33). The report queue takes an event while it holds fewer than 12 events and has an entry left; else the event is
counted as lost (R184).
A length added to a home's volume counter (R123), and the thresholds compared (R125): while the volume has reached
the active threshold, the effective weight falls to the lesser of its own value and the threshold's weight, an event
is offered, and the oldest staged threshold becomes active; nothing else changes. -/
def Obligations.CellsEventsAndVolumesCounted : Prop :=
  ((∀ (n : Nat) (s : State),
    let pauseAt (free : Nat) : Bool := if free < 256 then true else if 384 ≤ free then false else s.cqm.pause
    let left := s.cqm.free - n
    (64 ≤ s.cqm.free → left < 64 → s.alloc n = { s with
      cqm := { s.cqm with free := left, pause := pauseAt left }, orh := s.orh.offer (.cellCritical left) }) ∧
    ((s.cqm.free < 64 ∨ 64 ≤ left) → s.alloc n = { s with cqm := { s.cqm with free := left, pause := pauseAt left } }) ∧
    s.release n = { s with cqm := { s.cqm with free := s.cqm.free + n, pause := pauseAt (s.cqm.free + n) } }) ∧
  (∀ (e : Event) (o : Orh),
    let entries := o.queue.length + (if o.executing.isSome then 1 else 0)
    let events := (o.queue.filter fun r => r.body.isEvent).length
    o.offer e = if events < 12 ∧ entries < 16 then { o with queue := o.queue ++ [⟨0, .event e⟩] }
      else { o with lostEvents := min (o.lostEvents + 1) (2 ^ 32 - 1) })) ∧
  (∀ (h : HomeId) (len : Nat) (s : State),
    let m := s.ups.homes.at h
    let r := compareThresholds h { m with volume := min (m.volume + len) (2 ^ 48 - 1) }
    s.addVolume h len = { s with
      ups := { s.ups with homes := s.ups.homes.put h r.1 }
      orh := r.2.foldl (fun o e => o.offer e) s.orh }) ∧
  ∀ (h : HomeId) (m : UpsHome),
    (m.threshold = none → compareThresholds h m = (m, [])) ∧
    ∀ t, m.threshold = some t →
      (m.volume < t.bytes → compareThresholds h m = (m, [])) ∧
      (t.bytes ≤ m.volume →
        let eff := min t.weight m.eff
        let next : UpsHome := { m with
          eff := eff, stepFloor := some (min t.weight (m.stepFloor.getD t.weight)), threshold := m.staged.head?
          staged := m.staged.tail }
        compareThresholds h m =
          ((compareThresholds h next).1, .volumeStep h t.bytes t.weight eff m.volume :: (compareThresholds h next).2))

/-- UPSTREAM_FRAME (R4, R14, R15, R27): in every service state the frame is discarded, dropped under its reason, or
placed at the tail of the home's upstream queue with its class, learned, counted and reported as traffic. -/
def Obligations.UpstreamFramePassesChecks : Prop :=
  ∀ (h : HomeId) (bytes : List Byte) (s : State),
    let n := bytes.length
    let cells := (n + 127) / 128
    let count (g : HomeCounters → HomeCounters) (u : State) : State :=
      { u with lpb := { u.lpb with homes := u.lpb.homes.put h { u.home h with ctr := g (u.home h).ctr } } }
    let f : State := { s with out := [] }
    let heard : State := { f with bhu := { s.bhu with lastTraffic := s.bhu.lastTraffic.put h (some s.now) } }
    let learned : State := { heard with lpb := { s.lpb with
      homes := s.lpb.homes.put h { s.home h with learned := learnAddress (sourceOf bytes) (s.home h).learned } } }
    let placed (cls : FrameClass) : State :=
      let a := learned.alloc cells
      let j : State := { a with
        cqm := { a.cqm with up := s.cqm.up.put h (s.cqm.up.at h ++ [⟨some h, cls, false, n, bytes⟩]) }
        pvw := { s.pvw with traffic := s.pvw.traffic.put h true } }
      State.addVolume h n (count (fun c => { c with upFrames := sat32 c.upFrames 1, upBytes := sat48 c.upBytes n }) j)
    exec (.upstreamFrame h bytes) s = .next (State.settle s (
      if s.service h = .unequipped then f
      else if s.service h = .testHeld then count (fun c => { c with upTest := sat32 c.upTest 1 }) f
      else if s.service h = .adminDown then count (fun c => { c with upAdmin := sat32 c.upAdmin 1 }) f
      else if n < 14 ∨ 1536 < n then count (fun c => { c with upLength := sat32 c.upLength 1 }) heard
      else match upstreamClass s.ffu.filters bytes with
      | none => count (fun c => { c with upFilter := sat32 c.upFilter 1 }) heard
      | some cls =>
        if s.cqm.flush = true then count (fun c => { c with upGatewayLost := sat32 c.upGatewayLost 1 }) learned
        else if s.cqm.free < 64 then count (fun c => { c with upCritical := sat32 c.upCritical 1 }) learned
        else if s.cfg.upLimits.at h < cellCount (s.cqm.up.at h) + cells then
          count (fun c => { c with upLimit := sat32 c.upLimit 1 }) learned
        else placed cls))

/-- The match set of a test (R45), and the outcome of upstream classing: DROP prevails over EXPEDITE (R46). Positions
in `unread` came in words of bad parity (R49, log 14). The learned address list (R18): a group address is not learned, a known one stays in place, a new one joins the
newest end, the oldest of four leaving first. -/
def Obligations.FiltersClassAndAddressesAreLearned : Prop :=
  ((∀ (fs : Tab 8 Filter) (upward : Bool) (len : Nat) (bytes : List Byte) (unread : List Nat) (i : FilterId),
    i ∈ matchSet fs upward len bytes unread ↔
      (fs.at i).enabled = true ∧
      ((fs.at i).dir = .both ∨ (fs.at i).dir = (if upward then .up else .down)) ∧
      (fs.at i).minLen ≤ len ∧
      ∀ p : Fin 64, (fs.at i).mask.at p = true → p.val < len → p.val ∉ unread →
        bytes[p.val]? = some ((fs.at i).value.at p)) ∧
  ∀ (fs : Tab 8 Filter) (bytes : List Byte),
    let m := matchSet fs true bytes.length bytes []
    ((∃ i ∈ m, (fs.at i).acts.drop = true) → upstreamClass fs bytes = none) ∧
    ((∀ i ∈ m, (fs.at i).acts.drop = false) → (∃ i ∈ m, (fs.at i).acts.expedite = true) →
      upstreamClass fs bytes = some .expedited) ∧
    ((∀ i ∈ m, (fs.at i).acts.drop = false ∧ (fs.at i).acts.expedite = false) →
      upstreamClass fs bytes = some .ordinary)) ∧
  (∀ (a : Addr) (l : List Addr),
    (a.getLsbD 40 = true → learnAddress a l = l) ∧
    (a ∈ l → learnAddress a l = l) ∧
    (a.getLsbD 40 = false → a ∉ l → l.length < 4 → learnAddress a l = l ++ [a]) ∧
    (a.getLsbD 40 = false → a ∉ l → 4 ≤ l.length → learnAddress a l = l.drop 1 ++ [a]))

/-- DOWNSTREAM_GIVE_START and DOWNSTREAM_FRAME_TAKEN (R16, R31, R123): a frame is given when the home is in an up state
with resume pending clear and link state seen UP, the transceiver is ready and no frame is being given; it leaves the
queue at once, and its cells are freed when it is taken whole. -/
def Obligations.DownstreamFrameGivenAndFreed : Prop :=
  ∀ (h : HomeId) (ready : Bool) (s : State),
    let f : State := { s with out := [] }
    let m := s.home h
    let may : Prop := ready = true ∧ (m.service = .upFull ∨ m.service = .upLow) ∧ m.resume = false ∧ m.link = .up ∧
      s.lpb.giving.at h = none
    (∀ x q, s.cqm.down.at h = x :: q → may →
      exec (.downstreamGiveStart h ready) s = .next { s with
        out := [.downFrame h x.bytes]
        lpb := { s.lpb with giving := s.lpb.giving.put h (some x) }
        cqm := { s.cqm with down := s.cqm.down.put h q } }) ∧
    ((s.cqm.down.at h = [] ∨ ¬may) → exec (.downstreamGiveStart h ready) s = .next f) ∧
    (s.lpb.giving.at h = none → exec (.downstreamFrameTaken h) s = .next (State.settle s f)) ∧
    ∀ x, s.lpb.giving.at h = some x →
      let r := State.release x.cells { f with lpb := { s.lpb with giving := s.lpb.giving.put h none } }
      exec (.downstreamFrameTaken h) s = .next (State.settle s (State.addVolume h x.length { r with
        lpb := { r.lpb with homes := s.lpb.homes.put h { m with
          ctr := { m.ctr with downFrames := sat32 m.ctr.downFrames 1, downBytes := sat48 m.ctr.downBytes x.length } } }
        bhu := { s.bhu with lastTraffic := s.bhu.lastTraffic.put h (some s.now) } }))

/-- SURGE and STORM_HOLD_EXPIRY (R19, R22): a surge is counted and starts or restarts the storm hold, with STORM_BEGIN
at a start; STORM asserted anew opens the relay and suspends a holding test (R164). At the expiry STORM_END is queued,
and a line that falls with it starts the excuse window (R20).
STORM_RISE, STORM_FALL and EXCUSE_WINDOW_EXPIRY (R19, R20, R22): the wired-OR line rises for the part only if its
own hold does not drive it already, and falls only with the last drive. -/
def Obligations.SurgesDriveStormAndItsEdges : Prop :=
  (∀ (h : HomeId) (s : State),
    let f : State := { s with out := [] }
    let hold := s.cfg.stormHold * 1000000
    let m := s.home h
    let held : State := { f with
      lpb := { s.lpb with
        homes := s.lpb.homes.put h { m with ctr := { m.ctr with surges := sat32 m.ctr.surges 1 } }
        stormEnd := some (s.now + hold) }
      orh := if s.lpb.stormEnd = none then s.orh.offer (.stormBegin h) else s.orh }
    exec (.surge h) s = .next (State.settle s (
      if m.service = .unequipped then f
      else if s.storm = true then held
      else State.suspend .storm { held with lpb := { held.lpb with relay := none } })) ∧
    exec .stormHoldExpiry s = .next (State.settle s (
      if s.lpb.stormEnd = none then f
      else { f with
        lpb := { s.lpb with
          stormEnd := none
          excuseEnd := if s.pins.stormOthers = true then s.lpb.excuseEnd else some (s.now + hold) }
        orh := s.orh.offer .stormEnd }))) ∧
  (∀ s : State,
    let f : State := { s with out := [] }
    let rise : State := { f with pins := { s.pins with stormOthers := true } }
    exec .stormRise s = .next (State.settle s (
      if s.storm = true then rise
      else State.suspend .storm { rise with lpb := { s.lpb with relay := none } })) ∧
    exec .stormFall s = .next (State.settle s { f with
      pins := { s.pins with stormOthers := false }
      lpb := { s.lpb with
        excuseEnd := if s.pins.stormOthers = true ∧ s.lpb.stormEnd = none
          then some (s.now + s.cfg.stormHold * 1000000) else s.lpb.excuseEnd } }) ∧
    exec .excuseWindowExpiry s = .next { f with lpb := { s.lpb with excuseEnd := none } })

/-! ## The cabinet bus: contention -/

/-- CONTEND_START and CB_BSY_RISE (R59 to R63, R77): a station that sees the bus FREE and has a call to contend for
enters contention with the first of its pending calls in the order CLAIM, QUIET, NOTICE, ORDER, REPORT, bulk, the bulk
call only below its allowance; it asserts CB_BSY and its ID line, and CB_D8 for an urgent call. While a self-check request
waits it contends for none (R80, log 69). A rise starts the watchdog and stops the free time. A part in UNKNOWN that sees CB_BSY negated is in FREE (R59). -/
def Obligations.ContentionEnteredWithFirstPendingCall : Prop :=
  ∀ s : State,
    let seen : State := if s.cbi.phase = .unknown ∧ s.cbi.bsy = false
      then { s with out := [], cbi := { s.cbi with phase := .free, freeSince := some s.now } } else { s with out := [] }
    let choice : Option Contending :=
      if s.cbi.selfWanted = true then none
      else if s.cbi.claim ≠ none then some .claim else if s.cbi.quiet ≠ none then some .quiet
      else if s.cbi.notice ≠ none then some .notice else if s.gwu.orderReq = true then some .order
      else if s.orh.reportReq = true then some .report
      else if (if s.pvw.role = .active then 4 else 1) ≤ s.cbi.spent then none
      else if s.ups.raised = true then some .updata else if s.gwu.bulkReq = true then some .gateway else none
    let risen : State := { seen with cbi := { seen.cbi with
      phase := .contend, part := .none, bsy := true, watch := some s.now, freeSince := none, windowStart := s.now } }
    let enters (k : Contending) : State := { risen with cbi := { risen.cbi with
      part := .contender, contending := some k, bsyDrive := true, idDrive := true
      urgDrive := decide (k ≠ .updata ∧ k ≠ .gateway)
      lateOrder := if k = .order then s.gwu.orders.find? (fun m => m.target != s.orh.stn) else none
      lateReport := if k = .report then s.orh.queue.head? else none } }
    exec .contendStart s = .next (
      if seen.cbi.phase = .free ∧ s.cbi.part = .none then choice.elim seen enters else seen) ∧
    exec .cbBsyRise s = .next (
      if seen.cbi.phase = .free then choice.elim risen enters
      else { seen with cbi := { seen.cbi with bsy := true } })

/-- A contention lost, with or without a winner (R61, R62): the station stops driving; the CLAIM or QUIET contended for,
withdrawn too late, is removed now, and the Test Engine is told of its CLAIM; every other pending call stays. CONTEND_MIDPOINT: a bulk
contender that sees CB_D8 asserted has lost.
CONTEND_WINDOW_END (R60, R62): the contender with the highest ID among the asserted ID lines, its own included,
wins with its call; with another winner the part loses and waits for the call word, with none it loses and the bus
waits for the fall of CB_BSY. -/
def Obligations.ContentionDecidedByUrgencyThenId : Prop :=
  (∀ (d8 : Bool) (s : State),
    let f : State := { s with out := [] }
    let claimEnds : Prop := s.cbi.contending = some .claim ∧ ∃ c, s.cbi.claim = some c ∧ c.withdrawn = true
    let quietEnds : Prop := s.cbi.contending = some .quiet ∧ ∃ q, s.cbi.quiet = some q ∧ q.withdrawn = true
    let stopped : Cbi := { s.cbi with
      part := .none, contending := none, bsyDrive := false, idDrive := false, urgDrive := false, lateOrder := none
      lateReport := none }
    (claimEnds → s.loseContention = { s with
      cbi := { stopped with claim := none }
      ten := { s.ten with withdrawal := s.ten.withdrawal.map fun w => { w with settled := some false } } }) ∧
    (quietEnds → s.loseContention = { s with cbi := { stopped with quiet := none } }) ∧
    (¬claimEnds → ¬quietEnds → s.loseContention = { s with cbi := stopped }) ∧
    exec (.contendMidpoint d8) s = .next (State.settle s (
      if s.cbi.phase = .contend ∧ s.cbi.part = .contender ∧ s.cbi.urgDrive = false ∧ d8 = true
      then f.loseContention else f))) ∧
  (∀ (ids : Byte) (i : StationId), highestId ids = some i ↔
    ids.getLsbD i.val = true ∧ ∀ j : StationId, i < j → ids.getLsbD j.val = false) ∧
  (∀ ids : Byte, highestId ids = none ↔ ids = 0) ∧
  ∀ (ids : Byte) (s : State),
    let f : State := { s with out := [] }
    let lines : Byte := if s.cbi.idDrive = true then ids ||| BitVec.ofNat 8 (2 ^ s.orh.stn.val) else ids
    let called (u : State) : State := { u with cbi := { u.cbi with phase := .call } }
    exec (.contendWindowEnd ids) s = .next (State.settle s (
      if s.cbi.phase ≠ .contend then f
      else match highestId lines, s.cbi.part, s.cbi.contending with
      | none, .contender, _ => f.loseContention
      | none, _, _ => f
      | some i, .contender, some k => if i = s.orh.stn then f.win k else called f.loseContention
      | some _, _, _ => called f))

/-- The winner's call (R61, R62, R63, R65): its contents leave the pending calls, or are named now, its call word is
driven with odd parity, its ID and urgency lines are released, and a bulk win is charged. An order or report that has
left its queue since the contention began is carried as it was then; a win with nothing left to carry loses the
contention and no call word follows (log 19). The delivery rotation serves the first position after the last one served,
the stations 0 to 7 and then the flood queue, where a frame waits (R137). -/
def Obligations.WinnerDrivesItsCallWord : Prop :=
  ∀ s : State,
    let made (b : CallBody) (code : Nat) (mask : Nat) (target : StationId) (ws : List Word) (u : State) : State :=
      let w := wordOf ((if 3 ≤ code then 32768 else 0) + code * 4096 + s.orh.stn.val * 256 + mask)
      { u with
        out := u.out ++ [.busWord w (oddParity w)]
        cbi := { u.cbi with
          part := .caller
          phase := if code = 0 ∨ code = 1 ∨ code = 6 ∨ code = 7 then .answer else .transfer
          contending := none, call := some ⟨b, target, ws⟩, idDrive := false, urgDrive := false, lateOrder := none
          lateReport := none, windowStart := s.now } }
    let charged : State := { s with cbi := { s.cbi with spent := s.cbi.spent + 1 } }
    let toGateway (before : StationId) : StationId :=
      match s.pvw.active with | some g => if g = s.orh.stn then before else g | none => before
    let nothing : State := { s.loseContention with cbi := { s.loseContention.cbi with phase := .call } }
    let oldest : Option MgmtOrder := s.gwu.orders.find? (fun m => m.target != s.orh.stn)
    let waits (p : Nat) : Prop :=
      if p = 8 then s.cqm.flood ≠ [] else octal p ≠ s.orh.stn ∧ s.cqm.stn.at (octal p) ≠ []
    let turn (p : Nat) : Nat := (p + 8 - s.gwu.position % 9) % 9
    (∀ c, s.cbi.claim = some c →
      s.win .claim = made (.claim c) 4 255 s.orh.stn [wordOf (c.home.val * 256 + c.group.val)]
        { s with cbi := { s.cbi with claim := none } }) ∧
    (∀ q, s.cbi.quiet = some q →
      s.win .quiet = made (.quiet q) 5 255 s.orh.stn [wordOf q.group.val, wordOf q.ms]
        { s with cbi := { s.cbi with quiet := none } }) ∧
    (∀ n, s.cbi.notice = some n →
      s.win .notice = made (.notice n) 3 255 s.orh.stn (noticeWords n) { s with cbi := { s.cbi with notice := none } }) ∧
    (∀ m, (oldest = some m ∨ (oldest = none ∧ s.cbi.lateOrder = some m)) →
      s.win .order = made (.order m) 6 (2 ^ m.target.val) m.target [] s) ∧
    (∀ r, (s.orh.queue.head? = some r ∨ (s.orh.queue = [] ∧ s.cbi.lateReport = some r)) →
      s.win .report = made (.report r) 7 (2 ^ (toGateway s.orh.reportTarget).val) (toGateway s.orh.reportTarget) [] s) ∧
    (s.cbi.claim = none → s.win .claim = nothing) ∧ (s.cbi.quiet = none → s.win .quiet = nothing) ∧
    (s.cbi.notice = none → s.win .notice = nothing) ∧
    (oldest = none → s.cbi.lateOrder = none → s.win .order = nothing) ∧
    (s.orh.queue = [] → s.cbi.lateReport = none → s.win .report = nothing) ∧
    (∀ p, p < 9 → waits p → (∀ q, q < 9 → waits q → turn p ≤ turn q) → s.nextPosition = some p) ∧
    ((∀ p, p < 9 → ¬waits p) → s.nextPosition = none) ∧
    s.win .updata = made .updata 0 (2 ^ (toGateway s.ups.target).val) (toGateway s.ups.target) [] charged ∧
    (∀ p, s.nextPosition = some p → p ≠ 8 →
      s.win .gateway = made .downdata 1 (2 ^ (octal p).val) (octal p) []
        { charged with gwu := { s.gwu with position := p } }) ∧
    ((s.nextPosition = some 8 ∨ s.nextPosition = none) →
      let r := takeWithin none [] s.cqm.flood
      s.win .gateway = made .flood 2 255 s.orh.stn (burstWords r.1) { charged with
        gwu := { s.gwu with position := s.nextPosition.getD s.gwu.position }
        cqm := { s.cqm with flood := r.2, assembly := some ⟨.flood, r.1⟩ } })

/-! ## The cabinet bus: calls of others -/

/-- CALL_WORD (R60, R65, R66, R76): a word of bad parity or bad form is counted and its call ignored; an addressed call
that names the part is answered TAKE or FULL with its room in the same step (R34); any other call is followed, and a
broadcast's words are taken. -/
def Obligations.CallWordCheckedAndAnswered : Prop :=
  ∀ (w : Word) (parity : Bool) (s : State),
    let f : State := { s with out := [] }
    let code := w.toNat / 4096 % 8
    let mask := w.toNat % 256
    let kind := CallKind.ofCode code
    let addressed : Prop := code = 0 ∨ code = 1 ∨ code = 6 ∨ code = 7
    let wellFormed : Prop := (32768 ≤ w.toNat ↔ 3 ≤ code) ∧
      (addressed → ∃ i : Fin 8, mask = 2 ^ i.val) ∧ (¬addressed → mask = 255)
    let caller : StationId := octal (w.toNat / 256 % 8)
    let listens (rx : Option Reception) : State := { f with cbi := { s.cbi with
      part := .listener, phase := if addressed then .answer else .transfer, windowStart := s.now, rx := rx } }
    let counted (g : BusCounters → BusCounters) : State :=
      { listens none with cbi := { (listens none).cbi with ctr := g s.cbi.ctr } }
    let room : Nat :=
      if code = 0 then
        if s.pvw.role = .active then min (s.cfg.uplinkLimit - cellCount s.cqm.uplink) (s.cqm.free - 64) else 0
      else if code = 1 then s.cqm.free - 64
      else if code = 6 then 4 - s.cbi.orders.length
      else 32 - s.gwu.reports.length
    let takes : Prop :=
      (code ≤ 1 → 0 < room) ∧
      (code = 6 → s.cbi.orders.length < 4 ∧ s.orh.entries < 16 ∧ s.orh.restart = none) ∧
      (code = 7 → s.pvw.role = .active ∧ s.gwu.reports.length < 32)
    let answers : State :=
      let a := wordOf ((if takes then 16384 else 32768) + s.orh.stn.val * 2048 + room % 2048)
      { f with
        out := [.busWord a (oddParity a)]
        cbi := { s.cbi with
          part := .callee, phase := if takes then .transfer else .answer, windowStart := s.now
          rx := if takes then some (.start kind caller) else none } }
    exec (.callWord w parity) s = .next (State.settle s (
      if s.cbi.phase ≠ .call ∨ s.cbi.part = .caller then f
      else if parity ≠ oddParity w then counted fun c => { c with badCallWords := sat32 c.badCallWords 1 }
      else if ¬wellFormed then counted fun c => { c with malformedCalls := sat32 c.malformedCalls 1 }
      else if ¬addressed then listens (some (.start kind caller))
      else if mask = 2 ^ s.orh.stn.val then answers
      else listens none))

/-- A word of a transfer read at its place (R69, R72, R76): a word of bad parity marks the transfer bad; a count or a
length out of range, or one that came in a bad word, loses its structure; the words of orders, reports and broadcasts are
kept; words past the format's end are marked; after a lost structure nothing is kept. A frame at its header (R37, R69): an
UPDATA frame takes cells if the free count and the uplink limit allow it, a DOWNDATA frame if its home's state, its limit
and the free count do; a refused one is counted at once. A FLOOD frame's copies are named at its third data word, each
leaving 64 cells free (R39, R138). A frame's data words (R49 to R51): its bytes are kept, and at the 64th byte or the last
it is tested once, with the filters as they stood at its start (log 45), for every sleeping or waking home it is for; without a WAKE
match its held frame is freed and counted, with one the home enters the pending wake list once in a burst. An order is read
as tag, code and arguments, a report as tag, kind, code, result and data, an event's tag as 0 (R74, R143, R145, log 57).
TRANSFER_WORD_RECEIVED (R69, R70): a callee whose last word came well closes GOOD with it and places what it received; one
marked bad waits for BAD_CLOSE_TIMEOUT, which closes BAD, frees the burst and counts it. A REPORT that finds the gateway no
longer active at its good close is counted lost (log 28). The entry reserved for an order or a report that does not take
it stays reserved after the close (R66). -/
def Obligations.TransferReceivedAndClosed : Prop :=
  ((∀ (r : Reception) (w : Word) (parity : Bool) (s : State),
    let bad : Bool := r.bad || (parity != oddParity w)
    let put (x : Reception) : State := { s with cbi := { s.cbi with rx := some x } }
    let lost : Reception := { r with bad := true, lost := true }
    let kept (x : RxStage) : Reception := { r with bad := bad, stage := x, words := r.words ++ [w] }
    let counted (n limit : Nat) : State :=
      if parity ≠ oddParity w ∨ limit < n then put lost else put (kept (if n = 0 then .done else .body n))
    (r.lost = true → s.takeWord r w parity = s) ∧
    (r.lost = false →
      (r.stage = .orderTag → s.takeWord r w parity = put (kept .orderHeader)) ∧
      (r.stage = .orderHeader → s.takeWord r w parity = counted (w.toNat % 256) 40) ∧
      (r.stage = .reportTag → s.takeWord r w parity = put (kept .reportHeader)) ∧
      (r.stage = .reportHeader → s.takeWord r w parity = put (kept .reportCount)) ∧
      (r.stage = .reportCount → s.takeWord r w parity = counted w.toNat 1024) ∧
      (∀ n, r.stage = .body n →
        s.takeWord r w parity = put (kept (if n - 1 = 0 then .done else .body (n - 1)))) ∧
      (r.stage = .done → s.takeWord r w parity = put { r with bad := bad, extra := true }) ∧
      (r.stage = .burstHeader → s.takeWord r w parity =
        if parity ≠ oddParity w ∨ 8 < w.toNat % 16 then put { lost with framesLeft := w.toNat % 16 }
        else put { kept (if w.toNat % 16 = 0 then .done else .frameHeader1) with framesLeft := w.toNat % 16 }))) ∧
  (∀ (r : Reception) (w : Word) (parity : Bool) (s : State), r.lost = false → r.stage = .frameHeader1 →
    s.takeWord r w parity = { s with cbi := { s.cbi with rx := some { r with
      bad := r.bad || (parity != oddParity w)
      stage := .frameHeader2 (if parity = oddParity w then some (octal (w.toNat / 256 % 8)) else none)
        (if 32768 ≤ w.toNat then .expedited else .ordinary) } } }) ∧
  (∀ (r : Reception) (home : Option HomeId) (cls : FrameClass) (w : Word) (parity : Bool) (s : State),
    r.lost = false → r.stage = .frameHeader2 home cls →
    (parity ≠ oddParity w ∨ w.toNat % 2048 < 14 ∨ 1536 < w.toNat % 2048 ∨ 4096 < r.total + w.toNat % 2048) →
    s.takeWord r w parity = { s with cbi := { s.cbi with rx := some { r with bad := true, lost := true } } }) ∧
  (∀ (r : Reception) (home : Option HomeId) (cls : FrameClass) (w : Word) (s : State),
    r.lost = false → r.stage = .frameHeader2 home cls →
    let n := w.toNat % 2048
    (14 ≤ n → n ≤ 1536 → r.total + n ≤ 4096 →
      let x : Reception := { r with total := r.total + n, frameIdx := r.frameIdx + 1 }
      let f : ArrivingFrame :=
        { idx := r.frameIdx, home := home, cls := cls, length := n, bytes := [], badPositions := [], started := false
          matchHomes := [], filters := s.ffu.filters, matched := false }
      let opened (g : ArrivingFrame) (u : State) : State :=
        { u with cbi := { u.cbi with rx := some { x with stage := .frameData g } } }
      let asleep (h : HomeId) : Prop := s.service h = .sleep ∨ s.service h = .waking
      (r.kind = .flood → s.takeWord r w (oddParity w) = opened f s) ∧
      (r.kind = .updata → ∀ h, home = some h →
        s.takeWord r w (oddParity w) = opened { f with started := true, matched := true } (s.holdUp f)) ∧
      (r.kind = .downdata → ∀ h, home = some h → s.takeWord r w (oddParity w) =
        opened { f with started := true, matchHomes := if asleep h then [h] else [], matched := decide (¬asleep h) }
          (s.holdDown 0 f h)) ∧
      (r.kind ≠ .flood → home = none →
        s.takeWord r w (oddParity w) = opened { f with started := true, matched := true } s))) ∧
  (∀ (r : Reception) (f : ArrivingFrame) (w : Word) (parity : Bool) (s : State),
    r.lost = false → r.stage = .frameData f →
    let bytes := [BitVec.ofNat 8 (w.toNat / 256), BitVec.ofNat 8 w.toNat].take (f.length - f.bytes.length)
    let g : ArrivingFrame := { f with
      bytes := f.bytes ++ bytes
      badPositions := if parity = oddParity w then f.badPositions
        else f.badPositions ++ [f.bytes.length, f.bytes.length + 1] }
    let x : Reception := { r with bad := r.bad || (parity != oddParity w) }
    let named : State × ArrivingFrame :=
      if r.kind = .flood ∧ f.started = false ∧ 6 ≤ g.bytes.length then s.nameCopies g else (s, g)
    let tested : State × ArrivingFrame :=
      if named.2.started = true ∧ named.2.matched = false ∧ min 64 named.2.length ≤ named.2.bytes.length then
        (named.1.matchFrame r.kind named.2, { named.2 with matched := true })
      else named
    let put (y : Reception) (u : State) : State := { u with cbi := { u.cbi with rx := some y } }
    s.takeWord r w parity =
      if tested.2.length ≤ tested.2.bytes.length then
        put { x with framesLeft := r.framesLeft - 1, stage := if r.framesLeft ≤ 1 then .done else .frameHeader1 }
          (tested.1.fillHeld tested.2)
      else put { x with stage := .frameData tested.2 } tested.1) ∧
  (∀ (f : ArrivingFrame) (s : State),
    let d := addrOf (f.bytes.take 6)
    let named := homeIds.filter fun h =>
      decide (s.service h = .upFull ∨ s.service h = .upLow ∨ s.service h = .quiet ∨ s.service h = .sleep ∨
        s.service h = .waking) && (d.getLsbD 40 || decide (d ∈ (s.home h).learned))
    let asleep := named.filter fun h => decide (s.service h = .sleep ∨ s.service h = .waking)
    ((∃ p ∈ f.badPositions, p < 6) → s.nameCopies f = (s, { f with started := true, matched := true })) ∧
    ((∀ p ∈ f.badPositions, 6 ≤ p) → s.nameCopies f = (named.foldl (State.holdDown 64 f) s,
      { f with started := true, filters := s.ffu.filters, matchHomes := asleep, matched := decide (asleep = []) })) ∧
    s.fillHeld f = { s with cqm := { s.cqm with held := s.cqm.held.map fun x =>
      if x.idx = f.idx then { x with frame := { x.frame with bytes := f.bytes } } else x } }) ∧
  (∀ (fs : Tab 8 Filter) (len : Nat) (bytes : List Byte) (unread : List Nat) (i : FilterId),
    i ∈ wakeSet fs len bytes unread ↔ i ∈ matchSet fs false len bytes unread ∧ (fs.at i).acts.wake = true) ∧
  (∀ (k : CallKind) (f : ArrivingFrame) (s : State),
    let ids := wakeSet f.filters f.length f.bytes f.badPositions
    let src : WakeSource := if k = .flood then .flood else .downdata
    s.matchFrame k f = f.matchHomes.foldl (State.matchHome src f ids) s ∧
    ∀ h : HomeId,
      let mine (x : Held) : Bool := decide (x.dest = .home h ∧ x.idx = f.idx)
      let gone := s.cqm.held.filter mine
      let t := s.release (cellCount (gone.map Held.frame))
      State.matchHome src f ids s h =
        if ids = [] then
          if gone = [] then s
          else { t with
            lpb := { t.lpb with homes := s.lpb.homes.put h { s.home h with
              ctr := { (s.home h).ctr with downAsleep := sat32 (s.home h).ctr.downAsleep 1 } } }
            cqm := { t.cqm with held := s.cqm.held.filter fun x => !mine x } }
        else if ∃ p ∈ s.ffu.pendingWakes, p.home = h then s
        else { s with ffu := { s.ffu with
          pendingWakes := s.ffu.pendingWakes ++ [⟨h, ids, f.length, f.bytes.take 64, src⟩] } }) ∧
  (∀ (f : ArrivingFrame) (s : State),
    let cells := (f.length + 127) / 128
    let held := ((s.cqm.held.filter fun x => x.dest == .uplink).map fun x => x.frame.cells).sum
    let a := s.alloc cells
    s.holdUp f =
      if cells ≤ s.cqm.free ∧ cellCount s.cqm.uplink + held + cells ≤ s.cfg.uplinkLimit then
        { a with cqm := { a.cqm with
          held := s.cqm.held ++ [⟨.uplink, f.idx, ⟨f.home, f.cls, false, f.length, f.bytes⟩⟩] } }
      else { s with cqm := { s.cqm with dropUplink := sat32 s.cqm.dropUplink 1 } }) ∧
  (∀ (caller : StationId) (tag hdr count x : Word) (data : List Word),
    (Sys2Proof.orderOf [] = none ∧ Sys2Proof.orderOf [x] = none ∧
      Sys2Proof.orderOf (tag :: hdr :: data) = some ⟨tag, hdr.extractLsb' 12 4, data⟩) ∧
    (gatewayReportOf caller [] = none ∧ gatewayReportOf caller [x] = none ∧ gatewayReportOf caller [tag, x] = none ∧
      gatewayReportOf caller (tag :: hdr :: count :: data) = some
        { tag := if hdr.getLsbD 15 = true then 0 else tag, station := BitVec.ofNat 8 caller.val
          body := .peer (hdr.getLsbD 15) (hdr.extractLsb' 11 4) (hdr.extractLsb' 0 4) data })) ∧
  ∀ (reserve : Nat) (f : ArrivingFrame) (s : State) (h : HomeId),
    let cells := (f.length + 127) / 128
    let st := s.service h
    let asleep : Prop := st = .sleep ∨ st = .waking
    let held := ((s.cqm.held.filter fun x => x.dest == .home h).map fun x => x.frame.cells).sum
    let limit := if asleep then min (s.cfg.downLimits.at h) 16 else s.cfg.downLimits.at h
    let a := s.alloc cells
    let count (g : HomeCounters → HomeCounters) : State :=
      { s with lpb := { s.lpb with homes := s.lpb.homes.put h { s.home h with ctr := g (s.home h).ctr } } }
    s.holdDown reserve f h =
      if st = .down ∨ st = .training ∨ st = .unequipped then
        count fun c => { c with downLineDown := sat32 c.downLineDown 1 }
      else if st = .testHeld then count fun c => { c with downTest := sat32 c.downTest 1 }
      else if st = .adminDown then count fun c => { c with downAdmin := sat32 c.downAdmin 1 }
      else if limit < cellCount (s.cqm.down.at h) + held + cells then
        if asleep then count fun c => { c with downAsleep := sat32 c.downAsleep 1 }
        else count fun c => { c with downLimit := sat32 c.downLimit 1 }
      else if s.cqm.free < cells + reserve then count fun c => { c with downCritical := sat32 c.downCritical 1 }
      else { a with cqm := { a.cqm with
        held := s.cqm.held ++ [⟨.home h, f.idx, ⟨some h, .ordinary, false, f.length, f.bytes⟩⟩] } }) ∧
  (∀ (w : Word) (parity : Bool) (s : State),
    let f : State := { s with out := [] }
    let close (good : Bool) (u : State) : State :=
      let k := wordOf ((if good then 16384 else 32768) + u.orh.stn.val * 2048)
      { u with
        out := u.out ++ [.busWord k (oddParity k)]
        cbi := { u.cbi with
          rx := none, phase := .close, windowStart := u.now
          reservedOver := if good = true then none
            else match u.cbi.rx.map Reception.kind with
            | some .order => some .order
            | some .report => some .report
            | _ => none } }
    let place (r : Reception) (u : State) : State :=
      if r.kind = .order then { u with cbi := { u.cbi with orders := u.cbi.orders ++ (orderOf r.words).toList } }
      else if r.kind = .report then
        if u.working = true then
          { u with gwu := { u.gwu with reports := u.gwu.reports ++ (gatewayReportOf r.caller r.words).toList } }
        else { u with
          cbi := { u.cbi with reservedOver := some .report }
          gwu := { u.gwu with ctr := { u.gwu.ctr with reportsLost := sat32 u.gwu.ctr.reportsLost 1 } } }
      else u.goodEnd r.caller
    (s.cbi.rx = none → exec (.transferWordReceived w parity) s = .next (State.settle s f)) ∧
    (∀ r, s.cbi.rx = some r →
      let u := State.takeWord r w parity { f with cbi := { s.cbi with windowStart := s.now } }
      exec (.transferWordReceived w parity) s = .next (State.settle s (
        match u.cbi.part, u.cbi.rx with
        | .callee, some x =>
          if x.stage ≠ .done then u
          else if x.bad = true then { u with cbi := { u.cbi with phase := .close } }
          else place x (close true u)
        | _, _ => u))) ∧
    exec .badCloseTimeout s = .next (State.settle s (
      if s.cbi.part = .callee ∧ s.cbi.rx.any (fun r => r.bad) = true then
        let c := (close false f).badEnd
        { c with cbi := { c.cbi with ctr := { c.cbi.ctr with badBursts := sat32 c.cbi.ctr.badBursts 1 } } }
      else f)))

/-- The end of a burst in reception (R38, R50). At a good end each held frame joins its queue, or is freed and counted
by the state its home is in now, and the pending wakes follow; at a bad end every held frame is freed uncounted and the
pending wakes are discarded. A wake cause sends WAKE at once on mains to a sleeping home whose group has no quiet running,
and queues it otherwise (R176, R179). -/
def Obligations.ReceptionEndsGoodOrBad : Prop :=
  (∀ (h : HomeId) (s : State), s.wakeCause h =
    if s.service h ≠ .sleep ∨ h ∈ s.bhu.wakeQ then s
    else if s.pins.mainsOk = true ∧ s.ten.quietEnds.at (s.home h).group = none then
      { s with bhu := { s.bhu with requests := s.bhu.requests ++ [(.wake, h)] } }
    else { s with bhu := { s.bhu with wakeQ := s.bhu.wakeQ ++ [h] } }) ∧
  ∀ (caller : StationId) (s : State),
    (s.badEnd = { s with
      cqm := { s.cqm.setFree (s.cqm.free + cellCount (s.cqm.held.map Held.frame)) with held := [] }
      ffu := { s.ffu with pendingWakes := [] } }) ∧
    (s.goodEnd caller = s.ffu.pendingWakes.foldl State.applyWake (s.cqm.held.foldl (State.joinHeld caller) { s with
      cqm := { s.cqm with held := [] }, ffu := { s.ffu with pendingWakes := [] } })) ∧
    (∀ x : Held, x.dest = .uplink →
      s.joinHeld caller x =
        if s.working = true then { s with
          cqm := { s.cqm with uplink := s.cqm.uplink ++ [x.frame] }
          gwu := s.gwu.learn (sourceOf x.frame.bytes) caller (x.frame.home.getD 0) }
        else
          let t := s.release x.frame.cells
          { t with cqm := { t.cqm with dropUplink := sat32 s.cqm.dropUplink 1 } }) ∧
    (∀ (x : Held) (h : HomeId), x.dest = .home h →
      let freed (g : HomeCounters → HomeCounters) : State :=
        let t := s.release x.frame.cells
        { t with lpb := { t.lpb with homes := s.lpb.homes.put h { s.home h with ctr := g (s.home h).ctr } } }
      s.joinHeld caller x = match s.service h with
        | .down | .training | .unequipped => freed fun c => { c with downLineDown := sat32 c.downLineDown 1 }
        | .testHeld => freed fun c => { c with downTest := sat32 c.downTest 1 }
        | .adminDown => freed fun c => { c with downAdmin := sat32 c.downAdmin 1 }
        | _ => { s with cqm := { s.cqm with down := s.cqm.down.put h (s.cqm.down.at h ++ [x.frame]) } }) ∧
    ∀ w : PendingWake,
      let record : WakeRecord := ⟨w.set, w.length, w.capture, w.source, s.service w.home⟩
      let offered : State := { s with ffu := { s.ffu with
        wake := if s.ffu.wake.at w.home = none then s.ffu.wake.put w.home (some record) else s.ffu.wake } }
      s.applyWake w = if s.service w.home = .sleep then offered.wakeCause w.home
        else if s.service w.home = .waking then offered else s

/-! ## The cabinet bus: own calls -/

/-- ANSWER_WORD and ANSWER_WINDOW_EXPIRY (R60, R67): the caller goes on after a TAKE of its target, ends FULL after its
FULL, and ABSENT after anything else or nothing; a listener follows a TAKE.
CLOSE_WORD and CLOSE_WINDOW_EXPIRY (R60, R70): only a GOOD of good parity with the target's ID ends the call GOOD;
any other close word, or none, ends it BAD. A listener of an addressed call sees the transfer over (log 25).
The end of an own addressed call (R71, R83, R137, R141, R187): the outcome is counted, CB_BSY released, and the
requester acts on it. -/
def Obligations.CallerJudgesAndRequesterActs : Prop :=
  ((∀ (w : Word) (parity : Bool) (s : State),
    let f : State := { s with out := [] }
    let code := w.toNat / 16384
    let id := w.toNat / 2048 % 8
    exec (.answerWord w parity) s = .next (State.settle s (
      if s.cbi.phase ≠ .answer then f
      else match s.cbi.part, s.cbi.call with
      | .caller, some c =>
        if parity = oddParity w ∧ id = c.target.val ∧ code = 1 then f.startTransfer c (w.toNat % 2048)
        else if parity = oddParity w ∧ id = c.target.val ∧ code = 2 then f.endCall .full c
        else f.endCall .absent c
      | .listener, _ =>
        if parity = oddParity w ∧ code = 1 then { f with cbi := { s.cbi with phase := .transfer } } else f
      | _, _ => f)) ∧
    exec .answerWindowExpiry s = .next (State.settle s (
      match s.cbi.phase, s.cbi.part, s.cbi.call with
      | .answer, .caller, some c => f.endCall .absent c
      | _, _, _ => f))) ∧
  (∀ (w : Word) (parity : Bool) (s : State),
    let f : State := { s with out := [] }
    exec (.closeWord w parity) s = .next (State.settle s (
      match s.cbi.phase, s.cbi.part, s.cbi.call with
      | .close, .caller, some c =>
        if parity = oddParity w ∧ w.toNat / 16384 = 1 ∧ w.toNat / 2048 % 8 = c.target.val then f.endCall .good c
        else f.endCall .bad c
      | .transfer, .listener, _ =>
        if s.cbi.rx = none then { f with cbi := { s.cbi with phase := .close } } else f
      | _, _, _ => f)) ∧
    exec .closeWindowExpiry s = .next (State.settle s (
      match s.cbi.phase, s.cbi.part, s.cbi.call with
      | .close, .caller, some c => f.endCall .bad c
      | _, _, _ => f)))) ∧
  (∀ (o : CallOutcome) (c : OwnCall) (s : State),
    let ended : State := { s with cbi := { s.cbi with
      part := .none, call := none, bsyDrive := false
      ctr := match o with
        | .good => s.cbi.ctr
        | .bad => { s.cbi.ctr with ownBad := sat32 s.cbi.ctr.ownBad 1 }
        | .full => { s.cbi.ctr with ownFull := sat32 s.cbi.ctr.ownFull 1 }
        | .absent => { s.cbi.ctr with ownAbsent := sat32 s.cbi.ctr.ownAbsent 1 } } }
    ((c.body = .updata ∨ c.body = .downdata) → o = .good → s.endCall o c = ended.sendBurst) ∧
    ((c.body = .updata ∨ c.body = .downdata) → o = .bad → s.endCall o c = ended.failBurst) ∧
    ((c.body = .updata ∨ c.body = .downdata) → o = .full → s.endCall o c = ended) ∧
    (c.body = .updata → o = .absent → s.endCall o c = ended) ∧
    (c.body = .downdata → o = .absent →
      let q := s.cqm.stn.at c.target
      s.endCall o c = { ended with cqm := { s.cqm.setFree (s.cqm.free + cellCount q) with
        stn := s.cqm.stn.put c.target []
        dropStn := s.cqm.dropStn.put c.target (sat32 (s.cqm.dropStn.at c.target) q.length) } }) ∧
    (∀ m, c.body = .order m → m ∈ s.gwu.orders →
      let removed : State := { ended with gwu := { s.gwu with orders := s.gwu.orders.erase m } }
      s.endCall o c = match o with
        | .good => removed
        | .absent => removed.handlerReport m.order.tag (BitVec.ofNat 8 m.target.val)
            (BitVec.ofNat 8 m.order.code.toNat) .noStation
        | _ => ended) ∧
    (∀ m, c.body = .order m → m ∉ s.gwu.orders → s.endCall o c = ended) ∧
    (∀ r, c.body = .report r → (o ≠ .good ∨ s.orh.queue.head? ≠ some r) → s.endCall o c = ended) ∧
    ∀ r, c.body = .report r → o = .good → s.orh.queue.head? = some r →
      let left : State := { ended with orh := { s.orh with queue := s.orh.queue.tail } }
      s.endCall o c = if isRestartBody r.body = true ∧ s.orh.restart.isSome = true then left.softRestart else left)

/-- After a TAKE the words of the transfer are made (R68, R74, R115, R137): an UPDATA burst from the scheduler's choices,
a DOWNDATA burst from the head of the target's queue, within the room given, 8 frames and 4096 bytes; an order or a
report with its header.
TRANSFER_WORD_SENT (R58, R68, R72, R73): the next word is strobed with odd parity; after its last word an addressed
call waits for the close, and a broadcast has gone out: CB_BSY is released and its requester is told.
The frames of an UPDATA burst (R68, R115) and of a DOWNDATA or FLOOD burst (R68, R73, R137) are those taken from the heads
of their queues, each once and no other, at most 8, at most 4096 bytes, and within the room. Each is the one that the
scheduler chooses or the next of its queue, and the filling ends at the first that fails a test (credit above 0, room, 8
frames, 4096 bytes), with the scheduler as the choice found it (log 18).
The words of a burst (section 4.10): the frame count; for each frame class, returned mark and home, the length, and its
bytes two to a word. -/
def Obligations.TransferMadeAndStrobed : Prop :=
  (∀ (c : OwnCall) (room : Nat) (s : State),
    let go (ws : List Word) (u : State) : State :=
      { u with cbi := { u.cbi with call := some { c with words := ws }, phase := .transfer, windowStart := s.now } }
    (c.body = .updata →
      let r := s.sched.fill 9 room []
      s.startTransfer c room = go (burstWords r.2) { s with
        ups := r.1.ups, cqm := { s.cqm with up := r.1.up, assembly := some ⟨.updata, r.2⟩ } }) ∧
    (c.body = .downdata →
      let r := takeWithin (some room) [] (s.cqm.stn.at c.target)
      s.startTransfer c room = go (burstWords r.1) { s with
        cqm := { s.cqm with stn := s.cqm.stn.put c.target r.2, assembly := some ⟨.downdata c.target, r.1⟩ } }) ∧
    (∀ m, c.body = .order m → s.startTransfer c room =
      go ([m.order.tag, wordOf (m.order.code.toNat * 4096 + m.order.args.length)] ++ m.order.args) s) ∧
    ∀ r, c.body = .report r → s.startTransfer c room = go (reportCallWords r) s) ∧
  (∀ s : State,
    let f : State := { s with out := [] }
    (∀ c w rest, s.cbi.phase = .transfer → s.cbi.part = .caller → s.cbi.call = some c → c.words = w :: rest →
      let sent : State := { s with out := [.busWord w (oddParity w)], cbi := { s.cbi with windowStart := s.now } }
      let gone : State := { sent with cbi := { sent.cbi with part := .none, call := none, bsyDrive := false } }
      let u : State :=
        if rest ≠ [] then { sent with cbi := { sent.cbi with call := some { c with words := rest } } }
        else match c.body with
        | .notice _ => gone
        | .claim k => gone.claimOut k.withdrawn
        | .quiet q => gone.quietOut q
        | .flood => gone.sendBurst
        | _ => { sent with cbi := { sent.cbi with phase := .close, call := some { c with words := [] } } }
      exec .transferWordSent s = .next (State.settle s u)) ∧
    ((s.cbi.phase ≠ .transfer ∨ s.cbi.part ≠ .caller ∨ ∀ c, s.cbi.call = some c → c.words = []) →
      exec .transferWordSent s = .next (State.settle s f))) ∧
  (∀ (room : Nat) (x : Sched),
    let r := x.fill 9 room []
    r.2.length ≤ 8 ∧ byteCount r.2 ≤ 4096 ∧ cellCount r.2 ≤ room ∧
    ∃ taken : Tab 8 (List Frame), (∀ h, x.up.at h = taken.at h ++ r.1.up.at h) ∧
      (∀ h, (taken.at h).Sublist r.2) ∧ r.2.Perm (homeIds.flatMap fun h => taken.at h)) ∧
  (∀ (n room : Nat) (x : Sched) (fs : List Frame),
    x.fill 0 room fs = (x, fs) ∧ (x.choose = none → x.fill (n + 1) room fs = (x, fs)) ∧
    ∀ rule h y, x.choose = some (rule, h, y) →
      (y.up.at h = [] → x.fill (n + 1) room fs = (x, fs)) ∧
      ∀ f q, y.up.at h = f :: q → x.fill (n + 1) room fs =
        if 0 < x.ups.credit ∧ cellCount fs + f.cells ≤ room ∧ fs.length < 8 ∧ byteCount fs + f.length ≤ 4096 then
          (y.take rule h).fill n room (fs ++ [f])
        else (x, fs)) ∧
  (∀ (room : Option Nat) (fs : List Frame), takeWithin room fs [] = (fs, []) ∧
    ∀ f q, takeWithin room fs (f :: q) =
      if (∀ n, room = some n → cellCount fs + f.cells ≤ n) ∧ fs.length < 8 ∧ byteCount fs + f.length ≤ 4096 then
        takeWithin room (fs ++ [f]) q
      else (fs, f :: q)) ∧
  (∀ fs : List Frame,
    let header (f : Frame) : Nat := (if f.cls = .expedited then 32768 else 0) + (if f.returned = true then 16384 else 0) +
      (f.home.elim 0 fun h => h.val) * 256
    burstWords fs = BitVec.ofNat 16 fs.length :: fs.flatMap fun f =>
      [BitVec.ofNat 16 (header f), BitVec.ofNat 16 f.length] ++ wordsOfBytes f.bytes) ∧
  (∀ (a b : Byte) (rest : List Byte), wordsOfBytes [] = [] ∧ wordsOfBytes [a] = [a ++ (0 : Byte)] ∧
    wordsOfBytes (a :: b :: rest) = (a ++ b) :: wordsOfBytes rest) ∧
  ∀ (room : Option Nat) (q : List Frame),
    let r := takeWithin room [] q
    q = r.1 ++ r.2 ∧ r.1.length ≤ 8 ∧ byteCount r.1 ≤ 4096 ∧ ∀ n, room = some n → cellCount r.1 ≤ n

/-- A failed burst (R36, R113) frees each frame under its reason or returns it, marked, to the head of its queue with
the refund of its length, from the last frame to the first (log 47); a good one frees every frame and counts what was sent
(R35, R119, R147). -/
def Obligations.BurstEndsGoodOrFailed : Prop :=
  ∀ s : State,
    (s.cqm.assembly = none → s.failBurst = s ∧ s.sendBurst = s) ∧
    (∀ a, s.cqm.assembly = some a →
      let t : State := { s with cqm := { s.cqm with assembly := none } }
      let freed : State := { s with cqm := { s.cqm.setFree (s.cqm.free + cellCount a.frames) with assembly := none } }
      s.failBurst = (match a.source with
        | .updata => a.frames.foldr State.returnUp t
        | .downdata i => a.frames.foldr (State.returnStn i) t
        | .flood => a.frames.foldr State.returnFlood t) ∧
      s.sendBurst = match a.source with
        | .updata => { freed with pvw := { s.pvw with sent := sat48 s.pvw.sent (byteCount a.frames) } }
        | .downdata _ => { freed with gwu := { s.gwu with
            ctr := { s.gwu.ctr with delivered := sat32 s.gwu.ctr.delivered a.frames.length } } }
        | .flood => freed) ∧
    (∀ (f : Frame) (h : HomeId), f.home = some h →
      let freed (g : HomeCounters → HomeCounters) : State :=
        let t := s.release f.cells
        { t with lpb := { t.lpb with homes := s.lpb.homes.put h { s.home h with ctr := g (s.home h).ctr } } }
      s.returnUp f =
        if s.service h = .testHeld then freed fun c => { c with upTest := sat32 c.upTest 1 }
        else if s.service h = .adminDown then freed fun c => { c with upAdmin := sat32 c.upAdmin 1 }
        else if s.cqm.flush = true then freed fun c => { c with upGatewayLost := sat32 c.upGatewayLost 1 }
        else if f.returned = true then freed fun c => { c with upBusLoss := sat32 c.upBusLoss 1 }
        else { s with
          cqm := { s.cqm with up := s.cqm.up.put h ({ f with returned := true } :: s.cqm.up.at h) }
          ups := { s.ups with credit := min (s.ups.credit + f.length) s.cfg.depth } }) ∧
    ∀ (f : Frame) (i : StationId),
      let t := s.release f.cells
      s.returnStn i f = (
        if s.working = false ∨ f.returned = true then
          { t with cqm := { t.cqm with dropStn := s.cqm.dropStn.put i (sat32 (s.cqm.dropStn.at i) 1) } }
        else { s with cqm := { s.cqm with
          stn := s.cqm.stn.put i ({ f with returned := true } :: s.cqm.stn.at i) } }) ∧
      s.returnFlood f =
        if s.working = false ∨ f.returned = true then
          { t with cqm := { t.cqm with dropFlood := sat32 s.cqm.dropFlood 1 } }
        else { s with cqm := { s.cqm with flood := { f with returned := true } :: s.cqm.flood } }

/-! ## The cabinet bus: ends, gap, watchdog, reset, self-check -/

/-- CB_BSY_FALL (R59, R60, R64, R66, R72, R73, R77): the reception ends by its part and format, a call of the part's own is
cut, no entry stays reserved, the bus is FREE with its free time from 0, and the watchdog stops, as it does not at a reset (log 26); in the
self-check only the level is seen.
BUS_RESET (R78 to R80): driving stops, the burst of the call fails or is freed, the call made is put back or ends
BAD, what was being received is discarded, the spent count is 0 and the free time starts from 0; in the self-check only
the counts change. -/
def Obligations.BusFallAndResetEndTheCall : Prop :=
  (∀ s : State,
    let f : State := { s with out := [] }
    let low : State := { f with cbi := { s.cbi with bsy := false, watch := none } }
    let free (u : State) : State := { u with cbi := { u.cbi with
      phase := .free, part := .none, bsyDrive := false, idDrive := false, urgDrive := false, contending := none
      call := none, rx := none, reservedOver := none, freeSince := some s.now } }
    let discarded : State := { low with cbi := { low.cbi with
      ctr := { s.cbi.ctr with broadcastsDiscarded := sat32 s.cbi.ctr.broadcastsDiscarded 1 } } }
    let whole (r : Reception) : Bool := decide (r.stage = .done) && !r.bad
    exec .cbBsyFall s = .next (State.settle s (
      if s.cbi.phase = .selfCheck then { f with cbi := { s.cbi with bsy := false } }
      else free (match s.cbi.part with
      | .none => low
      | .contender => low.loseContention
      | .caller => match s.cbi.call with
        | some c => low.cutCall false c
        | none => low
      | .callee => if s.cbi.rx = none then low else low.badEnd
      | .listener => match s.cbi.rx with
        | none => low
        | some r =>
          if r.kind = .flood then if whole r then low.goodEnd r.caller else low.badEnd
          else match (if whole r && !r.extra then heardOf r.kind r.caller r.words else none) with
          | some x => { low with cbi := { low.cbi with heard := s.cbi.heard ++ [x] } }
          | none => discarded)))) ∧
  (∀ s : State,
    let f : State := { s with out := [] }
    let free (u : State) : State := { u with cbi := { u.cbi with
      phase := .free, part := .none, bsyDrive := false, idDrive := false, urgDrive := false, contending := none
      call := none, rx := none, reservedOver := none } }
    let counts (u : State) : State := { u with cbi := { u.cbi with
      spent := 0, freeSince := some u.now, ctr := { u.cbi.ctr with resetsSeen := sat32 u.cbi.ctr.resetsSeen 1 } } }
    let discarded : State := { f with cbi := { s.cbi with
      ctr := { s.cbi.ctr with broadcastsDiscarded := sat32 s.cbi.ctr.broadcastsDiscarded 1 } } }
    exec .busReset s = .next (State.settle s (
      if s.cbi.phase = .selfCheck then counts f
      else counts (free (match s.cbi.part with
      | .none => f
      | .contender => f.loseContention
      | .caller => match s.cbi.call with
        | some c => f.cutCall true c
        | none => f
      | .callee => if s.cbi.rx = none then f else f.badEnd
      | .listener => match s.cbi.rx with
        | none => f
        | some r => if r.kind = .flood then f.badEnd else discarded)))))

/-- A call of the part cut before its end (R60, R71, R73, R79). An ORDER or REPORT ends BAD; a NOTICE, CLAIM or QUIET
is pending again with its contents unchanged, a CLAIM or QUIET withdrawn too late with that mark (log 22), unless a newer
NOTICE or QUIET stands in its place; a FLOOD fails its burst. An UPDATA or DOWNDATA call
cut by a fall of CB_BSY ends BAD; at a bus reset its burst fails and the call is not counted as ended (log 21). -/
def Obligations.CutCallsGoBackOrEndBad : Prop :=
  ∀ (reset : Bool) (c : OwnCall) (s : State),
    let t : State := { s with cbi := { s.cbi with part := .none, call := none, bsyDrive := false } }
    (∀ n, c.body = .notice n → s.cbi.notice = none →
      s.cutCall reset c = { t with cbi := { t.cbi with notice := some n } }) ∧
    (∀ n, c.body = .notice n → s.cbi.notice ≠ none →
      s.cutCall reset c = { t with cbi := { t.cbi with
        ctr := { s.cbi.ctr with noticesReplaced := sat32 s.cbi.ctr.noticesReplaced 1 } } }) ∧
    (∀ k, c.body = .claim k → s.cutCall reset c = { t with cbi := { t.cbi with claim := some k } }) ∧
    (∀ q, c.body = .quiet q → s.cbi.quiet = none →
      s.cutCall reset c = { t with cbi := { t.cbi with quiet := some q } }) ∧
    (∀ q, c.body = .quiet q → s.cbi.quiet ≠ none → s.cutCall reset c = t) ∧
    (c.body = .flood → s.cutCall reset c = t.failBurst) ∧
    ((c.body = .updata ∨ c.body = .downdata) → s.cutCall false c = s.endCall .bad c ∧ s.cutCall true c = t.failBurst) ∧
    (((∃ m, c.body = .order m) ∨ ∃ r, c.body = .report r) → s.cutCall reset c = s.endCall .bad c)

/-- QUIET_GAP and BUS_WATCHDOG_EXPIRY (R64, R77): a free bus clears the spent count; a line held too long is reset, the
pulse counted and the watchdog started again (log 26), except in UNKNOWN and SELF_CHECK.
SELF_CHECK_START and SELF_CHECK_END (R59, R80, R81): the request is taken when the bus is FREE and the part in no
call; at the end the result goes into the reply, and the bus is found again from UNKNOWN, whose leaving for FREE starts
the free time (log 37).
The result of the loop (R81): PASS exactly when word 40 and no other is flagged and every word reads back equal;
the counts of flagged and unequal words; the first word that failed either check. -/
def Obligations.GapWatchdogAndSelfCheck : Prop :=
  ((∀ s : State,
    let f : State := { s with out := [] }
    exec .quietGap s = .next (
      if s.cbi.phase = .free ∧ s.cbi.bsy = false ∧ s.cbi.freeSince ≠ none then { f with cbi := { s.cbi with spent := 0 } }
      else f) ∧
    exec .busWatchdogExpiry s = .next (
      if s.cbi.watch ≠ none ∧ s.cbi.bsy = true ∧ s.cbi.phase ≠ .unknown ∧ s.cbi.phase ≠ .selfCheck then
        { f with
          out := [.busReset]
          cbi := { s.cbi with
            watch := some s.now, ctr := { s.cbi.ctr with resetsPulsed := sat32 s.cbi.ctr.resetsPulsed 1 } } }
      else f)) ∧
  (∀ (readBack : List (Word × Bool)) (s : State),
    let f : State := { s with out := [] }
    let seen : State := if s.cbi.phase = .unknown ∧ s.cbi.bsy = false
      then { f with cbi := { s.cbi with phase := .free, freeSince := some s.now } } else f
    exec .selfCheckStart s = .next (
      if s.cbi.selfWanted = true ∧ seen.cbi.phase = .free ∧ s.cbi.part = .none then
        { f with cbi := { s.cbi with
          selfWanted := false, phase := .selfCheck, watch := none, selfSince := some s.now, freeSince := none } }
      else seen) ∧
    exec (.selfCheckEnd readBack) s = .next (State.settle s (
      if s.cbi.phase ≠ .selfCheck then f
      else State.reply .done (.selfCheck (selfCheckResult readBack)) { f with cbi := { s.cbi with
        selfSince := none
        phase := if s.cbi.bsy = false then .free else .unknown
        freeSince := if s.cbi.bsy = false then some s.now else s.cbi.freeSince } })))) ∧
  (∀ readBack : List (Word × Bool), readBack.length = 64 →
    let pattern (n : Nat) : Nat := if n / 16 % 2 = 0 then 2 ^ (n % 16) else 65535 - 2 ^ (n % 16)
    let flagged (n : Nat) : Bool := readBack[n]?.any fun x => x.2 != oddParity x.1
    let unequal (n : Nat) : Bool := readBack[n]?.any fun x => x.1.toNat != pattern n
    let fails (n : Nat) : Prop := ¬(flagged n = true ↔ n = 40) ∨ unequal n = true
    let r := selfCheckResult readBack
    (r.pass = true ↔ ∀ n, n < 64 → ¬fails n) ∧ (r.pass = true ↔ r.first = none) ∧
    (∀ n, r.first = some n ↔ n < 64 ∧ fails n ∧ ∀ k, k < n → ¬fails k) ∧
    r.flagged = ((List.range 64).filter flagged).length ∧ r.unequal = ((List.range 64).filter unequal).length)

/-- Every pattern of the sixteen data lines has one parity level, and a word with one line changed is read as bad
(R58, R76).
The bit fields of the words of a NOTICE, a CLAIM and a QUIET are those of section 4.10, bits not listed 0.
The six words of a NOTICE carry every field of it: what a listener reads from the words of a notice in range is that
notice, and what it reads from any words is a notice in range (section 4.10, R72). -/
def Obligations.WordsCarryParityAndNotices : Prop :=
  (∀ (w : Word) (i : Fin 16), goodParity w (oddParity w) = true ∧ goodParity w (!oddParity w) = false ∧
    goodParity (w ^^^ BitVec.ofNat 16 (2 ^ i.val)) (oddParity w) = false) ∧
  (∀ n : Notice, n.wf = true → ∃ a b d p u bb : Word, noticeWords n = [a, b, d, p, u, bb] ∧
    a.extractLsb' 14 2 = (match n.role with | .line => 0 | .active => 1 | .standby => 2) ∧
    a.extractLsb' 12 2 = (match n.mains with | .mains => 0 | .battery => 1 | .batteryLow => 2) ∧
    a.getLsbD 11 = n.storm ∧
    a.extractLsb' 9 2 = (match n.test with | .idle => 0 | .waiting => 1 | .holding => 2) ∧
    (a.extractLsb' 5 4).toNat = n.group.val ∧ a.getLsbD 4 = n.dup ∧ a.getLsbD 3 = n.uplinkUp ∧ a.extractLsb' 0 3 = 0 ∧
    (b.extractLsb' 8 8).toNat = n.powerWeight ∧ b.getLsbD 7 = false ∧ (b.extractLsb' 0 7).toNat = n.weight ∧
    d.toNat = n.demand ∧ p.toNat = n.powerDemand ∧ u.toNat = n.u ∧ bb.toNat = n.b) ∧
  (∀ (h : HomeId) (g : Group), ∃ a : Word, claimWords h g = [a] ∧ a.extractLsb' 11 5 = 0 ∧
    (a.extractLsb' 8 3).toNat = h.val ∧ a.extractLsb' 4 4 = 0 ∧ (a.extractLsb' 0 4).toNat = g.val) ∧
  (∀ (g : Group) (ms : Nat), ms < 65536 → ∃ a b : Word, quietWords g ms = [a, b] ∧ a.toNat = g.val ∧ b.toNat = ms) ∧
  (∀ n : Notice, n.wf = true → noticeOf (noticeWords n) = some n) ∧
  (∀ (ws : List Word) (n : Notice), noticeOf ws = some n → ws.length = 6 ∧ n.wf = true) ∧
  ∀ (caller : StationId) (h : HomeId) (g : Group) (ms : Nat), 1 ≤ ms → ms < 65536 →
    heardOf .claim caller (claimWords h g) = some (.claim caller h g) ∧
    heardOf .quiet caller (quietWords g ms) = some (.quiet g (wordOf ms))

/-! ## Notices, claims and quiets heard -/

/-- NOTICE_HEARD (R90, R92): a notice enters the view, in ID order and with age 0, replacing the caller's entry; one with
the own ID sets the duplicate flag and, when the holdoff has run down, queues DUPLICATE_ID.
The view at the boundary (R85, R91 to R95): entries age and leave at age 4, the own role and the active gateway are
chosen with their events, the TBUSY-stuck watch and the duplicate counts advance. -/
def Obligations.PeerViewFollowsNotices : Prop :=
  ((∀ (caller : StationId) (n : Notice) (s : State),
    let f : State := { s with out := [], cbi := { s.cbi with heard := s.cbi.heard.erase (.notice caller n) } }
    exec (.noticeHeard caller n) s = .next (State.settle s (
      if caller ≠ s.orh.stn then { f with pvw := { s.pvw with peers := insertPeer ⟨caller, n, 0⟩ s.pvw.peers } }
      else if s.pvw.dupHold = 0 then
        { f with
          pvw := { s.pvw with dup := true, dupQuiet := 0, dupHold := 256 }
          orh := s.orh.offer .duplicateId }
      else { f with pvw := { s.pvw with dup := true, dupQuiet := 0 } }))) ∧
  ∀ (e : PeerEntry) (ps : List PeerEntry), (ps.map PeerEntry.id).Pairwise (· < ·) →
    ((insertPeer e ps).map PeerEntry.id).Pairwise (· < ·) ∧
    ∀ x : PeerEntry, x ∈ insertPeer e ps ↔ x = e ∨ (x ∈ ps ∧ x.id ≠ e.id)) ∧
  (∀ s : State,
    let aged := (s.pvw.peers.map fun p => { p with age := p.age + 1 }).filter fun p => decide (p.age < 4)
    let role : Role :=
      if s.orh.fitted = false then .line
      else if ∃ p ∈ aged, s.orh.stn < p.id ∧ p.notice.role ≠ .line then .standby else .active
    let active := if role = .active then some s.orh.stn else highestActive aged
    let event : Option Event := match s.pvw.active, active with
      | some _, none => if s.pvw.foundOnce then some .gatewayLost else none
      | none, some g => some (.gatewayFound g)
      | some a, some g => if a = g then none else some (.gatewayFound g)
      | none, none => none
    s.choose = { s with
      pvw := { s.pvw with
        peers := aged, role := role, active := active, foundOnce := s.pvw.foundOnce || active.isSome }
      orh := event.elim s.orh fun e => s.orh.offer e }) ∧
  (∀ (ps : List PeerEntry) (g : StationId), highestActive ps = some g ↔
    (∃ p ∈ ps, p.id = g ∧ p.notice.role = .active) ∧ ∀ p ∈ ps, p.notice.role = .active → p.id ≤ g) ∧
  (∀ ps : List PeerEntry, highestActive ps = none ↔ ∀ p ∈ ps, p.notice.role ≠ .active) ∧
  ∀ s : State,
    let nobody : Prop := s.tbusy = true ∧ (∀ p ∈ s.pvw.peers, p.notice.test ≠ .holding) ∧
      s.ten.state ≠ .connecting ∧ s.ten.state ≠ .measuring ∧ s.ten.state ≠ .releasing
    let count := if nobody then min 4 (s.pvw.stuckCount + 1) else 0
    let newly : Prop := count = 4 ∧ s.pvw.stuckCount ≠ 4
    s.watches = { s with
      pvw := { s.pvw with
        stuckCount := count
        stuck := s.pvw.stuck || decide newly
        dupHold := s.pvw.dupHold - 1
        dupQuiet := min 4 (s.pvw.dupQuiet + 1)
        dup := s.pvw.dup && decide (s.pvw.dupQuiet + 1 < 4) }
      orh := if newly then s.orh.offer .tbusyStuck else s.orh }

/-- CLAIM_HEARD and CLAIM_WITHDRAWAL_SETTLED (R151 to R153). In CLAIMING the own CLAIM is withdrawn and the part waits;
a holder of a test hears a caller of its own or a higher ID and aborts with ABORTED_CONFLICT. A withdrawn CLAIM that went
out makes the part connect when its rival has a lower ID and the claimed home is still at the head; an examination that
would have given CLAIMING meanwhile is made when the withdrawal is settled.
The withdrawal of a CLAIM (R61, R151): before its contention begins it is removed, later it is marked and goes on; an
examination owed by an earlier one stands (log 55). A CLAIM that has gone out makes the part connect if it still claims
(R151); a withdrawn one waits to be settled (R152). -/
def Obligations.RivalClaimsAndWithdrawalsSettled : Prop :=
  (∀ (caller : StationId) (h : HomeId) (g : Group) (s : State),
    let f : State := { s with out := [] }
    let heard : State := { f with cbi := { s.cbi with heard := s.cbi.heard.erase (.claim caller h g) } }
    let w := heard.withdrawClaim (some caller)
    exec (.claimHeard caller h g) s = .next (State.settle s (
      if s.ten.state = .claiming then { w with ten := { w.ten with state := .waiting } }
      else if (s.ten.state = .connecting ∨ s.ten.state = .measuring) ∧ s.orh.stn ≤ caller then
        heard.enterReleasing (some .abortedConflict) none
      else heard)) ∧
    (s.ten.withdrawal = none → exec .claimWithdrawalSettled s = .next (State.settle s f)) ∧
    ∀ x, s.ten.withdrawal = some x →
      let u : State := { f with ten := { s.ten with withdrawal := none } }
      exec .claimWithdrawalSettled s = .next (State.settle s (
        if x.settled = none then f
        else if x.settled = some true ∧ s.ten.state = .waiting ∧ x.rival.any (· < s.orh.stn) = true ∧
            s.ten.queue.head?.map TestEntry.home = some x.home then u.connect
        else if x.owed = true then u.examine
        else u))) ∧
  (∀ s : State,
    s.claimOut true = { s with ten := { s.ten with
      withdrawal := s.ten.withdrawal.map fun w => { w with settled := some true } } } ∧
    s.claimOut false = if s.ten.state = .claiming then s.connect else s) ∧
  (∀ (rival : Option StationId) (s : State),
    let owed := s.ten.withdrawal.any fun w => w.owed
    (∀ c, s.cbi.claim = some c → s.cbi.contending ≠ some .claim →
      s.withdrawClaim rival = { s with
        cbi := { s.cbi with claim := none }
        ten := { s.ten with withdrawal := some ⟨rival, c.home, some false, owed⟩ } }) ∧
    (∀ c, s.cbi.claim = some c → s.cbi.contending = some .claim →
      s.withdrawClaim rival = { s with
        cbi := { s.cbi with claim := some { c with withdrawn := true } }
        ten := { s.ten with withdrawal := some ⟨rival, c.home, none, owed⟩ } }) ∧
    (∀ c t ws, s.cbi.claim = none → s.cbi.call = some ⟨.claim c, t, ws⟩ →
      s.withdrawClaim rival = { s with
        cbi := { s.cbi with call := some ⟨.claim { c with withdrawn := true }, t, ws⟩ }
        ten := { s.ten with withdrawal := some ⟨rival, c.home, none, owed⟩ } }) ∧
    (s.cbi.claim = none → (¬∃ c t ws, s.cbi.call = some ⟨.claim c, t, ws⟩) →
      s.withdrawClaim rival = { s with ten := { s.ten with
        withdrawal := s.ten.withdrawal.map fun w => { w with rival := rival } } }))

/-- QUIET_HEARD, QUIET_END_EXPIRY, TBUSY_RISE and TBUSY_FALL (R9, R10, R95, R151, R155): a quiet of at most 2000 ms
silences the group's homes and sets or moves its end: UP_FULL and UP_LOW go to QUIET with their return modes, WAKING goes
to SLEEP and to the head of the wake queue (R8, R176; several in index order, log 49). At the end, or at the fall of TBUSY,
they return by their return modes, and on mains the group's queued homes are sent WAKE (R179). The own QUIET gone out
silences its group in the same way and lets the test that asked for it settle (R154). A rise of TBUSY withdraws the own
CLAIM; its fall also ends the stuck condition, and every running quiet in group order (log 50). -/
def Obligations.QuietSilencesGroupUntilItsEnd : Prop :=
  (∀ (g : Group) (ms : Word) (s : State),
    let f : State := { s with out := [] }
    let ended := s.now + min ms.toNat 2000 * 1000
    exec (.quietHeard g ms) s = .next (State.settle s (State.quietGroup g { f with
      cbi := { s.cbi with heard := s.cbi.heard.erase (.quiet g ms) }
      ten := { s.ten with
        quietEnds := s.ten.quietEnds.put g
          (some (match s.ten.quietEnds.at g with | some x => max x ended | none => ended)) } })) ∧
    exec (.quietEndExpiry g) s = .next (State.settle s (f.endQuiet g))) ∧
  (∀ s : State,
    let f : State := { s with out := [] }
    let rise : State := { f with pins := { s.pins with tbusyOthers := true } }
    let fall : State := { f with pins := { s.pins with tbusyOthers := false } }
    let w := rise.withdrawClaim none
    exec .tbusyRise s = .next (State.settle s (
      if s.ten.tbusyDrive = false ∧ s.pins.tbusyOthers = false ∧ s.ten.state = .claiming then
        { w with ten := { w.ten with state := .waiting } }
      else rise)) ∧
    exec .tbusyFall s = .next (State.settle s (
      if s.pins.tbusyOthers = true ∧ s.ten.tbusyDrive = false then
        groupIds.foldl State.endQuiet { fall with
          pvw := { s.pvw with stuckCount := 0, stuck := false }
          orh := if s.pvw.stuck = true then s.orh.offer .tbusyClear else s.orh }
      else fall))) ∧
  ∀ (g : Group) (h : HomeId) (s : State),
    let m := s.home h
    let set (r : Option Mode) (resume : Bool) : State :=
      { s with lpb := { s.lpb with homes := s.lpb.homes.put h { m with ret := r, resume := resume } } }
    s.quietHome g h = (
      if m.group ≠ g then s
      else if m.service = .upFull then (set (some .full) false).moveTo .quiet h
      else if m.service = .upLow then (set (some .low) false).moveTo .quiet h
      else if m.service = .waking then (set none false).moveTo .sleep h
      else s) ∧
    s.unquietHome g h = (
      if m.group ≠ g ∨ m.service ≠ .quiet then s
      else if m.ret = some .low then (set none true).moveTo .upLow h
      else if m.ret = some .sleep then (set none false).moveTo .sleep h
      else (set none true).moveTo .upFull h) ∧
    (s.endQuiet g = if s.ten.quietEnds.at g = none then s
      else (homeIds.foldl (State.unquietHome g)
        { s with ten := { s.ten with quietEnds := s.ten.quietEnds.put g none } }).wakeGroup g) ∧
    (let woken := homeIds.filter fun k => decide (s.service k = .waking ∧ (s.home k).group = g)
     let t := homeIds.foldl (State.quietHome g) s
     s.quietGroup g = { t with bhu := { t.bhu with wakeQ := woken ++ t.bhu.wakeQ.filter fun k => decide (k ∉ woken) } }) ∧
    (let called := s.bhu.wakeQ.filter fun k => decide ((s.home k).group = g)
     s.wakeGroup g =
      if s.power = .mains then { s with bhu := { s.bhu with
        requests := s.bhu.requests ++ called.map fun k => (.wake, k)
        wakeQ := s.bhu.wakeQ.filter fun k => decide ((s.home k).group ≠ g) } }
      else s) ∧
    ∀ (q : QuietCall),
      let ended := s.now + q.ms * 1000
      let heard := State.quietGroup q.group { s with ten := { s.ten with
        quietEnds := s.ten.quietEnds.put q.group
          (some (match s.ten.quietEnds.at q.group with | some x => max x ended | none => ended)) } }
      s.quietOut q =
        if q.withdrawn = false ∧ s.ten.state = .connecting ∧ s.ten.current.map CurrentTest.phase = some .quietCall then
          { heard with ten := { heard.ten with
            current := heard.ten.current.map fun c => { c with phase := .quietSettle heard.now } } }
        else heard

/-! ## The round boundary -/

/-- ROUND_BOUNDARY (R40, R42, R85, R101, R120, R127, R146, R150): its steps in the order of log 17, with what becomes of
the gateway queues when the role changes and of the upstream queues at the sixteenth lost round, whose frames are freed
and counted GATEWAY_LOST. -/
def Obligations.RoundBoundaryStepsInOrder : Prop :=
  (∀ s : State,
    let a := (s.fresh.upsBoundary.choose.watches).lostRounds
    let b := if s.working = true ∧ a.working = false then a.leaveGateway
      else if s.working = false ∧ a.working = true then a.enterGateway else a
    let c := b.latch.bandwidthCalc
    exec .roundBoundary s = .next (State.settle s (State.examine (if s.power = .mains then c else c.powerRound)))) ∧
  ∀ s : State,
    (s.upsBoundary = { s with
      lpb := { s.lpb with homes := Tab.make fun h =>
        { s.home h with tier := (s.ups.homes.at h).stagedTier.getD (s.home h).tier } }
      ups := { s.ups with homes := Tab.make fun h =>
        let m := s.ups.homes.at h
        { m with
          expCount := 0, stagedTier := none
          eff := match m.stagedTier with
            | some t => (match m.stepFloor with | some f => min f t | none => t)
            | none => m.eff } } }) ∧
    (s.pvw.active ≠ none → s.lostRounds = { s with cqm := { s.cqm with lostRounds := 0, flush := false } }) ∧
    (s.pvw.active = none → s.cqm.lostRounds ≠ 15 →
      s.lostRounds = { s with cqm := { s.cqm with lostRounds := min 16 (s.cqm.lostRounds + 1) } }) ∧
    (s.pvw.active = none → s.cqm.lostRounds = 15 →
      s.lostRounds = homeIds.foldl (fun t h => t.freeUp .gatewayLost h)
        { s with cqm := { s.cqm with lostRounds := 16, flush := true } }) ∧
    (∀ h, let q := s.cqm.up.at h
      s.freeUp .gatewayLost h = { s with
        lpb := { s.lpb with homes := s.lpb.homes.put h { s.home h with
          ctr := { (s.home h).ctr with upGatewayLost := sat32 (s.home h).ctr.upGatewayLost q.length } } }
        cqm := { s.cqm.setFree (s.cqm.free + cellCount q) with up := s.cqm.up.put h [] }
        ups := { s.ups with
          homes := s.ups.homes.put h { s.ups.homes.at h with deficit := 0 }
          visitOpen := s.ups.visitOpen && s.ups.drrPos != h } }) ∧
    (s.leaveGateway = { s with
      cqm := { s.cqm.setFree (s.cqm.free +
          cellCount (s.cqm.uplink ++ (homeIds.flatMap fun i => s.cqm.stn.at i) ++ s.cqm.flood)) with
        uplink := [], stn := Tab.all [], flood := []
        dropUplink := sat32 s.cqm.dropUplink s.cqm.uplink.length
        dropStn := Tab.make fun i => sat32 (s.cqm.dropStn.at i) (s.cqm.stn.at i).length
        dropFlood := sat32 s.cqm.dropFlood s.cqm.flood.length }
      gwu := { s.gwu with
        giving := none, table := [], orders := [], reports := []
        ctr := { s.gwu.ctr with
          ordersLost := sat32 s.gwu.ctr.ordersLost s.gwu.orders.length
          reportsLost := sat32 s.gwu.ctr.reportsLost s.gwu.reports.length } } }) ∧
    s.enterGateway = { s with gwu := { s.gwu with
      table := [], orders := [], reports := [], bucket := 0, giving := none, position := 8, tickStart := s.now } }

/-- The notice latched (R85 to R89): every field from the state at the latch, its call requested in place of one still
pending, the round counters cleared. -/
def Obligations.LatchedNoticeTellsTheState : Prop :=
  ∀ s : State,
    let inAssembly : List Frame := match s.cqm.assembly with | some ⟨.updata, fs⟩ => fs | _ => []
    let counts (h : HomeId) : Prop :=
      (s.service h ≠ .unequipped ∧ s.service h ≠ .adminDown ∧ s.service h ≠ .testHeld) ∧
      (s.pvw.traffic.at h = true ∨ s.cqm.up.at h ≠ [] ∨ ∃ f ∈ inAssembly, f.home = some h)
    let wants (h : HomeId) : Prop :=
      s.service h = .training ∨ s.service h = .waking ∨ h ∈ s.bhu.wakeQ ∨
      ((s.service h = .upFull ∨ s.service h = .upLow ∨ s.service h = .quiet) ∧ s.idleSeconds h < 30)
    let test : Prop := s.ten.queue ≠ [] ∨ s.ten.state = .connecting ∨ s.ten.state = .measuring ∨ s.ten.state = .releasing
    let holds : Prop := s.ten.state = .connecting ∨ s.ten.state = .measuring ∨ s.ten.state = .releasing
    let eff (h : HomeId) : Nat := (s.ups.homes.at h).eff
    let queued := (homeIds.map fun h => byteCount (s.cqm.up.at h)).sum + byteCount inAssembly
    let wanting := homeIds.filter fun h => decide (wants h)
    let n : Notice :=
      { role := s.pvw.role
        mains := if s.pins.mainsOk then .mains else if s.pins.battLow then .batteryLow else .battery
        storm := s.lpb.stormEnd.isSome
        test := if holds then .holding else if s.ten.state = .idle then .idle else .waiting
        group := if holds then s.ten.current.elim 0 fun c => (s.home c.home).group else 0
        dup := s.pvw.dup
        uplinkUp := decide (s.pvw.role ≠ .line) && s.gwu.uplinkUp
        powerWeight := (wanting.map eff).sum + if test then 8 else 0
        weight := ((homeIds.filter fun h => decide (counts h)).map eff).sum
        demand := min 65535 ((s.pvw.sent + queued + 127) / 128)
        powerDemand := min 65535 (s.floor + (s.cfg.pFull - s.cfg.pSleep) * wanting.length +
          if test then s.cfg.pTest else 0)
        u := if s.pvw.role = .line then 0 else s.cfg.u
        b := if s.pvw.role = .line then 0 else s.cfg.b }
    s.latch = { s with
      pvw := { s.pvw with latched := some n, sent := 0, traffic := Tab.all false, roundStart := s.now }
      cbi := { s.cbi with
        notice := some n
        ctr := if s.cbi.notice = none then s.cbi.ctr
          else { s.cbi.ctr with noticesReplaced := sat32 s.cbi.ctr.noticesReplaced 1 } } }

/-! ## The share calculation -/

/-- The share function never allocates more than the capacity, runs at most one pass for each participant, and meets
every demand when the demands fit the capacity (R99, R100). Its passes (R98 to R100): the fair share of an open participant
is its weight's part of the capacity left, by floor; one whose demand is no more than that is satisfied with its demand,
which leaves the capacity; a pass that satisfies none gives every open one its fair share; once all are satisfied, what is
left is spread by weight over all. -/
def Obligations.SharesStayWithinCapacity : Prop :=
  (∀ (c0 : Nat) (ps : List (Nat × Nat)), (∀ p ∈ ps, 1 ≤ p.1) →
    (share c0 ps).1.length = ps.length ∧ (share c0 ps).2 ≤ ps.length ∧ (share c0 ps).1.sum ≤ c0 ∧
    ((ps.map Prod.snd).sum ≤ c0 → ∀ i, (ps.map Prod.snd).getD i 0 ≤ (share c0 ps).1.getD i 0)) ∧
  (∀ c0 : Nat, share c0 [] = ([], 0)) ∧
  (∀ (c0 : Nat) (ps : List (Nat × Nat)), ps ≠ [] →
    share c0 ps = sharePasses ps.length (ps.map Prod.fst).sum c0 (ps.map fun p => ⟨p.1, p.2, none⟩)) ∧
  ∀ (n wAll c : Nat) (ps : List Participant),
    let wt := (ps.map fun p => if p.alloc = none then p.weight else 0).sum
    let fair (p : Participant) : Nat := c * p.weight / wt
    let sat (p : Participant) : Prop := p.alloc = none ∧ p.demand ≤ fair p
    let after := ps.map fun p => if sat p then { p with alloc := some p.demand } else p
    let left := c - (ps.map fun p => if sat p then p.demand else 0).sum
    ((∀ p ∈ ps, ¬sat p) → sharePasses (n + 1) wAll c ps = (ps.map fun p => p.alloc.getD (fair p), 1)) ∧
    ((∃ p ∈ ps, sat p) → (∀ p ∈ after, p.alloc ≠ none) →
      sharePasses (n + 1) wAll c ps = (after.map fun p => p.alloc.getD 0 + left * p.weight / wAll, 1)) ∧
    ((∃ p ∈ ps, sat p) → (∃ p ∈ after, p.alloc = none) →
      sharePasses (n + 1) wAll c ps = ((sharePasses n wAll left after).1, (sharePasses n wAll left after).2 + 1))

/-- The bandwidth and the power calculation (R101 to R107): capacity, participants, target, the shaped rate that falls
at once and rises by the ramp, and the allowance that never lies below the floor. -/
def Obligations.CalculationsSetRateAndAllowance : Prop :=
  ∀ s : State,
    let own (c0 : Nat) (self : Option (Nat × Nat)) (others : List (Nat × Nat)) : Option Nat :=
      if self = none then none else (share c0 (self.toList ++ others)).1.head?
    let gateway := s.pvw.peers.find? fun p => some p.id == s.pvw.active
    let bw : Nat :=
      if s.pvw.active = none then 0
      else if s.pvw.active = some s.orh.stn then (if s.gwu.uplinkUp then s.cfg.u else 0)
      else gateway.elim 0 fun e => if e.notice.uplinkUp then e.notice.u else 0
    let bwSelf := s.pvw.latched.bind fun n => if 0 < n.weight then some (n.weight, n.demand) else none
    let bwOthers := s.pvw.peers.filterMap fun p =>
      if 0 < p.notice.weight then some (p.notice.weight, p.notice.demand) else none
    let bwShare := if bw = 0 then none else own bw bwSelf bwOthers
    let target :=
      if bw = 0 then 0
      else match bwShare with
        | none => min s.cfg.capK (min 16 bw)
        | some x => min s.cfg.capK (max (min 16 bw) x)
    let pw : Nat :=
      if s.pvw.active = none then s.cfg.fallback
      else if s.pvw.active = some s.orh.stn then s.cfg.b
      else gateway.elim s.cfg.fallback fun e => e.notice.b
    let pwSelf := s.pvw.latched.bind fun n => if 0 < n.powerWeight then some (n.powerWeight, n.powerDemand) else none
    let pwOthers := s.pvw.peers.filterMap fun p =>
      if 0 < p.notice.powerWeight then some (p.notice.powerWeight, p.notice.powerDemand) else none
    s.bandwidthCalc = { s with shc := { s.shc with
      s := if target ≤ s.shc.s then target else min target (s.shc.s + s.cfg.ramp)
      t := target, bwCap := bw, bwShare := bwShare
      bwParts := (bwSelf.toList ++ bwOthers).length
      bwPasses := if bw = 0 then 0 else (share bw (bwSelf.toList ++ bwOthers)).2 } } ∧
    s.powerCalc = { s with shc := { s.shc with
      a := some (match own pw pwSelf pwOthers with | some x => max s.floor x | none => s.floor)
      pwCap := pw, pwShare := own pw pwSelf pwOthers
      pwParts := (pwSelf.toList ++ pwOthers).length
      pwPasses := (share pw (pwSelf.toList ++ pwOthers)).2 } }

/-! ## Upstream scheduling -/

/-- CREDIT_INTERVAL_END and MOVE (R30, R112, R121, R131): credit rises by S to the bucket depth, the bucket of a working
unit whose uplink is UP by U; a move takes the chosen frame to the uplink queue if it fits, and is blocked if not, with the
rest of the scheduler as the choice found it (R115, log 18). -/
def Obligations.CreditGrowsAndMovesSpendIt : Prop :=
  ∀ s : State,
    let f : State := { s with out := [] }
    exec .creditIntervalEnd s = .next (State.settle s { f with
      ups := { s.ups with credit := min (s.ups.credit + s.shc.s) s.cfg.depth, creditStart := s.now }
      gwu := { s.gwu with
        bucket := if s.pvw.role = .active ∧ s.gwu.uplinkUp = true then min (s.gwu.bucket + s.cfg.u) 16384
          else s.gwu.bucket } }) ∧
    (¬(s.pvw.role = .active ∧ 0 < s.ups.credit ∧ (∃ h, s.cqm.up.at h ≠ []) ∧ s.ups.move ≠ .blocked) →
      exec .move s = .next (State.settle s f)) ∧
    (s.pvw.role = .active → 0 < s.ups.credit → (∃ h, s.cqm.up.at h ≠ []) → s.ups.move ≠ .blocked →
      s.sched.choose = none → exec .move s = .next (State.settle s f)) ∧
    (s.pvw.role = .active → 0 < s.ups.credit → (∃ h, s.cqm.up.at h ≠ []) → s.ups.move ≠ .blocked →
      ∀ c x, s.sched.choose = some c → c.2.2.head c.2.1 = some x →
      let y := c.2.2.take c.1 c.2.1
      exec .move s = .next (State.settle s (
        if cellCount s.cqm.uplink + x.cells ≤ s.cfg.uplinkLimit then { f with
          ups := y.ups
          cqm := { s.cqm with up := y.up, uplink := s.cqm.uplink ++ [x] }
          gwu := s.gwu.learn (sourceOf x.bytes) s.orh.stn (x.home.getD 0)
          pvw := { s.pvw with sent := sat48 s.pvw.sent x.length } }
        else { f with ups := { s.ups with move := .blocked } })))

/-- The choice of a frame (R115 to R118). The expedited rule takes the first eligible home after the last served; the
deficit round robin offers a head frame within the deficit of an open visit. A take charges the credit and the rule's
own item, and a queue that becomes empty loses its deficit and its visit. -/
def Obligations.SchedulerChoosesAndCharges : Prop :=
  ∀ x : Sched,
    let eligible (h : HomeId) : Prop :=
      (∃ f q, x.up.at h = f :: q ∧ f.cls = .expedited) ∧ (x.ups.homes.at h).expCount < 16
    (∀ h, (∃ y, x.choose = some (.expedited, h, y)) ↔
      eligible h ∧ ∀ k : HomeId, (k.val + 7 - x.ups.expLast.val) % 8 < (h.val + 7 - x.ups.expLast.val) % 8 →
        ¬eligible k) ∧
    (∀ h y, x.choose = some (.expedited, h, y) → y = x) ∧
    (∀ h y, x.choose = some (.drr, h, y) →
      (∀ k, ¬eligible k) ∧ y.up = x.up ∧ y.ups.credit = x.ups.credit ∧ y.ups.visitOpen = true ∧ y.ups.drrPos = h ∧
      ∃ f q, x.up.at h = f :: q ∧ f.length ≤ (y.ups.homes.at h).deficit) ∧
    ∀ (rule : ChoiceRule) (h : HomeId) (f : Frame) (q : List Frame), x.up.at h = f :: q →
      let m := x.ups.homes.at h
      let charged : UpsHome := match rule with
        | .expedited => { m with expCount := m.expCount + 1 }
        | .drr => { m with deficit := m.deficit - f.length }
      (x.take rule h).up = x.up.put h q ∧
      (x.take rule h).ups = { x.ups with
        credit := x.ups.credit - f.length
        expLast := if rule = .expedited then h else x.ups.expLast
        homes := x.ups.homes.put h (if q = [] then { charged with deficit := 0 } else charged)
        visitOpen := if q = [] then x.ups.visitOpen && x.ups.drrPos != h else x.ups.visitOpen }

/-- The deficit round robin (R115, R117): an open visit goes on while the head frame fits the home's deficit; else the
next home after the visited one that holds a frame is visited and its deficit raised by 512 times its effective weight.
While some home upstream queue holds a frame of at most 1536 bytes and every effective weight is 1 or more, the scheduler
always offers one, and it offers none when all are empty. -/
def Obligations.SchedulerOffersWhileFramesWait : Prop :=
  (∀ x : Sched, (∀ h, 1 ≤ (x.ups.homes.at h).eff) → (∀ h, framesFit (x.up.at h)) →
    ((∃ c, x.choose = some c) ↔ ∃ h, x.up.at h ≠ [])) ∧
  ∀ x : Sched,
    let turn (k : HomeId) : Nat := (k.val + 7 - x.ups.drrPos.val) % 8
    let m (h : HomeId) : UpsHome := x.ups.homes.at h
    let here : Prop := x.ups.visitOpen = true ∧
      ∃ f q, x.up.at x.ups.drrPos = f :: q ∧ f.length ≤ (m x.ups.drrPos).deficit
    (∀ h, x.up.at h ≠ [] → (∀ k, turn k < turn h → x.up.at k = []) →
      x.visitNext = some { x with ups := { x.ups with
        drrPos := h, visitOpen := true
        homes := x.ups.homes.put h { m h with deficit := (m h).deficit + (m h).eff * 512 } } }) ∧
    ((∀ h, x.up.at h = []) → x.visitNext = none) ∧
    (∀ n : Nat, (here → x.drrChoice (n + 1) = some (x.ups.drrPos, x)) ∧
      (¬here → x.drrChoice (n + 1) = x.visitNext.bind fun y => y.drrChoice n)) ∧
    ((∀ h, x.eligible h = false) → x.choose = (x.drrChoice 32).map fun r => (.drr, r.1, r.2))

/-! ## The gateway -/

/-- UPLINK_STATE_CHANGE, TRANSMITTER_START and UPLINK_FRAME_TAKEN (R31, R130, R131, R145, R187): a report goes before a
queue frame when the bucket holds its length; taken whole, a frame leaves and is counted; an uplink that goes DOWN cuts a
queue frame, freed and counted, and keeps a report. A fall of the uplink queue unblocks a move (R121).
The bytes of a report frame (R145, section 4.10): operator address, management address, management type, tag, source
station, kind, code, result, number of data words and the data words, high bytes first, then zeros to 60 bytes. -/
def Obligations.TransmitterGivesReportsThenFrames : Prop :=
  (∀ (oper mgmt : Addr) (type : Word) (r : GatewayReport),
    let byte (n : Nat) : Byte := BitVec.ofNat 8 n
    let six (a : Addr) : List Byte := [a.extractLsb' 40 8, a.extractLsb' 32 8, a.extractLsb' 24 8, a.extractLsb' 16 8,
      a.extractLsb' 8 8, a.extractLsb' 0 8]
    let two (w : Word) : List Byte := [w.extractLsb' 8 8, w.extractLsb' 0 8]
    let frame (kind code result : Nat) (data : List Word) : List Byte :=
      six oper ++ six mgmt ++ two type ++ two r.tag ++ [r.station, byte kind, byte code, byte result] ++
        two (BitVec.ofNat 16 data.length) ++ data.flatMap two ++ List.replicate (60 - (22 + 2 * data.length)) 0
    (∀ c x d, r.body = .own (.reply c x d) →
      reportFrame oper mgmt type r = frame 0 c.toNat x.code (ReportBody.reply c x d).words) ∧
    (∀ e, r.body = .own (.event e) → reportFrame oper mgmt type r = frame 1 e.code 0 (ReportBody.event e).words) ∧
    (∀ c x, r.body = .handler c x → reportFrame oper mgmt type r = frame 0 c.toNat x.code []) ∧
    (∀ c x data, r.body = .peer false c x data → reportFrame oper mgmt type r = frame 0 c.toNat x.toNat data) ∧
    (∀ c x data, r.body = .peer true c x data → reportFrame oper mgmt type r = frame 1 c.toNat 0 data)) ∧
  ∀ (up : Bool) (s : State),
    let f : State := { s with out := [] }
    let linked : State := { f with gwu := { s.gwu with uplinkUp := up } }
    let unblocked : MoveState := if s.ups.move = .blocked then .running else s.ups.move
    let giveQueueFrame (x : Frame) (q : List Frame) (u : State) : State :=
      { u with
        cqm := { s.cqm.setFree (s.cqm.free + x.cells) with uplink := q }
        gwu := { u.gwu with giving := none }
        ups := { s.ups with move := unblocked } }
    let cuts : Prop := s.pvw.role = .active ∧ s.gwu.uplinkUp = true ∧ up = false
    let starts (g : Giving) (bytes : List Byte) : State :=
      if bytes.length ≤ s.gwu.bucket then { f with
        out := [.uplinkFrame bytes], gwu := { s.gwu with giving := some g, bucket := s.gwu.bucket - bytes.length } }
      else f
    ((¬cuts ∨ s.gwu.giving = none) → exec (.uplinkStateChange up) s = .next (State.settle s linked)) ∧
    (cuts → s.gwu.giving = some .report →
      exec (.uplinkStateChange up) s = .next (State.settle s { linked with
        gwu := { linked.gwu with giving := none } })) ∧
    (cuts → s.gwu.giving = some .queueFrame → ∀ x q, s.cqm.uplink = x :: q →
      let c := giveQueueFrame x q linked
      exec (.uplinkStateChange up) s = .next (State.settle s { c with
        cqm := { c.cqm with dropUplink := sat32 s.cqm.dropUplink 1 } })) ∧
    exec .transmitterStart s = .next (
      if s.pvw.role = .active ∧ s.gwu.giving = none ∧ s.gwu.uplinkUp = true then
        match s.gwu.reports, s.cqm.uplink with
        | r :: _, _ => starts .report (reportFrame s.gwu.operAddr s.cfg.mgmtAddr s.cfg.mgmtType r)
        | [], x :: _ => starts .queueFrame x.bytes
        | [], [] => f
      else f) ∧
    (s.gwu.giving = none → exec .uplinkFrameTaken s = .next (State.settle s f)) ∧
    (s.gwu.giving = some .queueFrame → ∀ x q, s.cqm.uplink = x :: q →
      let c := giveQueueFrame x q f
      exec .uplinkFrameTaken s = .next (State.settle s { c with gwu := { c.gwu with ctr := { s.gwu.ctr with
        framesSent := sat32 s.gwu.ctr.framesSent 1, bytesSent := sat48 s.gwu.ctr.bytesSent x.length } } })) ∧
    (s.gwu.giving = some .report →
      let left : State := { f with gwu := { s.gwu with
        giving := none, reports := s.gwu.reports.tail
        ctr := { s.gwu.ctr with reportsSent := sat32 s.gwu.ctr.reportsSent 1 } } }
      exec .uplinkFrameTaken s = .next (State.settle s (
        if s.gwu.reports.head?.any isRestartReport = true ∧ s.orh.restart ≠ none then left.softRestart else left)))

/-- UPLINK_FRAME_RECEIVED (R29, R132, R133, R138, R139): dropped and counted while not working or when bad; a management
frame goes to the handler, but with the default management address and type none is one (R129, log 60); a group or unknown
destination is flooded, a known one goes to its station's queue or to the
own home's.
A management frame (R139, R140, R142): counted when malformed, refused with a handler's report, or its order put on
the list; a full list answers NOT_TAKEN. The wake cause is the one that `ReceptionEndsGoodOrBad` states. -/
def Obligations.UplinkFramesRoutedOrManaged : Prop :=
  ((∀ (bytes : List Byte) (err : Bool) (s : State),
    let f : State := { s with out := [] }
    let n := bytes.length
    let counts (g : GatewayCounters → GatewayCounters) : State :=
      { f with gwu := { s.gwu with ctr := g s.gwu.ctr } }
    let taken := counts fun c =>
      { c with framesReceived := sat32 c.framesReceived 1, bytesReceived := sat48 c.bytesReceived n }
    exec (.uplinkFrameReceived bytes err) s = .next (State.settle s (
      if s.pvw.role ≠ .active then counts fun c => { c with standbyDrops := sat32 c.standbyDrops 1 }
      else if err = true ∨ n < 14 ∨ 1536 < n then counts fun c => { c with errorDrops := sat32 c.errorDrops 1 }
      else if ¬(s.cfg.mgmtAddr = 0 ∧ s.cfg.mgmtType = 0) ∧ addrOf (bytes.take 6) = s.cfg.mgmtAddr ∧
          wordOf (pairOf bytes 12) = s.cfg.mgmtType then taken.manage bytes
      else taken.routeFrame bytes))) ∧
  (∀ (bytes : List Byte) (s : State),
    let d := addrOf (bytes.take 6)
    let named := homeIds.filter fun h =>
      decide (s.service h = .upFull ∨ s.service h = .upLow ∨ s.service h = .quiet ∨ s.service h = .sleep ∨
        s.service h = .waking) && (d.getLsbD 40 || decide (d ∈ (s.home h).learned))
    let flooded := (named.foldl (fun t h => t.placeDown h bytes) s).placeFlood bytes
    (d.getLsbD 40 = true → s.routeFrame bytes = flooded) ∧
    (d.getLsbD 40 = false → (∀ e ∈ s.gwu.table, e.addr ≠ d) → s.routeFrame bytes = flooded) ∧
    (d.getLsbD 40 = false → ∀ e, s.gwu.table.find? (fun e => e.addr == d) = some e →
      s.routeFrame bytes = if e.station = s.orh.stn then s.placeDown e.home bytes
        else s.placeStn e.station e.home bytes)) ∧
  (∀ (bytes : List Byte) (i : StationId) (h : HomeId) (s : State),
    let n := bytes.length
    let a := s.alloc ((n + 127) / 128)
    s.placeStn i h bytes = (
      if s.cqm.free < 64 ∨ 256 < cellCount (s.cqm.stn.at i) + (n + 127) / 128 then
        { s with cqm := { s.cqm with dropStn := s.cqm.dropStn.put i (sat32 (s.cqm.dropStn.at i) 1) } }
      else { a with cqm := { a.cqm with
        stn := s.cqm.stn.put i (s.cqm.stn.at i ++ [⟨some h, .ordinary, false, n, bytes⟩]) } }) ∧
    s.placeFlood bytes =
      if s.cqm.free < 64 ∨ 64 < cellCount s.cqm.flood + (n + 127) / 128 then
        { s with cqm := { s.cqm with dropFlood := sat32 s.cqm.dropFlood 1 } }
      else { a with cqm := { a.cqm with flood := s.cqm.flood ++ [⟨none, .ordinary, false, n, bytes⟩] } }) ∧
  ∀ (h : HomeId) (bytes : List Byte) (s : State),
    let n := bytes.length
    let st := s.service h
    let cells := (n + 127) / 128
    let asleep : Prop := st = .sleep ∨ st = .waking
    let limit := if asleep then min (s.cfg.downLimits.at h) 16 else s.cfg.downLimits.at h
    let ids := wakeSet s.ffu.filters n bytes []
    let a := s.alloc cells
    let count (g : HomeCounters → HomeCounters) : State :=
      { s with lpb := { s.lpb with homes := s.lpb.homes.put h { s.home h with ctr := g (s.home h).ctr } } }
    let checked : State :=
      if s.cqm.free < 64 then count fun c => { c with downCritical := sat32 c.downCritical 1 }
      else if limit < cellCount (s.cqm.down.at h) + cells then
        if asleep then count fun c => { c with downAsleep := sat32 c.downAsleep 1 }
        else count fun c => { c with downLimit := sat32 c.downLimit 1 }
      else { a with cqm := { a.cqm with
        down := s.cqm.down.put h (s.cqm.down.at h ++ [⟨some h, .ordinary, false, n, bytes⟩]) } }
    let offered : State := { checked with ffu := { s.ffu with
      wake := if s.ffu.wake.at h = none then s.ffu.wake.put h (some ⟨ids, n, bytes.take 64, .uplink, st⟩)
        else s.ffu.wake } }
    s.placeDown h bytes =
      if st = .down ∨ st = .training ∨ st = .unequipped then
        count fun c => { c with downLineDown := sat32 c.downLineDown 1 }
      else if st = .testHeld then count fun c => { c with downTest := sat32 c.downTest 1 }
      else if st = .adminDown then count fun c => { c with downAdmin := sat32 c.downAdmin 1 }
      else if ¬asleep then checked
      else if ids = [] then count fun c => { c with downAsleep := sat32 c.downAsleep 1 }
      else if st = .sleep then offered.wakeCause h
      else offered) ∧
  (∀ (bytes : List Byte) (s : State),
    let b (k : Nat) : Byte := bytes.getD k 0
    let pair (k : Nat) : Nat := (b k).toNat * 256 + (b (k + 1)).toNat
    let seen : State := { s with gwu := { s.gwu with operAddr := addrOf ((bytes.drop 6).take 6) } }
    let malformed (u : State) : State :=
      { u with gwu := { u.gwu with ctr := { u.gwu.ctr with malformed := sat32 u.gwu.ctr.malformed 1 } } }
    let m : MgmtOrder := ⟨octal (b 16).toNat, ⟨wordOf (pair 14), BitVec.ofNat 4 (b 17).toNat,
      (List.range (pair 18)).map fun k => wordOf (pair (20 + 2 * k))⟩⟩
    s.manage bytes =
      if bytes.length < 20 then malformed s
      else if 7 < (b 16).toNat ∨ 40 < pair 18 ∨ bytes.length < 20 + 2 * pair 18 then
        (malformed seen).handlerReport (wordOf (pair 14)) (b 16) (b 17) .refusedRange
      else if 15 < (b 17).toNat then
        (malformed seen).handlerReport (wordOf (pair 14)) (b 16) (b 17) .unknownOrder
      else if s.gwu.orders.length < 8 then
        { seen with gwu := { seen.gwu with
          orders := s.gwu.orders ++ [m], ctr := { s.gwu.ctr with ordersTaken := sat32 s.gwu.ctr.ordersTaken 1 } } }
      else seen.handlerReport (wordOf (pair 14)) (b 16) (b 17) .notTaken)

/-- ADDRESS_AGE_TICK and the learning of a source address (R135, R136): an age that reaches 300 ends its entry; a known
source moves and is young again; an unknown one takes the lowest free number, or in a full table the place of the oldest
entry of age 60 or more, the lowest-numbered among equals. -/
def Obligations.AddressTableLearnsAndAges : Prop :=
  (∀ s : State,
    let aged := (s.gwu.table.map fun e => { e with age := e.age + 1 }).filter fun e => decide (e.age < 300)
    exec .addressAgeTick s = .next (
      if s.pvw.role = .active then { s with
        out := []
        gwu := { s.gwu with
          table := aged, tickStart := s.now
          ctr := { s.gwu.ctr with agedOut := sat32 s.gwu.ctr.agedOut (s.gwu.table.length - aged.length) } } }
      else { s with out := [] })) ∧
  ∀ (a : Addr) (st : StationId) (h : HomeId) (g : Gwu),
    (a.getLsbD 40 = true → g.learn a st h = g) ∧
    (a.getLsbD 40 = false → ∀ e, g.table.find? (fun e => e.addr == a) = some e →
      g.learn a st h = { g with
        table := g.table.map fun x => if x.addr = a then ⟨x.num, a, st, h, 0⟩ else x
        ctr := if e.station = st ∧ e.home = h then g.ctr else { g.ctr with moves := sat32 g.ctr.moves 1 } }) ∧
    (a.getLsbD 40 = false → (∀ e ∈ g.table, e.addr ≠ a) → g.table.length < 512 →
      g.learn a st h = { g with
        table := insertEntry ⟨freeNumber g.table, a, st, h, 0⟩ g.table
        ctr := { g.ctr with learned := sat32 g.ctr.learned 1 } }) ∧
    (a.getLsbD 40 = false → (∀ e ∈ g.table, e.addr ≠ a) → 512 ≤ g.table.length →
      ∀ o, oldestEntry g.table = some o →
      g.learn a st h =
        if 60 ≤ o.age then { g with
          table := g.table.map fun e => if e.num = o.num then ⟨e.num, a, st, h, 0⟩ else e
          ctr := { g.ctr with
            learned := sat32 g.ctr.learned 1, replacements := sat32 g.ctr.replacements 1 } }
        else { g with ctr := { g.ctr with notLearned := sat32 g.ctr.notLearned 1 } }) ∧
    (g.table.length < 512 → freeNumber g.table < 512 ∧ (∀ e ∈ g.table, e.num ≠ freeNumber g.table) ∧
      ∀ n, n < freeNumber g.table → ∃ e ∈ g.table, e.num = n) ∧
    (∀ e : AddrEntry, (insertEntry e g.table).Perm (e :: g.table) ∧
      ((g.table.map AddrEntry.num).Pairwise (· < ·) → (∀ x ∈ g.table, x.num ≠ e.num) →
        ((insertEntry e g.table).map AddrEntry.num).Pairwise (· < ·))) ∧
    (oldestEntry g.table = none ↔ g.table = []) ∧
    (∀ o, oldestEntry g.table = some o → o ∈ g.table ∧ ∀ e ∈ g.table, e.age ≤ o.age ∧ (e.age = o.age → o.num ≤ e.num))

/-- MANAGEMENT_ORDER_HANDOFF, OWN_REPORT_PASS and ORDER_START (R140, R143, R182): the oldest order for this station goes
to its order buffer, the head of the own report queue into the gateway report buffer, the head order into execution with
a report entry reserved, each when there is room; the entry that an ORDER or REPORT call has reserved counts as taken until
the call ends (R66). A report of the management handler takes an entry of the gateway report buffer, or is lost and counted (R142). The data of a report:
none for a refusal without data, a bare DONE and an event of which R184 says none; LINE_STATUS for all homes and
READ_RESULTS with 16 records are never cut; at most 1024 words, a longer reply being cut to the most whole records that fit,
with their number (R182 to R184; the coding is a free value, log 11). -/
def Obligations.OrdersAndReportsHandedOn : Prop :=
  ∀ s : State,
    let f : State := { s with out := [] }
    let reserved (k : CallKind) : Nat :=
      if (s.cbi.part = .callee ∧ (s.cbi.rx.any fun r => decide (r.kind = k)) = true) ∨ s.cbi.reservedOver = some k
      then 1 else 0
    let orderRoom : Prop := s.cbi.orders.length + reserved .order < 4
    let entries := s.orh.queue.length + (if s.orh.executing.isSome then 1 else 0)
    (∀ m, s.gwu.orders.find? (fun m => m.target == s.orh.stn) = some m →
      exec .managementOrderHandoff s = .next (State.settle s (
        if s.pvw.role = .active ∧ orderRoom ∧ entries < 16 ∧ s.orh.restart = none then { f with
          gwu := { s.gwu with orders := s.gwu.orders.eraseP fun m => m.target == s.orh.stn }
          cbi := { s.cbi with orders := s.cbi.orders ++ [m.order] } }
        else f))) ∧
    ((∀ m ∈ s.gwu.orders, m.target ≠ s.orh.stn) → exec .managementOrderHandoff s = .next (State.settle s f)) ∧
    exec .ownReportPass s = .next (State.settle s (
      match s.orh.queue with
      | r :: q =>
        if s.pvw.role = .active ∧ s.gwu.reports.length + reserved .report < 32 then { f with
          orh := { s.orh with queue := q }
          gwu := { s.gwu with
            reports := s.gwu.reports ++ [⟨r.tag, BitVec.ofNat 8 s.orh.stn.val, .own r.body⟩] } }
        else f
      | [] => f)) ∧
    exec .orderStart s = .next (State.settle s (
      match s.cbi.orders with
      | o :: q =>
        if s.orh.executing = none ∧ s.orh.restart = none ∧ s.orh.queue.length < 16 then { f with
          cbi := { s.cbi with orders := q }, orh := { s.orh with executing := some o } }
        else f
      | [] => f)) ∧
    (∀ (tag : Word) (station code : Byte) (result : Result), s.handlerReport tag station code result =
      if s.gwu.reports.length + reserved .report < 32 then
        { s with gwu := { s.gwu with reports := s.gwu.reports ++ [⟨tag, station, .handler code result⟩] } }
      else { s with gwu := { s.gwu with
        ctr := { s.gwu.ctr with mgmtReportsLost := sat32 s.gwu.ctr.mgmtReportsLost 1 } } }) ∧
    (∀ r : Report,
      let b := r.body
      reportCallWords r = [r.tag, wordOf ((if b.isEvent then 32768 else 0) + b.code * 2048 + b.result),
        wordOf b.words.length] ++ b.words ∧ b.words.length ≤ 1024) ∧
    ∀ b : ReportBody,
      let bare : Prop := (∃ c r, b = .reply c r .none ∨ b = .reply c r .restarting) ∨ b = .event .stormEnd ∨
        b = .event .gatewayLost ∨ b = .event .duplicateId ∨ b = .event .tbusyStuck ∨ b = .event .tbusyClear ∨
        b = .event .configDefaulted
      let fits : Prop := ∃ c r, (∃ st hs, b = .reply c r (.lineStatus st hs) ∧ hs.length ≤ 8) ∨
        ∃ rs left, b = .reply c r (.results rs left) ∧ rs.length ≤ 16
      let whole := Config.reportWords b none
      (bare → b.words = []) ∧
      (fits → b.words = (List.range (Config.fittingWords b).1).map (Config.fittingWords b).2) ∧
      (¬bare → ¬fits → (∀ e, b = .event e → b.words = whole.take 1024) ∧
        ∀ c r d, b = .reply c r d →
          let cut (n : Nat) : List Word := Config.reportWords (.reply c r (d.keep n)) (some n)
          let most := (((List.range d.records).filter fun n => decide ((cut n).length ≤ 1024)).getLast?).getD 0
          b.words = if whole.length ≤ 1024 then whole else (cut most).take 1024)

/-! ## Orders -/

/-- The orders that read (R23, R96, R167, R182, R183): LINE_STATUS, READ_COUNTERS, READ_RESULTS, READ_PEERS and
UNKNOWN_ORDER. A reply takes the entry reserved for it and ends the execution; too few arguments or a home above 7 are
refused before anything else (log 40), and a command whose order is not under execution changes nothing (log 5).
The station part and the home part of a LINE_STATUS reply (R183): every status item of the blocks' chapters (R83, R96, R109,
R128, R147, R148, R168, R181), the timers in seconds up to 30. -/
def Obligations.ReadingOrdersReply : Prop :=
  (∀ s : State,
    let o := s.orh
    let c := s.shc
    let u := s.ups
    let t := s.ten
    let seconds (since : Nat) : Nat := min 30 ((s.now - since) / 1000000)
    s.stationStatus = {
      stn := o.stn, fitted := o.fitted, defaulted := o.defaulted, lostEvents := o.lostEvents
      queueEntries := o.queue.length + (if o.executing.isSome then 1 else 0)
      queueEvents := (o.queue.filter fun r => r.body.isEvent).length
      free := s.cqm.free, bus := s.cbi.ctr
      s := c.s, t := c.t, bwCap := c.bwCap, bwShare := c.bwShare, bwParts := c.bwParts, bwPasses := c.bwPasses
      a := c.a, pwCap := c.pwCap, pwShare := c.pwShare, pwParts := c.pwParts, pwPasses := c.pwPasses
      capK := s.cfg.capK, ramp := s.cfg.ramp, fallback := s.cfg.fallback
      credit := u.credit, depth := s.cfg.depth, raised := u.raised, move := u.move, expLast := u.expLast
      drrPos := u.drrPos, visitOpen := u.visitOpen, gateway := s.gwu.ctr, tableEntries := s.gwu.table.length
      testState := t.state, testHome := t.current.map CurrentTest.home, testStep := t.current.map CurrentTest.phase
      testQueue := t.queue, quietGroups := groupIds.filter fun g => (t.quietEnds.at g).isSome
      logRecords := t.log.length, logUnread := (t.log.filter fun r => !r.read).length, lostResults := t.lost
      power := if s.pins.mainsOk = true then .mains else if s.pins.battLow = true then .batteryLow else .battery
      lineCost := (homeIds.map fun h => s.cfg.homeCost (s.home h).service (s.home h).ret).sum
      reserve := s.bhu.reserve, remaining := s.bhu.remaining, wakeQueue := s.bhu.wakeQ } ∧
    ∀ h, let m := s.home h
      s.homeStatus h = {
        home := h, service := m.service, ret := m.ret, rateUp := m.rateUp, rateDown := m.rateDown, learned := m.learned
        flaps := m.flaps
        upCells := ((s.cqm.up.at h).map Frame.cells).sum, upFrames := (s.cqm.up.at h).length
        downCells := ((s.cqm.down.at h).map Frame.cells).sum, downFrames := (s.cqm.down.at h).length
        wake := s.ffu.wake.at h, tier := m.tier, ups := s.ups.homes.at h, outcome := s.bhu.outcome.at h
        wakeTimer := (s.bhu.wakeSince.at h).map seconds
        idleTimer := (s.bhu.lastTraffic.at h).elim 30 seconds }) ∧
  ∀ (s : State),
    let f : State := { s with out := [] }
    let ends (c : Instr) (u : State) : Prop := exec c s = .next (State.settle s u)
    (∀ (c : Instr) (code : Nat),
      (c, code) ∈ [(Instr.lineStatus, 1), (.readCounters, 2), (.setTier, 3), (.lineAdmin, 4), (.testLine, 5),
        (.cancelTest, 6), (.readResults, 7), (.stageVolumeStep, 8), (.clearVolumeSteps, 9), (.newAccountingPeriod, 10),
        (.writeFilter, 11), (.filterEnable, 12), (.readPeers, 13), (.busSelfCheck, 14), (.restart, 15),
        (.unknownOrder, 0)] →
      (s.orh.executing = none ∨ s.orh.executing.any (fun o => o.code.toNat != code) = true) → ends c f) ∧
    ∀ o, s.orh.executing = some o →
      let arg (k : Nat) : Nat := (o.args.getD k 0).toNat
      let h := octal (arg 0)
      let reply (result : Result) (data : ReplyData) (u : State) : State :=
        { u with orh := { u.orh with
          queue := u.orh.queue ++ [⟨o.tag, .reply o.code result data⟩], executing := none } }
      let unread := s.ten.log.filter fun r => !r.read
      let given := unread.take (min (arg 0) 16)
      (o.code = 1 → ends .lineStatus (
        if o.args.length < 1 ∨ 8 < arg 0 then reply .refusedRange .none f
        else reply .done (.lineStatus f.stationStatus
          ((if arg 0 = 8 then homeIds else [h]).map f.homeStatus)) f)) ∧
      (o.code = 2 → ends .readCounters (
        if o.args.length < 2 ∨ 7 < arg 0 ∨ 1 < arg 1 then reply .refusedRange .none f
        else reply .done (.counters (s.home h).ctr) (if arg 1 = 0 then f else { f with lpb := { s.lpb with
          homes := s.lpb.homes.put h { s.home h with ctr := HomeCounters.zero } } }))) ∧
      (o.code = 7 → ends .readResults (
        if o.args.length < 1 then reply .refusedRange .none f
        else reply .done (.results given (unread.length - given.length)) { f with ten := { s.ten with
          log := s.ten.log.map fun r => if r ∈ given then { r with read := true } else r } })) ∧
      (o.code = 13 → ends .readPeers (reply .done (.peers
        { role := s.pvw.role, active := s.pvw.active, lost := s.pvw.active.isNone, stuck := s.pvw.stuck
          dup := s.pvw.dup, latched := s.pvw.latched, peers := s.pvw.peers }) f)) ∧
      (o.code = 0 → ends .unknownOrder (reply .unknownOrder .none f))

/-- The orders that set (R13, R55, R56, R124, R126, R127, R182, R183): SET_TIER, LINE_ADMIN, STAGE_VOLUME_STEP,
CLEAR_VOLUME_STEPS, NEW_ACCOUNTING_PERIOD, WRITE_FILTER and FILTER_ENABLE. A filter's mask flags lie in its words from bit
15 downwards, its value bytes two to a word, the lower-numbered in bits 15 to 8 (section 4.10). -/
def Obligations.SettingOrdersWriteTheirFields : Prop :=
  (∀ (words : List Word) (i j : Nat), j < 16 → maskFlag words (16 * i + j) = (words.getD i 0).getLsbD (15 - j)) ∧
  (∀ (words : List Word) (i : Nat), valueByte words (2 * i) = (words.getD i 0).extractLsb' 8 8 ∧
    valueByte words (2 * i + 1) = (words.getD i 0).extractLsb' 0 8) ∧
  ∀ (s : State) (o : Order), s.orh.executing = some o →
    let f : State := { s with out := [] }
    let ends (c : Instr) (u : State) : Prop := exec c s = .next (State.settle s u)
    let arg (k : Nat) : Nat := (o.args.getD k 0).toNat
    let h := octal (arg 0)
    let reply (result : Result) (data : ReplyData) (u : State) : State :=
      { u with orh := { u.orh with queue := u.orh.queue ++ [⟨o.tag, .reply o.code result data⟩], executing := none } }
    let ups (m : UpsHome) : State := { f with ups := { s.ups with homes := s.ups.homes.put h m } }
    let m := s.ups.homes.at h
    let step : Threshold :=
      ⟨max 1 (arg 1 * 2 ^ 32 + arg 2 * 2 ^ 16 + arg 3), max 1 (min 15 (arg 4))⟩
    let staged (x : UpsHome) : State :=
      let r := compareThresholds h x
      let u : State := { ups r.1 with orh := r.2.foldl (fun o e => o.offer e) s.orh }
      reply .done (.thresholds r.1.threshold r.1.staged) u
    let filter (dir : Direction) : Filter :=
      { enabled := false, dir := dir
        acts := ⟨arg 2 % 2 == 1, arg 2 / 2 % 2 == 1, arg 2 / 4 % 2 == 1⟩
        minLen := min (arg 3) 1536
        mask := Tab.make fun p => maskFlag ((o.args.drop 4).take 4) p.val
        value := Tab.make fun p => valueByte ((o.args.drop 8).take 32) p.val }
    let written (x : Filter) (u : State) : State :=
      { u with ffu := { s.ffu with filters := s.ffu.filters.put h x } }
    (o.code = 3 → ends .setTier (
      if o.args.length < 2 ∨ 7 < arg 0 then reply .refusedRange .none f
      else reply .done .none (ups { m with stagedTier := some (max 1 (min 15 (arg 1))) }))) ∧
    (o.code = 4 → ends .lineAdmin (
      if o.args.length < 2 ∨ 7 < arg 0 ∨ 1 < arg 1 then reply .refusedRange .none f
      else if s.service h = .unequipped then reply .refusedState .none f
      else
        let u := if arg 1 = 0 then
            (if s.service h = .adminDown then f else (f.abortForAdmin h).enterAdminDown h)
          else (if s.service h = .adminDown then f.enterDown h else f)
        reply .done (.service (u.service h)) u)) ∧
    (o.code = 8 → ends .stageVolumeStep (
      if o.args.length < 5 ∨ 7 < arg 0 then reply .refusedRange .none f
      else if m.threshold = none then staged { m with threshold := some step }
      else if m.staged.length < 2 then staged { m with staged := m.staged ++ [step] }
      else reply .refusedFull (.thresholds m.threshold m.staged) f)) ∧
    (o.code = 9 → ends .clearVolumeSteps (
      if o.args.length < 1 ∨ 7 < arg 0 then reply .refusedRange .none f
      else reply .done .none (ups { m with staged := [] }))) ∧
    (o.code = 10 → ends .newAccountingPeriod (reply .done .none { f with ups := { s.ups with
      homes := Tab.make fun k =>
        { s.ups.homes.at k with volume := 0, eff := (s.home k).tier, stepFloor := none } } })) ∧
    (o.code = 11 → ends .writeFilter (
      if o.args.length < 40 ∨ 7 < arg 0 ∨ 2 < arg 1 ∨ 7 < arg 2 then reply .refusedRange .none f
      else if (s.ffu.filters.at h).enabled = true then reply .refusedState .none f
      else
        let x := filter (if arg 1 = 0 then .up else if arg 1 = 1 then .down else .both)
        reply .done (.filter x) (written x f))) ∧
    (o.code = 12 → ends .filterEnable (
      if o.args.length < 2 ∨ 7 < arg 0 ∨ 1 < arg 1 then reply .refusedRange .none f
      else reply .done .none (written { s.ffu.filters.at h with enabled := decide (arg 1 = 1) } f)))

/-- The orders on tests, the self-check and the restart (R80, R149, R165, R182, R183, R187): TEST_LINE, CANCEL_TEST,
BUS_SELF_CHECK and RESTART, and RESTART_LIMIT_EXPIRY.
A request for a test (R149): merged into the entry of its home, refused when eight entries stand or the current test
and seven do, else queued at the tail; the reply gives the entry's place, counted from 1 at the head, and its set; a removed
RESUMED entry that carries measurements leaves its record (R165). -/
def Obligations.TestAndRestartOrdersCarriedOut : Prop :=
  ((∀ (s : State) (o : Order), s.orh.executing = some o →
    let f : State := { s with out := [] }
    let ends (c : Instr) (u : State) : Prop := exec c s = .next (State.settle s u)
    let arg (k : Nat) : Nat := (o.args.getD k 0).toNat
    let h := octal (arg 0)
    let reply (result : Result) (data : ReplyData) (u : State) : State :=
      { u with orh := { u.orh with queue := u.orh.queue ++ [⟨o.tag, .reply o.code result data⟩], executing := none } }
    let set : TestSet := ⟨arg 1 % 2 == 1, arg 1 / 2 % 2 == 1, arg 1 / 4 % 2 == 1⟩
    let replies (result : Result) (u : State) : State := u.reply result .none
    let holds : Prop := s.ten.state = .connecting ∨ s.ten.state = .measuring
    let current : Prop := s.ten.current.any (fun c => decide (c.home = h)) = true
    let suspended : Prop := s.ten.state = .releasing ∧
      s.ten.current.any (fun c => decide (c.outcome = none ∧ c.cause ≠ none)) = true
    (o.code = 5 → ends .testLine (
      if o.args.length < 3 ∨ 7 < arg 0 ∨ arg 1 = 0 ∨ 7 < arg 1 ∨ 1 < arg 2 then reply .refusedRange .none f
      else if s.service h = .unequipped ∨ s.service h = .adminDown then reply .refusedState .none f
      else match s.ten.request h set (decide (arg 2 = 1)) .order with
      | none => reply .refusedFull .none f
      | some q => reply .done (q.placeOf h) { f with ten := q })) ∧
    (o.code = 6 → (o.args.length < 1 ∨ 7 < arg 0) → ends .cancelTest (reply .refusedRange .none f)) ∧
    (o.code = 6 → 1 ≤ o.args.length → arg 0 ≤ 7 →
      (∀ e, s.ten.queue.find? (fun e => e.home == h) = some e →
        ends .cancelTest (replies .done ((f.cancelEntry e).cancelCurrent h))) ∧
      ((∀ e ∈ s.ten.queue, e.home ≠ h) → ends .cancelTest (
        if current ∧ (holds ∨ suspended) then replies .done (f.cancelCurrent h) else reply .refusedState .none f))) ∧
    (o.code = 14 → ends .busSelfCheck (
      if s.cbi.phase = .selfCheck then f else { f with cbi := { s.cbi with selfWanted := true } })) ∧
    (o.code = 15 → ends .restart (
      let u := reply .done .restarting f
      { u with orh := { u.orh with restart := some s.now } }))) ∧
  (∀ (h : HomeId) (s : State),
    s.cancelCurrent h =
      if s.ten.current.any (fun c => decide (c.home = h)) = false then s
      else if s.ten.state = .connecting ∨ s.ten.state = .measuring then
        s.enterReleasing (some .abortedCancel) none
      else if s.ten.state = .releasing ∧
          s.ten.current.any (fun c => decide (c.outcome = none ∧ c.cause ≠ none)) = true then
        { s with ten := { s.ten with current := s.ten.current.map fun c => { c with cancelled := true } } }
      else s) ∧
  (∀ s : State,
    let f : State := { s with out := [] }
    exec .restartLimitExpiry s = .next (State.settle s (if s.orh.restart = none then f else f.softRestart))) ∧
  ∀ s : State, s.ten.current = none →
    let r := s.softRestart
    (∀ h, (r.home h).ctr = (s.home h).ctr) ∧ r.cbi.ctr = s.cbi.ctr ∧ r.gwu.ctr = s.gwu.ctr ∧ r.ten.log = s.ten.log ∧
    r.orh.lostEvents = s.orh.lostEvents ∧ r.cqm.free = 2048 ∧ r.pending = s.pending ∧
    ∀ h, s.service h = .adminDown → ((loadHomes (Config.restartBoard s.pins.restarts).2.2).at h).equipped = true →
      r.service h = .adminDown) ∧
  (∀ (h : HomeId) (set : TestSet) (quiet : Bool) (origin : Origin) (t : Ten),
    let steps (e : TestEntry) (p : MeasureKind → Prop) [DecidablePred p] : Bool :=
      (e.carried.elim [] Carried.meas).any fun m => decide (p m.kind)
    let merged (e : TestEntry) : TestEntry := { e with
      quiet := e.quiet || quiet
      set := ⟨(e.set.fv || set.fv) && !steps e (fun k => k = .dcvTG ∨ k = .dcvRG ∨ k = .acvTR),
              (e.set.ir || set.ir) && !steps e (fun k => k = .resTR ∨ k = .resTG ∨ k = .resRG),
              (e.set.cap || set.cap) && !steps e (fun k => k = .capTR)⟩ }
    t.request h set quiet origin =
      if ∃ e ∈ t.queue, e.home = h then
        some { t with queue := t.queue.map fun e => if e.home = h then merged e else e }
      else if 8 ≤ t.queue.length + (if t.current.isSome then 1 else 0) then none
      else some { t with queue := t.queue ++ [⟨h, set, quiet, origin, origin, none⟩] }) ∧
  (∀ (h : HomeId) (t : Ten), ((∀ e ∈ t.queue, e.home ≠ h) → t.placeOf h = .none) ∧
    ∀ a e b, t.queue = a ++ e :: b → (∀ x ∈ a, x.home ≠ h) → e.home = h →
      t.placeOf h = .testPlace (a.length + 1) e.set) ∧
  ∀ (e : TestEntry) (s : State),
    let claimed := s.withdrawClaim none
    let t := if s.ten.state = .claiming ∧ s.ten.queue.head? = some e then claimed else s
    let u : State := { t with ten := { t.ten with queue := s.ten.queue.filter fun x => x.home != e.home } }
    s.cancelEntry e = match e.carried with
      | some ⟨[], _⟩ => u
      | some ⟨m :: ms, .storm⟩ => u.writeRecord e.home e.firstOrigin .abortedStorm true (m :: ms)
      | some ⟨m :: ms, .power⟩ => u.writeRecord e.home e.firstOrigin .abortedCancel true (m :: ms)
      | none => u

/-! ## Tests -/

/-- A test connects (R11, R22, R151, R154): the head entry becomes the current test, TBUSY is driven, the head link is
DRIVING with its source OFF, the home is held and its relay closed; a hold refused aborts it, a relay refused suspends
it.
The way into RELEASING (R163, R164): the relay opens, the head's source goes OFF, a QUIET not yet out is withdrawn,
the running step's readings are lost and the settle time starts; only a test in CONNECTING or MEASURING is ended or
suspended, whatever the reason. HOLD_TIME_LIMIT ends it with ABORTED_TIMEOUT. -/
def Obligations.TestTakesAndLeavesTheBus : Prop :=
  (∀ s : State,
    (s.ten.queue = [] → s.connect = s) ∧
    ∀ e q, s.ten.queue = e :: q →
      let ms := e.carried.elim [] Carried.meas
      let c : CurrentTest :=
        { home := e.home, set := e.set, quiet := e.quiet, origin := e.origin, firstOrigin := e.firstOrigin
          split := decide (ms ≠ []), phase := .relaySettle s.now, meas := ms, part := [], cut := false, outcome := none
          cause := e.carried.map Carried.cause, cancelled := false }
      let t : State := { s with ten := { s.ten with
        state := .connecting, queue := q, current := some c, tbusyDrive := true, headDriving := true
        holdSince := some s.now } }
      let st := s.service e.home
      let held := t.hold e.home
      let off : State := { held with out := s.out ++ [.headSource .off] }
      s.connect =
        if st = .unequipped ∨ st = .adminDown then t.enterReleasing (some .abortedAdmin) none
        else if s.storm = false ∧ s.lpb.relay = none then { off with lpb := { off.lpb with relay := some e.home } }
        else off.enterReleasing none (some .storm)) ∧
  (∀ (outcome : Option TestOutcome) (cause : Option SuspendCause) (s : State),
    let holds : Prop := s.ten.state = .connecting ∨ s.ten.state = .measuring
    let f : State := { s with out := [] }
    s.enterReleasing outcome cause = { s with
      out := s.out ++ [.headSource .off]
      lpb := { s.lpb with relay := none }
      ten := { s.ten with
        state := .releasing, holdSince := none
        current := s.ten.current.map fun c =>
          { c with phase := .releaseSettle s.now, part := [], outcome := outcome, cause := cause.or c.cause } }
      cbi := { s.cbi with
        quiet := if s.cbi.contending = some .quiet then s.cbi.quiet.map (fun q => { q with withdrawn := true }) else none
        call := match s.cbi.call with
          | some ⟨.quiet q, t, ws⟩ => some ⟨.quiet { q with withdrawn := true }, t, ws⟩
          | c => c } } ∧
    (∀ k, s.suspend k = if holds then s.enterReleasing none (some k) else s) ∧
    (∀ o, s.endTest o = if holds then s.enterReleasing (some o) none else s) ∧
    exec .holdTimeLimit s = .next (State.settle s (if holds then f.enterReleasing (some .abortedTimeout) none else f)))

/-- The steps of a test (R154, R156 to R159): the settle ends, the readings of each path and their retries, the CAP
timing, and a head that does not answer. A step that completes enters its measurements; FV readings above 60 V take IR and
CAP out of the set. FV reads DCV TG, DCV RG and ACV TR, IR reads RES TR, RES TG and RES RG, each on its path.
A completed step and the next one (R157 to R159): FV, IR and CAP in this order, each with its commands to the head;
when no step is left the test ends COMPLETE, or PARTIAL if a dangerous voltage has cut IR or CAP. -/
def Obligations.TestStepsRunInOrder : Prop :=
  (∀ s : State, s.ten.current = none → ∀ c ∈ [Instr.relaySettleEnd, .quietSettleEnd, .headReadTimeout, .crossFall,
      .capTimeout, .releaseSettleEnd], exec c s = .next (State.settle s { s with out := [] })) ∧
  (∀ s : State, s.ten.current = none → ∀ (v i ac : Word) (ready : Bool),
    exec (.headReadResponse v i ac ready) s = .next (State.settle s { s with out := [] }) ∧
    exec .stepSettleEnd s = .next { s with out := [] } ∧ exec .crossRise s = .next { s with out := [] }) ∧
  (∀ (s : State) (c : CurrentTest), s.ten.current = some c →
    let f : State := { s with out := [] }
    let now (p : TestPhase) (ps : List Pulse) : State :=
      { f with ten := { s.ten with current := some { c with phase := p } }, out := ps }
    let ends (i : Instr) (u : State) : Prop := exec i s = .next (State.settle s u)
    let idle (i : Instr) : Prop := ends i f
    let connecting : Prop := s.ten.state = .connecting
    let measuring : Prop := s.ten.state = .measuring
    let measure : State := State.nextStep { f with ten := { s.ten with state := .measuring } }
    (∀ since, c.phase = .relaySettle since → connecting → ends .relaySettleEnd (
      if c.quiet = true then
        let u := now .quietCall []
        { u with cbi := { s.cbi with quiet := some ⟨(s.home c.home).group, 2000, false⟩ } }
      else measure)) ∧
    ((¬connecting ∨ ∀ since, c.phase ≠ .relaySettle since) → idle .relaySettleEnd) ∧
    (∀ since, c.phase = .quietSettle since → connecting → ends .quietSettleEnd measure) ∧
    ((¬connecting ∨ ∀ since, c.phase ≠ .quietSettle since) → idle .quietSettleEnd) ∧
    (∀ st n since, c.phase = .pathSettle st n since → measuring →
      exec .stepSettleEnd s = .next (now (.reading st n s.now) [.headRead])) ∧
    ((¬measuring ∨ ∀ st n since, c.phase ≠ .pathSettle st n since) → exec .stepSettleEnd s = .next f) ∧
    (∀ (v i ac : Word) (ready : Bool),
      (∀ st n since, c.phase = .reading st n since → measuring →
        let next : State := { f with
          out := [.headSelect (pathOf st (n + 1))]
          ten := { s.ten with current := some { c with
            phase := .pathSettle st (n + 1) s.now, part := c.part ++ [readingOf st n v i ac] } } }
        ends (.headReadResponse v i ac ready) (
          if ready = false then { f with out := [.headRead] }
          else if n < 2 then next
          else State.completeStep st (c.part ++ [readingOf st n v i ac])
            { f with out := if st = .ir then [.headSource .off] else [] })) ∧
      ((¬measuring ∨ ∀ st n since, c.phase ≠ .reading st n since) → idle (.headReadResponse v i ac ready))) ∧
    (∀ st n since, c.phase = .reading st n since → measuring →
      ends .headReadTimeout (f.enterReleasing (some .headFault) none)) ∧
    ((¬measuring ∨ ∀ st n since, c.phase ≠ .reading st n since) → idle .headReadTimeout) ∧
    (∀ since, c.phase = .capArmed since → measuring →
      exec .crossRise s = .next (now (.capTiming since s.now) []) ∧
      ends .capTimeout (State.completeStep .cap [⟨.capTR, 1000000, false, true⟩] { f with out := [.headSource .off] }) ∧
      idle .crossFall) ∧
    (∀ since rise, c.phase = .capTiming since rise → measuring →
      exec .crossRise s = .next f ∧
      ends .capTimeout (State.completeStep .cap [⟨.capTR, 1000000, false, true⟩] { f with out := [.headSource .off] }) ∧
      ends .crossFall (State.completeStep .cap [⟨.capTR, min (2 * (s.now - rise)) 1000000, false, false⟩]
        { f with out := [.headSource .off] })) ∧
    ((¬measuring ∨ ∀ since, c.phase ≠ .capArmed since) → exec .crossRise s = .next f) ∧
    ((¬measuring ∨ ∀ since rise, c.phase ≠ .capTiming since rise) → idle .crossFall ∧
      ((¬measuring ∨ ∀ since, c.phase ≠ .capArmed since) → idle .capTimeout))) ∧
  ((pathOf .fv 0 = .tg ∧ pathOf .fv 1 = .rg ∧ pathOf .fv 2 = .tr) ∧
    (pathOf .ir 0 = .tr ∧ pathOf .ir 1 = .tg ∧ pathOf .ir 2 = .rg)) ∧
  (∀ v i ac : Word,
    readingOf .fv 0 v i ac = ⟨.dcvTG, v.toInt, false, false⟩ ∧ readingOf .fv 1 v i ac = ⟨.dcvRG, v.toInt, false, false⟩ ∧
    readingOf .fv 2 v i ac = ⟨.acvTR, (ac.toNat : Int), false, false⟩ ∧
    readingOf .ir 0 v i ac = resistance .resTR v i ∧ readingOf .ir 1 v i ac = resistance .resTG v i ∧
    readingOf .ir 2 v i ac = resistance .resRG v i) ∧
  (∀ (s : State) (c : CurrentTest), s.ten.current = some c →
    let begun (p : TestPhase) (ps : List Pulse) : State :=
      { s with ten := { s.ten with current := some { c with phase := p, part := [] } }, out := s.out ++ ps }
    (c.set.fv = true → s.nextStep = begun (.pathSettle .fv 0 s.now) [.headSource .off, .headSelect .tg]) ∧
    (c.set.fv = false → c.set.ir = true →
      s.nextStep = begun (.pathSettle .ir 0 s.now) [.headSelect .tr, .headSource .dc48]) ∧
    (c.set.fv = false → c.set.ir = false → c.set.cap = true →
      s.nextStep = begun (.capArmed s.now) [.headSelect .tr, .headSource .cc10ua]) ∧
    (c.set.fv = false → c.set.ir = false → c.set.cap = false →
      s.nextStep = s.endTest (if c.cut then .partialResult else .complete)) ∧
    ∀ (st : TestStep) (ms : List Measurement),
      let meas := c.meas ++ ms
      let above (k : MeasureKind) : Prop :=
        ((ms.find? fun m => m.kind == k).any fun m => decide (6000 < m.value.natAbs)) = true
      let danger : Prop := st = .fv ∧ (above .dcvTG ∨ above .dcvRG)
      let left : TestSet := ⟨c.set.fv && decide (st ≠ .fv), c.set.ir && decide (st ≠ .ir), c.set.cap && decide (st ≠ .cap)⟩
      let done (x : CurrentTest) : State := State.nextStep { s with ten := { s.ten with current := some x } }
      (¬danger → s.completeStep st ms = done { c with meas := meas, set := left, part := [] }) ∧
      (danger → s.completeStep st ms = done { c with
        meas := meas, set := ⟨false, false, false⟩, cut := c.cut || left.ir || left.cap, part := [] }))

/-- RELEASE_SETTLE_END (R12, R163 to R165): the home is released with a restart strobe unless an admin release has taken
it, TBUSY is dropped and the head link released, the test leaves its record or returns to the head of the queue, and the
test state is IDLE. A suspended test returns as RESUMED with the steps left, its measurements and the cause of the
suspension, merged with an entry that stands for its home (R149, R164). A disabled home's test ends ABORTED_ADMIN, also one
that is already in RELEASING (R13), cancelled or not (log 68). The fall of TBUSY that the release may bring ends the stuck
condition and every running quiet in group order (R95, R155, log 50). A record holds each measurement once, in the order of R166, and the loop length of its
CAP value (R161). -/
def Obligations.ReleaseFreesHomeAndFilesTest : Prop :=
  (∀ s : State, s.tbusyFell = groupIds.foldl State.endQuiet { s with
    pvw := { s.pvw with stuckCount := 0, stuck := false }
    orh := if s.pvw.stuck = true then s.orh.offer .tbusyClear else s.orh }) ∧
  (∀ (c : CurrentTest) (k : SuspendCause) (t : Ten),
    let e : TestEntry := ⟨c.home, c.set, c.quiet, .resumed, c.firstOrigin, some ⟨c.meas, k⟩⟩
    let has (p : MeasureKind → Bool) : Bool := c.meas.any fun m => p m.kind
    ((∀ x ∈ t.queue, x.home ≠ c.home) → t.requeue c k = { t with queue := e :: t.queue }) ∧
    ∀ x, t.queue.find? (fun x => x.home == c.home) = some x →
      t.requeue c k = { t with queue := { e with
        quiet := c.quiet || x.quiet
        set := ⟨(c.set.fv || x.set.fv) && !has (fun k => k = .dcvTG || k = .dcvRG || k = .acvTR),
                (c.set.ir || x.set.ir) && !has (fun k => k = .resTR || k = .resTG || k = .resRG),
                (c.set.cap || x.set.cap) && !has (fun k => k = .capTR)⟩ } ::
          (t.queue.filter fun y => decide (y.home ≠ c.home)) }) ∧
  (∀ (h : HomeId) (s : State), s.abortForAdmin h =
    if s.ten.current.map CurrentTest.home ≠ some h then s
    else if s.ten.state = .releasing then { s with ten := { s.ten with
      current := s.ten.current.map fun c => { c with outcome := some .abortedAdmin } } }
    else if s.ten.state = .connecting ∨ s.ten.state = .measuring then s.enterReleasing (some .abortedAdmin) none
    else s) ∧
  (∀ (cable : Nat) (ms : List Measurement),
    (∀ m, ms.find? (fun m => m.kind == .capTR) = some m →
      loopOf cable ms = if m.overRange = true then none else some (m.value.toNat / cable)) ∧
    ((∀ m ∈ ms, m.kind ≠ .capTR) → loopOf cable ms = none) ∧
    (∀ m, m ∈ inRecordOrder ms ↔ ms.find? (fun x => x.kind == m.kind) = some m) ∧
    ((inRecordOrder ms).map Measurement.kind).Sublist [.dcvTG, .dcvRG, .acvTR, .resTR, .resTG, .resRG, .capTR]) ∧
  ∀ (s : State) (c : CurrentTest), s.ten.current = some c →
    let f : State := { s with out := [] }
    let home : State :=
      if c.outcome = some .abortedAdmin ∨ s.service c.home ≠ .testHeld then f
      else { f with out := [.restartStrobe c.home] }.enterTraining c.home
    let dropped : State := { home with ten := { home.ten with tbusyDrive := false, headDriving := false } }
    let bus : State := if home.ten.tbusyDrive = true ∧ home.pins.tbusyOthers = false then dropped.tbusyFell else dropped
    let filed : State := match c.outcome, c.cause with
      | some o, _ => bus.writeRecord c.home c.firstOrigin o c.split c.meas
      | none, some k =>
        if c.cancelled = false then { bus with ten := bus.ten.requeue c k }
        else if c.meas = [] then bus
        else bus.writeRecord c.home c.firstOrigin (if k = .storm then .abortedStorm else .abortedCancel) true c.meas
      | none, none => bus
    exec .releaseSettleEnd s = .next (State.settle s (
      if s.ten.state = .releasing then { filed with ten := { filed.ten with state := .idle, current := none } } else f))

/-- Readings, verdicts and records (R160 to R162, R166, R167): the resistance of a voltage and a current, the verdict by
the first condition that applies, and a record numbered in a byte, with TEST_DONE, that evicts a read record before an
unread one. -/
def Obligations.MeasurementsJudgedAndRecorded : Prop :=
  (∀ (k : MeasureKind) (v i : Word),
    let va := v.toInt.natAbs
    let ia := i.toInt.natAbs
    resistance k v i =
      if ia < 2 then ⟨k, 100000000, true, false⟩
      else if 100000000 < va * 1000000 / ia then ⟨k, 100000000, false, true⟩
      else ⟨k, (va * 1000000 / ia : Nat), false, false⟩) ∧
  (∀ ms : List Measurement,
    let has (k : MeasureKind) (p : Int → Prop) : Prop := ∃ m, (ms.find? fun m => m.kind == k) = some m ∧ p m.value
    let foreign := has .dcvTG (fun v => 1000 < v.natAbs) ∨ has .dcvRG (fun v => 1000 < v.natAbs) ∨
      has .acvTR (fun v => 500 < v)
    let short := has .resTR (fun v => v < 1000)
    let leaky := has .resTG (fun v => v < 1000000) ∨ has .resRG (fun v => v < 1000000)
    let opened := has .capTR (fun v => v < 5000)
    (ms = [] → verdictOf ms = none) ∧
    (ms ≠ [] → foreign → verdictOf ms = some .foreignVoltage) ∧
    (ms ≠ [] → ¬foreign → short → verdictOf ms = some .short) ∧
    (ms ≠ [] → ¬foreign → ¬short → leaky → verdictOf ms = some .leaky) ∧
    (ms ≠ [] → ¬foreign → ¬short → ¬leaky → opened → verdictOf ms = some .openLoop) ∧
    (ms ≠ [] → ¬foreign → ¬short → ¬leaky → ¬opened → verdictOf ms = some .ok)) ∧
  ∀ (h : HomeId) (origin : Origin) (outcome : TestOutcome) (split : Bool) (meas : List Measurement) (s : State),
    let ms := inRecordOrder meas
    let r : ResultRecord := ⟨s.ten.recordNo, h, origin, outcome, split, ms, loopOf s.cfg.cable ms, verdictOf ms, false⟩
    let wrote (log : List ResultRecord) (lost : Nat) (o : Orh) : State := { s with
      ten := { s.ten with log := log ++ [r], lost := lost, recordNo := (s.ten.recordNo + 1) % 256 }
      orh := o.offer (.testDone s.ten.recordNo h outcome (verdictOf ms)) }
    (s.ten.log.length < 16 → s.writeRecord h origin outcome split meas = wrote s.ten.log s.ten.lost s.orh) ∧
    (16 ≤ s.ten.log.length → (∃ x ∈ s.ten.log, x.read = true) →
      s.writeRecord h origin outcome split meas = wrote (s.ten.log.eraseP fun x => x.read) s.ten.lost s.orh) ∧
    ∀ x q, s.ten.log = x :: q → 16 ≤ s.ten.log.length → (∀ y ∈ s.ten.log, y.read = false) →
      s.writeRecord h origin outcome split meas =
        wrote q (sat32 s.ten.lost 1) (s.orh.offer (.resultsLost x.number))

/-! ## Power -/

/-- The power lines and the timers (R106, R164, R169, R171, R174, R177 to R179): a fall of mains and an entry into
BATTERY_LOW make the power calculation and the fitting, with the second suspending a test; the return of mains withdraws
the allowance, sends FULL to every LOW or QUIET home and wakes every sleeping one whose group is not quiet; a wake over
its time is abandoned; an idle timer holds.
A fitting (R171 to R174) takes back the requests not taken yet (log 59), starts from A less P_sleep for each home that is
paid for, holds the test reserve if it is wanted and fits, grants the groups in their order, each home the first grant that
fits, and sends demotions and withdrawals, then raises, then wakes, the homes of no group last and in index order, the
passed-over homes with the outcome SLEEP (log 23); a holding test for which A has no room is suspended
(R164). Costs follow R170, for the states that the requests sent bring about (log 7). -/
def Obligations.PowerLinesDriveTheFitting : Prop :=
  (∀ (h : HomeId) (s : State),
    let f : State := { s with out := [] }
    let ends (i : Instr) (u : State) : Prop := exec i s = .next (State.settle s u)
    let fallen : State := { f with pins := { s.pins with mainsOk := false } }
    let low : State := { f with pins := { s.pins with battLow := true } }
    let r := f.recall
    let q := r.bhu.wakeQ ++ homeIds.filter fun k => decide (s.service k = .sleep ∧ k ∉ r.bhu.wakeQ)
    let quiet (k : HomeId) : Bool := (s.ten.quietEnds.at (s.home k).group).isSome
    ends .mainsOkFall (
      if s.pins.mainsOk = false then f
      else if s.pins.battLow = true then (fallen.suspend .power).powerRound
      else fallen.powerRound) ∧
    ends .battLowRise (
      if s.pins.battLow = true ∨ s.pins.mainsOk = true then low else (low.suspend .power).powerRound) ∧
    ends .battLowFall { f with pins := { s.pins with battLow := false } } ∧
    ends .mainsOkRise (
      if s.pins.mainsOk = true then f
      else { f with
        pins := { s.pins with mainsOk := true }
        shc := { s.shc with a := none }
        bhu := { s.bhu with
          reserve := false
          wakeQ := q.filter quiet
          requests := (s.bhu.requests.filter fun x => x.1 == .abandon) ++
            ((homeIds.filter fun k => decide (s.service k = .upLow ∨ s.service k = .quiet)).map fun k => (.full, k)) ++
            (q.filter fun k => !quiet k).map fun k => (.wake, k) } }) ∧
    ends (.wakeTimeLimit h) (
      if s.bhu.wakeSince.at h = none then f
      else { f with bhu := { s.bhu with
        requests := s.bhu.requests ++ [(.abandon, h)], wakeSince := s.bhu.wakeSince.put h none } }) ∧
    ends (.idleTimerExpiry h) { f with bhu := { s.bhu with lastTraffic := s.bhu.lastTraffic.put h none } }) ∧
  (∀ s : State,
    let p := s.powerCalc
    let a := p.shc.a.getD 0
    let fitted := p.fit a
    s.powerRound =
      if fitted.power = .battery ∧ fitted.shc.a.getD 0 < fitted.floor + fitted.cfg.pTest then fitted.suspend .power
      else fitted) ∧
  (∀ (a : Nat) (s : State),
    let unwoken := ((s.bhu.requests.filterMap fun x => if x.1 = .wake then some x.2 else none).eraseDups).filter
      fun h => decide (s.service h = .sleep ∧ h ∉ s.bhu.wakeQ)
    let r : State := { s with bhu := { s.bhu with
      requests := s.bhu.requests.filter fun x => x.1 == .abandon, wakeQ := unwoken ++ s.bhu.wakeQ } }
    let x := r.fitting a
    let sent := r.fittingRequests x
    s.recall = r ∧
    s.fit a = { s with bhu := { s.bhu with
      outcome := x.outcome, reserve := x.reserve, remaining := x.remaining, batch := []
      requests := r.bhu.requests ++ sent
      wakeQ := r.bhu.wakeQ.filter fun h => decide ((ModeRequest.wake, h) ∉ sent) } }) ∧
  (∀ (a : Nat) (s : State),
    let homesIn (st : Service) : List HomeId := homeIds.filter fun h => decide (s.service h = st)
    let paid (st : Service) : Prop := st = .upFull ∨ st = .upLow ∨ st = .sleep ∨ st = .waking ∨ st = .quiet ∨ st = .training
    let floor := s.cfg.pSleep * (homeIds.filter fun h => decide (paid (s.service h))).length
    let toFull := s.cfg.pFull - s.cfg.pSleep
    let toLow := s.cfg.pLow - s.cfg.pSleep
    let tested : Prop := s.ten.state = .connecting ∨ s.ten.state = .measuring ∨
      ∃ e, s.ten.queue.head? = some e ∧ s.storm = false ∧ s.pvw.stuck = false ∧ s.service e.home ≠ .adminDown
    let reserve : Prop := s.power ≠ .batteryLow ∧ tested ∧ s.cfg.pTest ≤ a - floor
    let first : List HomeId :=
      if s.power = .batteryLow then []
      else homesIn .training ++ homesIn .waking ++
        s.bhu.wakeQ.filter fun h => decide (s.ten.quietEnds.at (s.home h).group = none)
    let start : Tab 8 (Option Mode) := Tab.make fun h => if paid (s.service h) then some .sleep else none
    let one (offers : List Offer) (hs : List HomeId) (g : Tab 8 (Option Mode) × Nat) := hs.foldl (grantHome offers) g
    let grants := one (if s.power = .batteryLow then [(.low, toLow)] else [(.full, toFull), (.low, toLow)]) s.candidates
      (one [(.full, toFull)] first (start, if reserve then a - floor - s.cfg.pTest else a - floor))
    s.fitting a = ⟨grants.1, decide reserve, grants.2⟩ ∧
    (∀ h, h ∈ s.candidates ↔ (s.service h = .upFull ∨ s.service h = .upLow ∨ s.service h = .quiet) ∧
      if s.power = .batteryLow then (s.home h).prio = true else s.idleSeconds h < 30) ∧
    (let w (h : HomeId) : Nat := (s.ups.homes.at h).eff
     s.candidates.Pairwise fun h k => w k < w h ∨ (w h = w k ∧ h < k)) ∧
    ∀ x : Fitting,
      let before := homesIn .training ++ homesIn .waking ++ s.candidates
      let order := before ++ homeIds.filter fun h => decide (h ∉ before)
      let send (g : Service → Option Mode → Option Mode → Option ModeRequest) : List (ModeRequest × HomeId) :=
        order.filterMap fun h => (g (s.service h) (s.home h).ret (x.outcome.at h)).map fun r => (r, h)
      s.fittingRequests x = send loweringRequest ++ send raisingRequest ++
        if s.power = .batteryLow then []
        else (s.bhu.wakeQ.filter fun h =>
          decide (s.ten.quietEnds.at (s.home h).group = none ∧ x.outcome.at h = some .full)).map fun h => (.wake, h)) ∧
  (∀ (m : Mode) (c : Nat) (offers : List Offer) (g : Tab 8 (Option Mode) × Nat) (h : HomeId),
    grantHome [] g h = (g.1.put h (some .sleep), g.2) ∧
    grantHome ((m, c) :: offers) g h =
      if c ≤ g.2 then (g.1.put h (some m), g.2 - c) else grantHome offers g h) ∧
  (∀ (st : Service) (ret grant : Option Mode) (r : ModeRequest),
    (loweringRequest st ret grant = some r ↔
      (r = .low ∧ grant = some .low ∧ (st = .upFull ∨ (st = .quiet ∧ ret ≠ some .low ∧ ret ≠ some .sleep))) ∨
      (r = .sleep ∧ grant = some .sleep ∧
        (st = .training ∨ st = .upFull ∨ st = .upLow ∨ (st = .quiet ∧ ret ≠ some .sleep))) ∨
      (r = .withdraw ∧ grant = some .sleep ∧ st = .waking)) ∧
    (raisingRequest st ret grant = some r ↔
      (r = .full ∧ grant = some .full ∧ (st = .upLow ∨ (st = .quiet ∧ ret ≠ some .full))) ∨
      (r = .low ∧ grant = some .low ∧ st = .quiet ∧ ret = some .sleep))) ∧
  ∀ (h : HomeId) (s : State) (st : Service) (ret : Option Mode),
    let cost (m : Mode) : Nat := match m with | .full => s.cfg.pFull | .low => s.cfg.pLow | .sleep => s.cfg.pSleep
    let left := s.bhu.requests.foldl (fun p r => if r.2 = h then applyRequest r.1 p else p) (s.service h, (s.home h).ret)
    s.cfg.homeCost st ret =
      (if st = .upFull ∨ st = .waking ∨ st = .training then s.cfg.pFull
      else if st = .upLow then s.cfg.pLow
      else if st = .sleep then s.cfg.pSleep
      else if st = .quiet then cost (ret.getD .full)
      else 0) ∧
    s.lineCost = (homeIds.map fun k => s.cfg.homeCost (s.service k) (s.home k).ret).sum ∧
    s.costLeft h = s.cfg.homeCost left.1 left.2 ∧ s.lineCostLeft = (homeIds.map s.costLeft).sum ∧
    ∀ r : ModeRequest, applyRequest r (st, ret) =
      if r = .full ∧ st = .upLow then (.upFull, ret)
      else if r = .full ∧ st = .quiet then (.quiet, some .full)
      else if r = .low ∧ st = .upFull then (.upLow, ret)
      else if r = .low ∧ st = .quiet then (.quiet, some .low)
      else if r = .sleep ∧ (st = .upFull ∨ st = .upLow ∨ st = .training) then (.sleep, none)
      else if r = .sleep ∧ st = .quiet then (.quiet, some .sleep)
      else if r = .wake ∧ st = .sleep then (.waking, ret)
      else if r = .withdraw ∧ (st = .waking ∨ st = .upFull) then (.sleep, none)
      else (st, ret)

/-! ## Invariants: each holds after reset and is kept by every step -/

/-- The state after reset meets every invariant of this section. -/
def Obligations.InvariantsHoldAfterReset : Prop :=
  let s := State.reset
  (CellsBalance s ∧ PauseFollowsFreeCount s ∧ CreditBounded s ∧ WeightsBounded s ∧ ShapedRateBounded s) ∧
  (ReportQueueBounded s ∧ TestQueueBounded s ∧ BuffersBounded s ∧ ResultsLogBounded s ∧ SpentCountBounded s) ∧
  (PeerViewOrdered s ∧ AddressTableDistinct s ∧ GatewayQueuesOnlyAtGateway s) ∧
  (HomeFieldsFitState s ∧ HeldHomeIsUnderTest s ∧ RelayOnlyUnderTest s ∧ ClosedHomesHoldNoFrames s) ∧
  WakeQueueSleeps s ∧ AllowanceOnBatteryOnly s ∧ SpendingWithinAllowance s

/-- Every cell is free or held by one frame, 2048 in all, and the pause follows the free count (R24, R32, R35). -/
def Obligations.CellsBalanceKept : Prop := KeptByEveryStep CellsBalance ∧ KeptByEveryStep PauseFollowsFreeCount

/-- The upstream credit stays between -1536 and the bucket depth (R113). -/
def Obligations.CreditBoundKept : Prop := KeptByEveryStep CreditBounded

/-- The queues, buffers and logs stay within their sizes, reserved entries included (R59, R63, R66, R140, R143, R149,
R166, R167, R181, R184). -/
def Obligations.BuffersStayWithinSizes : Prop :=
  KeptByEveryStep ReportQueueBounded ∧ KeptByEveryStep TestQueueBounded ∧ KeptByEveryStep BuffersBounded ∧
    KeptByEveryStep ResultsLogBounded ∧ KeptByEveryStep SpentCountBounded

/-- The peer view stays ordered, without the own ID, with ages 0 to 3 (R90, R91); the address table keeps distinct
unicast addresses and distinct numbers (R134); only the active gateway holds gateway queues and tables (R26, R42,
R146). -/
def Obligations.ViewAndTablesStayConsistent : Prop :=
  KeptByEveryStep PeerViewOrdered ∧ KeptByEveryStep AddressTableDistinct ∧ KeptByEveryStep GatewayQueuesOnlyAtGateway

/-- A home's fields fit its service state, a home in TEST_HELD is the home under test, and a relay is closed only for it,
in CONNECTING or MEASURING with STORM not asserted (R1, R2, R11, R18, R21, R22); a home in TEST_HELD, ADMIN_DOWN or
UNEQUIPPED has no frame queued (R14). -/
def Obligations.HomesFitTheirStates : Prop :=
  KeptByEveryStep (fun s => HomeFieldsFitState s ∧ HeldHomeIsUnderTest s ∧ RelayOnlyUnderTest s) ∧
    KeptByEveryStep ClosedHomesHoldNoFrames

/-- The wake queue holds distinct homes, all in SLEEP (R176), and the allowance is present on battery only (R97, R106,
R108). -/
def Obligations.WakeQueueAndAllowanceKept : Prop :=
  KeptByEveryStep WakeQueueSleeps ∧ KeptByEveryStep AllowanceOnBatteryOnly

/-- On battery the homes' costs, for the states that the requests sent bring about (log 7), with P_test while a test is in
CONNECTING or MEASURING, stay within the allowance (section 10.2, R170 to R175). The steps in which a raise that the unit
has not sent arrives are left out, and those that leave a withdrawal waiting for a home in QUIET (log 61). -/
def Obligations.SpendingStaysWithinAllowance : Prop :=
  ∀ s t : State, SpendingWithinAllowance s → RaisesAreSent s → step s = .next t → NoWithdrawalOvertakenByQuiet t →
    SpendingWithinAllowance t

/-- Every effective weight stays between 1 and the tier weight (R111, R125, R127), and the shaped rate between 0 and the
lesser of K and the capacity last used (R105). -/
def Obligations.WeightsAndRateBounded : Prop := KeptByEveryStep WeightsBounded ∧ KeptByEveryStep ShapedRateBounded

end
end

