-- ==== Sys2Proof/Laws/State.lean ====
section
/-! SUPPORT. The frame of every shared operation, field by field: what an operation does not write is unchanged. Each
is true by definition. -/

namespace Sys2Proof.Machine

/-! ### fresh -/

@[simp] theorem State.fresh_pins (s : State) : (s.fresh).pins = s.pins := rfl
@[simp] theorem State.fresh_cfg (s : State) : (s.fresh).cfg = s.cfg := rfl
@[simp] theorem State.fresh_now (s : State) : (s.fresh).now = s.now := rfl
@[simp] theorem State.fresh_lpb (s : State) : (s.fresh).lpb = s.lpb := rfl
@[simp] theorem State.fresh_ffu (s : State) : (s.fresh).ffu = s.ffu := rfl
@[simp] theorem State.fresh_cqm (s : State) : (s.fresh).cqm = s.cqm := rfl
@[simp] theorem State.fresh_cbi (s : State) : (s.fresh).cbi = s.cbi := rfl
@[simp] theorem State.fresh_pvw (s : State) : (s.fresh).pvw = s.pvw := rfl
@[simp] theorem State.fresh_shc (s : State) : (s.fresh).shc = s.shc := rfl
@[simp] theorem State.fresh_ups (s : State) : (s.fresh).ups = s.ups := rfl
@[simp] theorem State.fresh_gwu (s : State) : (s.fresh).gwu = s.gwu := rfl
@[simp] theorem State.fresh_ten (s : State) : (s.fresh).ten = s.ten := rfl
@[simp] theorem State.fresh_bhu (s : State) : (s.fresh).bhu = s.bhu := rfl
@[simp] theorem State.fresh_orh (s : State) : (s.fresh).orh = s.orh := rfl
@[simp] theorem State.fresh_pending (s : State) : (s.fresh).pending = s.pending := rfl

/-! ### emit -/

@[simp] theorem State.emit_pins (ps : List Pulse) (s : State) : (s.emit ps).pins = s.pins := rfl
@[simp] theorem State.emit_cfg (ps : List Pulse) (s : State) : (s.emit ps).cfg = s.cfg := rfl
@[simp] theorem State.emit_now (ps : List Pulse) (s : State) : (s.emit ps).now = s.now := rfl
@[simp] theorem State.emit_lpb (ps : List Pulse) (s : State) : (s.emit ps).lpb = s.lpb := rfl
@[simp] theorem State.emit_ffu (ps : List Pulse) (s : State) : (s.emit ps).ffu = s.ffu := rfl
@[simp] theorem State.emit_cqm (ps : List Pulse) (s : State) : (s.emit ps).cqm = s.cqm := rfl
@[simp] theorem State.emit_cbi (ps : List Pulse) (s : State) : (s.emit ps).cbi = s.cbi := rfl
@[simp] theorem State.emit_pvw (ps : List Pulse) (s : State) : (s.emit ps).pvw = s.pvw := rfl
@[simp] theorem State.emit_shc (ps : List Pulse) (s : State) : (s.emit ps).shc = s.shc := rfl
@[simp] theorem State.emit_ups (ps : List Pulse) (s : State) : (s.emit ps).ups = s.ups := rfl
@[simp] theorem State.emit_gwu (ps : List Pulse) (s : State) : (s.emit ps).gwu = s.gwu := rfl
@[simp] theorem State.emit_ten (ps : List Pulse) (s : State) : (s.emit ps).ten = s.ten := rfl
@[simp] theorem State.emit_bhu (ps : List Pulse) (s : State) : (s.emit ps).bhu = s.bhu := rfl
@[simp] theorem State.emit_orh (ps : List Pulse) (s : State) : (s.emit ps).orh = s.orh := rfl
@[simp] theorem State.emit_pending (ps : List Pulse) (s : State) : (s.emit ps).pending = s.pending := rfl

/-! ### strobe -/

@[simp] theorem State.strobe_pins (w : Word) (s : State) : (s.strobe w).pins = s.pins := rfl
@[simp] theorem State.strobe_cfg (w : Word) (s : State) : (s.strobe w).cfg = s.cfg := rfl
@[simp] theorem State.strobe_now (w : Word) (s : State) : (s.strobe w).now = s.now := rfl
@[simp] theorem State.strobe_lpb (w : Word) (s : State) : (s.strobe w).lpb = s.lpb := rfl
@[simp] theorem State.strobe_ffu (w : Word) (s : State) : (s.strobe w).ffu = s.ffu := rfl
@[simp] theorem State.strobe_cqm (w : Word) (s : State) : (s.strobe w).cqm = s.cqm := rfl
@[simp] theorem State.strobe_cbi (w : Word) (s : State) : (s.strobe w).cbi = s.cbi := rfl
@[simp] theorem State.strobe_pvw (w : Word) (s : State) : (s.strobe w).pvw = s.pvw := rfl
@[simp] theorem State.strobe_shc (w : Word) (s : State) : (s.strobe w).shc = s.shc := rfl
@[simp] theorem State.strobe_ups (w : Word) (s : State) : (s.strobe w).ups = s.ups := rfl
@[simp] theorem State.strobe_gwu (w : Word) (s : State) : (s.strobe w).gwu = s.gwu := rfl
@[simp] theorem State.strobe_ten (w : Word) (s : State) : (s.strobe w).ten = s.ten := rfl
@[simp] theorem State.strobe_bhu (w : Word) (s : State) : (s.strobe w).bhu = s.bhu := rfl
@[simp] theorem State.strobe_orh (w : Word) (s : State) : (s.strobe w).orh = s.orh := rfl
@[simp] theorem State.strobe_pending (w : Word) (s : State) : (s.strobe w).pending = s.pending := rfl

/-! ### updHome -/

@[simp] theorem State.updHome_pins (h : HomeId) (f : Home → Home) (s : State) : (s.updHome h f).pins = s.pins := rfl
@[simp] theorem State.updHome_cfg (h : HomeId) (f : Home → Home) (s : State) : (s.updHome h f).cfg = s.cfg := rfl
@[simp] theorem State.updHome_now (h : HomeId) (f : Home → Home) (s : State) : (s.updHome h f).now = s.now := rfl
@[simp] theorem State.updHome_ffu (h : HomeId) (f : Home → Home) (s : State) : (s.updHome h f).ffu = s.ffu := rfl
@[simp] theorem State.updHome_cqm (h : HomeId) (f : Home → Home) (s : State) : (s.updHome h f).cqm = s.cqm := rfl
@[simp] theorem State.updHome_cbi (h : HomeId) (f : Home → Home) (s : State) : (s.updHome h f).cbi = s.cbi := rfl
@[simp] theorem State.updHome_pvw (h : HomeId) (f : Home → Home) (s : State) : (s.updHome h f).pvw = s.pvw := rfl
@[simp] theorem State.updHome_shc (h : HomeId) (f : Home → Home) (s : State) : (s.updHome h f).shc = s.shc := rfl
@[simp] theorem State.updHome_ups (h : HomeId) (f : Home → Home) (s : State) : (s.updHome h f).ups = s.ups := rfl
@[simp] theorem State.updHome_gwu (h : HomeId) (f : Home → Home) (s : State) : (s.updHome h f).gwu = s.gwu := rfl
@[simp] theorem State.updHome_ten (h : HomeId) (f : Home → Home) (s : State) : (s.updHome h f).ten = s.ten := rfl
@[simp] theorem State.updHome_bhu (h : HomeId) (f : Home → Home) (s : State) : (s.updHome h f).bhu = s.bhu := rfl
@[simp] theorem State.updHome_orh (h : HomeId) (f : Home → Home) (s : State) : (s.updHome h f).orh = s.orh := rfl
@[simp] theorem State.updHome_out (h : HomeId) (f : Home → Home) (s : State) : (s.updHome h f).out = s.out := rfl
@[simp] theorem State.updHome_pending (h : HomeId) (f : Home → Home) (s : State) :
    (s.updHome h f).pending = s.pending := rfl

/-! ### count -/

@[simp] theorem State.count_pins (h : HomeId) (f : HomeCounters → HomeCounters) (s : State) :
    (s.count h f).pins = s.pins := rfl
@[simp] theorem State.count_cfg (h : HomeId) (f : HomeCounters → HomeCounters) (s : State) :
    (s.count h f).cfg = s.cfg := rfl
@[simp] theorem State.count_now (h : HomeId) (f : HomeCounters → HomeCounters) (s : State) :
    (s.count h f).now = s.now := rfl
@[simp] theorem State.count_ffu (h : HomeId) (f : HomeCounters → HomeCounters) (s : State) :
    (s.count h f).ffu = s.ffu := rfl
@[simp] theorem State.count_cqm (h : HomeId) (f : HomeCounters → HomeCounters) (s : State) :
    (s.count h f).cqm = s.cqm := rfl
@[simp] theorem State.count_cbi (h : HomeId) (f : HomeCounters → HomeCounters) (s : State) :
    (s.count h f).cbi = s.cbi := rfl
@[simp] theorem State.count_pvw (h : HomeId) (f : HomeCounters → HomeCounters) (s : State) :
    (s.count h f).pvw = s.pvw := rfl
@[simp] theorem State.count_shc (h : HomeId) (f : HomeCounters → HomeCounters) (s : State) :
    (s.count h f).shc = s.shc := rfl
@[simp] theorem State.count_ups (h : HomeId) (f : HomeCounters → HomeCounters) (s : State) :
    (s.count h f).ups = s.ups := rfl
@[simp] theorem State.count_gwu (h : HomeId) (f : HomeCounters → HomeCounters) (s : State) :
    (s.count h f).gwu = s.gwu := rfl
@[simp] theorem State.count_ten (h : HomeId) (f : HomeCounters → HomeCounters) (s : State) :
    (s.count h f).ten = s.ten := rfl
@[simp] theorem State.count_bhu (h : HomeId) (f : HomeCounters → HomeCounters) (s : State) :
    (s.count h f).bhu = s.bhu := rfl
@[simp] theorem State.count_orh (h : HomeId) (f : HomeCounters → HomeCounters) (s : State) :
    (s.count h f).orh = s.orh := rfl
@[simp] theorem State.count_out (h : HomeId) (f : HomeCounters → HomeCounters) (s : State) :
    (s.count h f).out = s.out := rfl
@[simp] theorem State.count_pending (h : HomeId) (f : HomeCounters → HomeCounters) (s : State) :
    (s.count h f).pending = s.pending := rfl

/-! ### offer -/

@[simp] theorem State.offer_pins (e : Event) (s : State) : (s.offer e).pins = s.pins := rfl
@[simp] theorem State.offer_cfg (e : Event) (s : State) : (s.offer e).cfg = s.cfg := rfl
@[simp] theorem State.offer_now (e : Event) (s : State) : (s.offer e).now = s.now := rfl
@[simp] theorem State.offer_lpb (e : Event) (s : State) : (s.offer e).lpb = s.lpb := rfl
@[simp] theorem State.offer_ffu (e : Event) (s : State) : (s.offer e).ffu = s.ffu := rfl
@[simp] theorem State.offer_cqm (e : Event) (s : State) : (s.offer e).cqm = s.cqm := rfl
@[simp] theorem State.offer_cbi (e : Event) (s : State) : (s.offer e).cbi = s.cbi := rfl
@[simp] theorem State.offer_pvw (e : Event) (s : State) : (s.offer e).pvw = s.pvw := rfl
@[simp] theorem State.offer_shc (e : Event) (s : State) : (s.offer e).shc = s.shc := rfl
@[simp] theorem State.offer_ups (e : Event) (s : State) : (s.offer e).ups = s.ups := rfl
@[simp] theorem State.offer_gwu (e : Event) (s : State) : (s.offer e).gwu = s.gwu := rfl
@[simp] theorem State.offer_ten (e : Event) (s : State) : (s.offer e).ten = s.ten := rfl
@[simp] theorem State.offer_bhu (e : Event) (s : State) : (s.offer e).bhu = s.bhu := rfl
@[simp] theorem State.offer_out (e : Event) (s : State) : (s.offer e).out = s.out := rfl
@[simp] theorem State.offer_pending (e : Event) (s : State) : (s.offer e).pending = s.pending := rfl

/-! ### offerAll -/

@[simp] theorem State.offerAll_pins (es : List Event) (s : State) : (s.offerAll es).pins = s.pins := rfl
@[simp] theorem State.offerAll_cfg (es : List Event) (s : State) : (s.offerAll es).cfg = s.cfg := rfl
@[simp] theorem State.offerAll_now (es : List Event) (s : State) : (s.offerAll es).now = s.now := rfl
@[simp] theorem State.offerAll_lpb (es : List Event) (s : State) : (s.offerAll es).lpb = s.lpb := rfl
@[simp] theorem State.offerAll_ffu (es : List Event) (s : State) : (s.offerAll es).ffu = s.ffu := rfl
@[simp] theorem State.offerAll_cqm (es : List Event) (s : State) : (s.offerAll es).cqm = s.cqm := rfl
@[simp] theorem State.offerAll_cbi (es : List Event) (s : State) : (s.offerAll es).cbi = s.cbi := rfl
@[simp] theorem State.offerAll_pvw (es : List Event) (s : State) : (s.offerAll es).pvw = s.pvw := rfl
@[simp] theorem State.offerAll_shc (es : List Event) (s : State) : (s.offerAll es).shc = s.shc := rfl
@[simp] theorem State.offerAll_ups (es : List Event) (s : State) : (s.offerAll es).ups = s.ups := rfl
@[simp] theorem State.offerAll_gwu (es : List Event) (s : State) : (s.offerAll es).gwu = s.gwu := rfl
@[simp] theorem State.offerAll_ten (es : List Event) (s : State) : (s.offerAll es).ten = s.ten := rfl
@[simp] theorem State.offerAll_bhu (es : List Event) (s : State) : (s.offerAll es).bhu = s.bhu := rfl
@[simp] theorem State.offerAll_out (es : List Event) (s : State) : (s.offerAll es).out = s.out := rfl
@[simp] theorem State.offerAll_pending (es : List Event) (s : State) : (s.offerAll es).pending = s.pending := rfl

/-! ### alloc -/

@[simp] theorem State.alloc_pins (n : Nat) (s : State) : (s.alloc n).pins = s.pins := rfl
@[simp] theorem State.alloc_cfg (n : Nat) (s : State) : (s.alloc n).cfg = s.cfg := rfl
@[simp] theorem State.alloc_now (n : Nat) (s : State) : (s.alloc n).now = s.now := rfl
@[simp] theorem State.alloc_lpb (n : Nat) (s : State) : (s.alloc n).lpb = s.lpb := rfl
@[simp] theorem State.alloc_ffu (n : Nat) (s : State) : (s.alloc n).ffu = s.ffu := rfl
@[simp] theorem State.alloc_cbi (n : Nat) (s : State) : (s.alloc n).cbi = s.cbi := rfl
@[simp] theorem State.alloc_pvw (n : Nat) (s : State) : (s.alloc n).pvw = s.pvw := rfl
@[simp] theorem State.alloc_shc (n : Nat) (s : State) : (s.alloc n).shc = s.shc := rfl
@[simp] theorem State.alloc_ups (n : Nat) (s : State) : (s.alloc n).ups = s.ups := rfl
@[simp] theorem State.alloc_gwu (n : Nat) (s : State) : (s.alloc n).gwu = s.gwu := rfl
@[simp] theorem State.alloc_ten (n : Nat) (s : State) : (s.alloc n).ten = s.ten := rfl
@[simp] theorem State.alloc_bhu (n : Nat) (s : State) : (s.alloc n).bhu = s.bhu := rfl
@[simp] theorem State.alloc_out (n : Nat) (s : State) : (s.alloc n).out = s.out := rfl
@[simp] theorem State.alloc_pending (n : Nat) (s : State) : (s.alloc n).pending = s.pending := rfl

/-! ### release -/

@[simp] theorem State.release_pins (n : Nat) (s : State) : (s.release n).pins = s.pins := rfl
@[simp] theorem State.release_cfg (n : Nat) (s : State) : (s.release n).cfg = s.cfg := rfl
@[simp] theorem State.release_now (n : Nat) (s : State) : (s.release n).now = s.now := rfl
@[simp] theorem State.release_lpb (n : Nat) (s : State) : (s.release n).lpb = s.lpb := rfl
@[simp] theorem State.release_ffu (n : Nat) (s : State) : (s.release n).ffu = s.ffu := rfl
@[simp] theorem State.release_cbi (n : Nat) (s : State) : (s.release n).cbi = s.cbi := rfl
@[simp] theorem State.release_pvw (n : Nat) (s : State) : (s.release n).pvw = s.pvw := rfl
@[simp] theorem State.release_shc (n : Nat) (s : State) : (s.release n).shc = s.shc := rfl
@[simp] theorem State.release_ups (n : Nat) (s : State) : (s.release n).ups = s.ups := rfl
@[simp] theorem State.release_gwu (n : Nat) (s : State) : (s.release n).gwu = s.gwu := rfl
@[simp] theorem State.release_ten (n : Nat) (s : State) : (s.release n).ten = s.ten := rfl
@[simp] theorem State.release_bhu (n : Nat) (s : State) : (s.release n).bhu = s.bhu := rfl
@[simp] theorem State.release_orh (n : Nat) (s : State) : (s.release n).orh = s.orh := rfl
@[simp] theorem State.release_out (n : Nat) (s : State) : (s.release n).out = s.out := rfl
@[simp] theorem State.release_pending (n : Nat) (s : State) : (s.release n).pending = s.pending := rfl

/-! ### freeUp -/

@[simp] theorem State.freeUp_pins (r : UpDrop) (h : HomeId) (s : State) : (s.freeUp r h).pins = s.pins := rfl
@[simp] theorem State.freeUp_cfg (r : UpDrop) (h : HomeId) (s : State) : (s.freeUp r h).cfg = s.cfg := rfl
@[simp] theorem State.freeUp_now (r : UpDrop) (h : HomeId) (s : State) : (s.freeUp r h).now = s.now := rfl
@[simp] theorem State.freeUp_ffu (r : UpDrop) (h : HomeId) (s : State) : (s.freeUp r h).ffu = s.ffu := rfl
@[simp] theorem State.freeUp_cbi (r : UpDrop) (h : HomeId) (s : State) : (s.freeUp r h).cbi = s.cbi := rfl
@[simp] theorem State.freeUp_pvw (r : UpDrop) (h : HomeId) (s : State) : (s.freeUp r h).pvw = s.pvw := rfl
@[simp] theorem State.freeUp_shc (r : UpDrop) (h : HomeId) (s : State) : (s.freeUp r h).shc = s.shc := rfl
@[simp] theorem State.freeUp_gwu (r : UpDrop) (h : HomeId) (s : State) : (s.freeUp r h).gwu = s.gwu := rfl
@[simp] theorem State.freeUp_ten (r : UpDrop) (h : HomeId) (s : State) : (s.freeUp r h).ten = s.ten := rfl
@[simp] theorem State.freeUp_bhu (r : UpDrop) (h : HomeId) (s : State) : (s.freeUp r h).bhu = s.bhu := rfl
@[simp] theorem State.freeUp_orh (r : UpDrop) (h : HomeId) (s : State) : (s.freeUp r h).orh = s.orh := rfl
@[simp] theorem State.freeUp_out (r : UpDrop) (h : HomeId) (s : State) : (s.freeUp r h).out = s.out := rfl
@[simp] theorem State.freeUp_pending (r : UpDrop) (h : HomeId) (s : State) : (s.freeUp r h).pending = s.pending := rfl

/-! ### freeDown -/

@[simp] theorem State.freeDown_pins (r : DownDrop) (h : HomeId) (s : State) : (s.freeDown r h).pins = s.pins := rfl
@[simp] theorem State.freeDown_cfg (r : DownDrop) (h : HomeId) (s : State) : (s.freeDown r h).cfg = s.cfg := rfl
@[simp] theorem State.freeDown_now (r : DownDrop) (h : HomeId) (s : State) : (s.freeDown r h).now = s.now := rfl
@[simp] theorem State.freeDown_ffu (r : DownDrop) (h : HomeId) (s : State) : (s.freeDown r h).ffu = s.ffu := rfl
@[simp] theorem State.freeDown_cbi (r : DownDrop) (h : HomeId) (s : State) : (s.freeDown r h).cbi = s.cbi := rfl
@[simp] theorem State.freeDown_pvw (r : DownDrop) (h : HomeId) (s : State) : (s.freeDown r h).pvw = s.pvw := rfl
@[simp] theorem State.freeDown_shc (r : DownDrop) (h : HomeId) (s : State) : (s.freeDown r h).shc = s.shc := rfl
@[simp] theorem State.freeDown_ups (r : DownDrop) (h : HomeId) (s : State) : (s.freeDown r h).ups = s.ups := rfl
@[simp] theorem State.freeDown_gwu (r : DownDrop) (h : HomeId) (s : State) : (s.freeDown r h).gwu = s.gwu := rfl
@[simp] theorem State.freeDown_ten (r : DownDrop) (h : HomeId) (s : State) : (s.freeDown r h).ten = s.ten := rfl
@[simp] theorem State.freeDown_bhu (r : DownDrop) (h : HomeId) (s : State) : (s.freeDown r h).bhu = s.bhu := rfl
@[simp] theorem State.freeDown_orh (r : DownDrop) (h : HomeId) (s : State) : (s.freeDown r h).orh = s.orh := rfl
@[simp] theorem State.freeDown_out (r : DownDrop) (h : HomeId) (s : State) : (s.freeDown r h).out = s.out := rfl
@[simp] theorem State.freeDown_pending (r : DownDrop) (h : HomeId) (s : State) :
    (s.freeDown r h).pending = s.pending := rfl

/-! ### moveTo -/

@[simp] theorem State.moveTo_pins (st : Service) (h : HomeId) (s : State) : (s.moveTo st h).pins = s.pins := rfl
@[simp] theorem State.moveTo_cfg (st : Service) (h : HomeId) (s : State) : (s.moveTo st h).cfg = s.cfg := rfl
@[simp] theorem State.moveTo_now (st : Service) (h : HomeId) (s : State) : (s.moveTo st h).now = s.now := rfl
@[simp] theorem State.moveTo_cqm (st : Service) (h : HomeId) (s : State) : (s.moveTo st h).cqm = s.cqm := rfl
@[simp] theorem State.moveTo_cbi (st : Service) (h : HomeId) (s : State) : (s.moveTo st h).cbi = s.cbi := rfl
@[simp] theorem State.moveTo_pvw (st : Service) (h : HomeId) (s : State) : (s.moveTo st h).pvw = s.pvw := rfl
@[simp] theorem State.moveTo_shc (st : Service) (h : HomeId) (s : State) : (s.moveTo st h).shc = s.shc := rfl
@[simp] theorem State.moveTo_ups (st : Service) (h : HomeId) (s : State) : (s.moveTo st h).ups = s.ups := rfl
@[simp] theorem State.moveTo_gwu (st : Service) (h : HomeId) (s : State) : (s.moveTo st h).gwu = s.gwu := rfl
@[simp] theorem State.moveTo_ten (st : Service) (h : HomeId) (s : State) : (s.moveTo st h).ten = s.ten := rfl
@[simp] theorem State.moveTo_orh (st : Service) (h : HomeId) (s : State) : (s.moveTo st h).orh = s.orh := rfl
@[simp] theorem State.moveTo_out (st : Service) (h : HomeId) (s : State) : (s.moveTo st h).out = s.out := rfl
@[simp] theorem State.moveTo_pending (st : Service) (h : HomeId) (s : State) :
    (s.moveTo st h).pending = s.pending := rfl

/-! ### toSleep -/

@[simp] theorem State.toSleep_pins (h : HomeId) (s : State) : (s.toSleep h).pins = s.pins := rfl
@[simp] theorem State.toSleep_cfg (h : HomeId) (s : State) : (s.toSleep h).cfg = s.cfg := rfl
@[simp] theorem State.toSleep_now (h : HomeId) (s : State) : (s.toSleep h).now = s.now := rfl
@[simp] theorem State.toSleep_cqm (h : HomeId) (s : State) : (s.toSleep h).cqm = s.cqm := rfl
@[simp] theorem State.toSleep_cbi (h : HomeId) (s : State) : (s.toSleep h).cbi = s.cbi := rfl
@[simp] theorem State.toSleep_pvw (h : HomeId) (s : State) : (s.toSleep h).pvw = s.pvw := rfl
@[simp] theorem State.toSleep_shc (h : HomeId) (s : State) : (s.toSleep h).shc = s.shc := rfl
@[simp] theorem State.toSleep_ups (h : HomeId) (s : State) : (s.toSleep h).ups = s.ups := rfl
@[simp] theorem State.toSleep_gwu (h : HomeId) (s : State) : (s.toSleep h).gwu = s.gwu := rfl
@[simp] theorem State.toSleep_ten (h : HomeId) (s : State) : (s.toSleep h).ten = s.ten := rfl
@[simp] theorem State.toSleep_orh (h : HomeId) (s : State) : (s.toSleep h).orh = s.orh := rfl
@[simp] theorem State.toSleep_out (h : HomeId) (s : State) : (s.toSleep h).out = s.out := rfl
@[simp] theorem State.toSleep_pending (h : HomeId) (s : State) : (s.toSleep h).pending = s.pending := rfl

/-! ### enterDown -/

@[simp] theorem State.enterDown_pins (h : HomeId) (s : State) : (s.enterDown h).pins = s.pins := rfl
@[simp] theorem State.enterDown_cfg (h : HomeId) (s : State) : (s.enterDown h).cfg = s.cfg := rfl
@[simp] theorem State.enterDown_now (h : HomeId) (s : State) : (s.enterDown h).now = s.now := rfl
@[simp] theorem State.enterDown_ffu (h : HomeId) (s : State) : (s.enterDown h).ffu = s.ffu := rfl
@[simp] theorem State.enterDown_cbi (h : HomeId) (s : State) : (s.enterDown h).cbi = s.cbi := rfl
@[simp] theorem State.enterDown_pvw (h : HomeId) (s : State) : (s.enterDown h).pvw = s.pvw := rfl
@[simp] theorem State.enterDown_shc (h : HomeId) (s : State) : (s.enterDown h).shc = s.shc := rfl
@[simp] theorem State.enterDown_ups (h : HomeId) (s : State) : (s.enterDown h).ups = s.ups := rfl
@[simp] theorem State.enterDown_gwu (h : HomeId) (s : State) : (s.enterDown h).gwu = s.gwu := rfl
@[simp] theorem State.enterDown_ten (h : HomeId) (s : State) : (s.enterDown h).ten = s.ten := rfl
@[simp] theorem State.enterDown_orh (h : HomeId) (s : State) : (s.enterDown h).orh = s.orh := rfl
@[simp] theorem State.enterDown_out (h : HomeId) (s : State) : (s.enterDown h).out = s.out := rfl
@[simp] theorem State.enterDown_pending (h : HomeId) (s : State) : (s.enterDown h).pending = s.pending := rfl

/-! ### teardown -/

@[simp] theorem State.teardown_pins (up : UpDrop) (down : DownDrop) (h : HomeId) (s : State) :
    (s.teardown up down h).pins = s.pins := rfl
@[simp] theorem State.teardown_cfg (up : UpDrop) (down : DownDrop) (h : HomeId) (s : State) :
    (s.teardown up down h).cfg = s.cfg := rfl
@[simp] theorem State.teardown_now (up : UpDrop) (down : DownDrop) (h : HomeId) (s : State) :
    (s.teardown up down h).now = s.now := rfl
@[simp] theorem State.teardown_ffu (up : UpDrop) (down : DownDrop) (h : HomeId) (s : State) :
    (s.teardown up down h).ffu = s.ffu := rfl
@[simp] theorem State.teardown_cbi (up : UpDrop) (down : DownDrop) (h : HomeId) (s : State) :
    (s.teardown up down h).cbi = s.cbi := rfl
@[simp] theorem State.teardown_pvw (up : UpDrop) (down : DownDrop) (h : HomeId) (s : State) :
    (s.teardown up down h).pvw = s.pvw := rfl
@[simp] theorem State.teardown_shc (up : UpDrop) (down : DownDrop) (h : HomeId) (s : State) :
    (s.teardown up down h).shc = s.shc := rfl
@[simp] theorem State.teardown_gwu (up : UpDrop) (down : DownDrop) (h : HomeId) (s : State) :
    (s.teardown up down h).gwu = s.gwu := rfl
@[simp] theorem State.teardown_ten (up : UpDrop) (down : DownDrop) (h : HomeId) (s : State) :
    (s.teardown up down h).ten = s.ten := rfl
@[simp] theorem State.teardown_bhu (up : UpDrop) (down : DownDrop) (h : HomeId) (s : State) :
    (s.teardown up down h).bhu = s.bhu := rfl
@[simp] theorem State.teardown_orh (up : UpDrop) (down : DownDrop) (h : HomeId) (s : State) :
    (s.teardown up down h).orh = s.orh := rfl
@[simp] theorem State.teardown_out (up : UpDrop) (down : DownDrop) (h : HomeId) (s : State) :
    (s.teardown up down h).out = s.out := rfl
@[simp] theorem State.teardown_pending (up : UpDrop) (down : DownDrop) (h : HomeId) (s : State) :
    (s.teardown up down h).pending = s.pending := rfl

/-! ### hold -/

@[simp] theorem State.hold_pins (h : HomeId) (s : State) : (s.hold h).pins = s.pins := rfl
@[simp] theorem State.hold_cfg (h : HomeId) (s : State) : (s.hold h).cfg = s.cfg := rfl
@[simp] theorem State.hold_now (h : HomeId) (s : State) : (s.hold h).now = s.now := rfl
@[simp] theorem State.hold_ffu (h : HomeId) (s : State) : (s.hold h).ffu = s.ffu := rfl
@[simp] theorem State.hold_cbi (h : HomeId) (s : State) : (s.hold h).cbi = s.cbi := rfl
@[simp] theorem State.hold_pvw (h : HomeId) (s : State) : (s.hold h).pvw = s.pvw := rfl
@[simp] theorem State.hold_shc (h : HomeId) (s : State) : (s.hold h).shc = s.shc := rfl
@[simp] theorem State.hold_gwu (h : HomeId) (s : State) : (s.hold h).gwu = s.gwu := rfl
@[simp] theorem State.hold_ten (h : HomeId) (s : State) : (s.hold h).ten = s.ten := rfl
@[simp] theorem State.hold_orh (h : HomeId) (s : State) : (s.hold h).orh = s.orh := rfl
@[simp] theorem State.hold_out (h : HomeId) (s : State) : (s.hold h).out = s.out := rfl
@[simp] theorem State.hold_pending (h : HomeId) (s : State) : (s.hold h).pending = s.pending := rfl

/-! ### enterAdminDown -/

@[simp] theorem State.enterAdminDown_pins (h : HomeId) (s : State) : (s.enterAdminDown h).pins = s.pins := rfl
@[simp] theorem State.enterAdminDown_cfg (h : HomeId) (s : State) : (s.enterAdminDown h).cfg = s.cfg := rfl
@[simp] theorem State.enterAdminDown_now (h : HomeId) (s : State) : (s.enterAdminDown h).now = s.now := rfl
@[simp] theorem State.enterAdminDown_ffu (h : HomeId) (s : State) : (s.enterAdminDown h).ffu = s.ffu := rfl
@[simp] theorem State.enterAdminDown_cbi (h : HomeId) (s : State) : (s.enterAdminDown h).cbi = s.cbi := rfl
@[simp] theorem State.enterAdminDown_pvw (h : HomeId) (s : State) : (s.enterAdminDown h).pvw = s.pvw := rfl
@[simp] theorem State.enterAdminDown_shc (h : HomeId) (s : State) : (s.enterAdminDown h).shc = s.shc := rfl
@[simp] theorem State.enterAdminDown_gwu (h : HomeId) (s : State) : (s.enterAdminDown h).gwu = s.gwu := rfl
@[simp] theorem State.enterAdminDown_ten (h : HomeId) (s : State) : (s.enterAdminDown h).ten = s.ten := rfl
@[simp] theorem State.enterAdminDown_orh (h : HomeId) (s : State) : (s.enterAdminDown h).orh = s.orh := rfl
@[simp] theorem State.enterAdminDown_out (h : HomeId) (s : State) : (s.enterAdminDown h).out = s.out := rfl
@[simp] theorem State.enterAdminDown_pending (h : HomeId) (s : State) :
    (s.enterAdminDown h).pending = s.pending := rfl

/-! ### traffic -/

@[simp] theorem State.traffic_pins (h : HomeId) (s : State) : (s.traffic h).pins = s.pins := rfl
@[simp] theorem State.traffic_cfg (h : HomeId) (s : State) : (s.traffic h).cfg = s.cfg := rfl
@[simp] theorem State.traffic_now (h : HomeId) (s : State) : (s.traffic h).now = s.now := rfl
@[simp] theorem State.traffic_lpb (h : HomeId) (s : State) : (s.traffic h).lpb = s.lpb := rfl
@[simp] theorem State.traffic_ffu (h : HomeId) (s : State) : (s.traffic h).ffu = s.ffu := rfl
@[simp] theorem State.traffic_cqm (h : HomeId) (s : State) : (s.traffic h).cqm = s.cqm := rfl
@[simp] theorem State.traffic_cbi (h : HomeId) (s : State) : (s.traffic h).cbi = s.cbi := rfl
@[simp] theorem State.traffic_pvw (h : HomeId) (s : State) : (s.traffic h).pvw = s.pvw := rfl
@[simp] theorem State.traffic_shc (h : HomeId) (s : State) : (s.traffic h).shc = s.shc := rfl
@[simp] theorem State.traffic_ups (h : HomeId) (s : State) : (s.traffic h).ups = s.ups := rfl
@[simp] theorem State.traffic_gwu (h : HomeId) (s : State) : (s.traffic h).gwu = s.gwu := rfl
@[simp] theorem State.traffic_ten (h : HomeId) (s : State) : (s.traffic h).ten = s.ten := rfl
@[simp] theorem State.traffic_orh (h : HomeId) (s : State) : (s.traffic h).orh = s.orh := rfl
@[simp] theorem State.traffic_out (h : HomeId) (s : State) : (s.traffic h).out = s.out := rfl
@[simp] theorem State.traffic_pending (h : HomeId) (s : State) : (s.traffic h).pending = s.pending := rfl

/-! ### wakeCause -/

@[simp] theorem State.wakeCause_pins (h : HomeId) (s : State) : (s.wakeCause h).pins = s.pins := rfl
@[simp] theorem State.wakeCause_cfg (h : HomeId) (s : State) : (s.wakeCause h).cfg = s.cfg := rfl
@[simp] theorem State.wakeCause_now (h : HomeId) (s : State) : (s.wakeCause h).now = s.now := rfl
@[simp] theorem State.wakeCause_lpb (h : HomeId) (s : State) : (s.wakeCause h).lpb = s.lpb := rfl
@[simp] theorem State.wakeCause_ffu (h : HomeId) (s : State) : (s.wakeCause h).ffu = s.ffu := rfl
@[simp] theorem State.wakeCause_cqm (h : HomeId) (s : State) : (s.wakeCause h).cqm = s.cqm := rfl
@[simp] theorem State.wakeCause_cbi (h : HomeId) (s : State) : (s.wakeCause h).cbi = s.cbi := rfl
@[simp] theorem State.wakeCause_pvw (h : HomeId) (s : State) : (s.wakeCause h).pvw = s.pvw := rfl
@[simp] theorem State.wakeCause_shc (h : HomeId) (s : State) : (s.wakeCause h).shc = s.shc := rfl
@[simp] theorem State.wakeCause_ups (h : HomeId) (s : State) : (s.wakeCause h).ups = s.ups := rfl
@[simp] theorem State.wakeCause_gwu (h : HomeId) (s : State) : (s.wakeCause h).gwu = s.gwu := rfl
@[simp] theorem State.wakeCause_ten (h : HomeId) (s : State) : (s.wakeCause h).ten = s.ten := rfl
@[simp] theorem State.wakeCause_orh (h : HomeId) (s : State) : (s.wakeCause h).orh = s.orh := rfl
@[simp] theorem State.wakeCause_out (h : HomeId) (s : State) : (s.wakeCause h).out = s.out := rfl
@[simp] theorem State.wakeCause_pending (h : HomeId) (s : State) : (s.wakeCause h).pending = s.pending := rfl

/-! ### wakeHead -/

@[simp] theorem State.wakeHead_pins (h : HomeId) (s : State) : (s.wakeHead h).pins = s.pins := rfl
@[simp] theorem State.wakeHead_cfg (h : HomeId) (s : State) : (s.wakeHead h).cfg = s.cfg := rfl
@[simp] theorem State.wakeHead_now (h : HomeId) (s : State) : (s.wakeHead h).now = s.now := rfl
@[simp] theorem State.wakeHead_lpb (h : HomeId) (s : State) : (s.wakeHead h).lpb = s.lpb := rfl
@[simp] theorem State.wakeHead_ffu (h : HomeId) (s : State) : (s.wakeHead h).ffu = s.ffu := rfl
@[simp] theorem State.wakeHead_cqm (h : HomeId) (s : State) : (s.wakeHead h).cqm = s.cqm := rfl
@[simp] theorem State.wakeHead_cbi (h : HomeId) (s : State) : (s.wakeHead h).cbi = s.cbi := rfl
@[simp] theorem State.wakeHead_pvw (h : HomeId) (s : State) : (s.wakeHead h).pvw = s.pvw := rfl
@[simp] theorem State.wakeHead_shc (h : HomeId) (s : State) : (s.wakeHead h).shc = s.shc := rfl
@[simp] theorem State.wakeHead_ups (h : HomeId) (s : State) : (s.wakeHead h).ups = s.ups := rfl
@[simp] theorem State.wakeHead_gwu (h : HomeId) (s : State) : (s.wakeHead h).gwu = s.gwu := rfl
@[simp] theorem State.wakeHead_ten (h : HomeId) (s : State) : (s.wakeHead h).ten = s.ten := rfl
@[simp] theorem State.wakeHead_orh (h : HomeId) (s : State) : (s.wakeHead h).orh = s.orh := rfl
@[simp] theorem State.wakeHead_out (h : HomeId) (s : State) : (s.wakeHead h).out = s.out := rfl
@[simp] theorem State.wakeHead_pending (h : HomeId) (s : State) : (s.wakeHead h).pending = s.pending := rfl

/-! ### wakeFailed -/

@[simp] theorem State.wakeFailed_pins (cause : WakeFailCause) (h : HomeId) (s : State) :
    (s.wakeFailed cause h).pins = s.pins := rfl
@[simp] theorem State.wakeFailed_cfg (cause : WakeFailCause) (h : HomeId) (s : State) :
    (s.wakeFailed cause h).cfg = s.cfg := rfl
@[simp] theorem State.wakeFailed_now (cause : WakeFailCause) (h : HomeId) (s : State) :
    (s.wakeFailed cause h).now = s.now := rfl
@[simp] theorem State.wakeFailed_cqm (cause : WakeFailCause) (h : HomeId) (s : State) :
    (s.wakeFailed cause h).cqm = s.cqm := rfl
@[simp] theorem State.wakeFailed_cbi (cause : WakeFailCause) (h : HomeId) (s : State) :
    (s.wakeFailed cause h).cbi = s.cbi := rfl
@[simp] theorem State.wakeFailed_pvw (cause : WakeFailCause) (h : HomeId) (s : State) :
    (s.wakeFailed cause h).pvw = s.pvw := rfl
@[simp] theorem State.wakeFailed_shc (cause : WakeFailCause) (h : HomeId) (s : State) :
    (s.wakeFailed cause h).shc = s.shc := rfl
@[simp] theorem State.wakeFailed_ups (cause : WakeFailCause) (h : HomeId) (s : State) :
    (s.wakeFailed cause h).ups = s.ups := rfl
@[simp] theorem State.wakeFailed_gwu (cause : WakeFailCause) (h : HomeId) (s : State) :
    (s.wakeFailed cause h).gwu = s.gwu := rfl
@[simp] theorem State.wakeFailed_ten (cause : WakeFailCause) (h : HomeId) (s : State) :
    (s.wakeFailed cause h).ten = s.ten := rfl
@[simp] theorem State.wakeFailed_out (cause : WakeFailCause) (h : HomeId) (s : State) :
    (s.wakeFailed cause h).out = s.out := rfl
@[simp] theorem State.wakeFailed_pending (cause : WakeFailCause) (h : HomeId) (s : State) :
    (s.wakeFailed cause h).pending = s.pending := rfl

/-! ### judge -/

@[simp] theorem State.judge_pins (s : State) : (s.judge).pins = s.pins := rfl
@[simp] theorem State.judge_cfg (s : State) : (s.judge).cfg = s.cfg := rfl
@[simp] theorem State.judge_now (s : State) : (s.judge).now = s.now := rfl
@[simp] theorem State.judge_lpb (s : State) : (s.judge).lpb = s.lpb := rfl
@[simp] theorem State.judge_ffu (s : State) : (s.judge).ffu = s.ffu := rfl
@[simp] theorem State.judge_cqm (s : State) : (s.judge).cqm = s.cqm := rfl
@[simp] theorem State.judge_cbi (s : State) : (s.judge).cbi = s.cbi := rfl
@[simp] theorem State.judge_pvw (s : State) : (s.judge).pvw = s.pvw := rfl
@[simp] theorem State.judge_shc (s : State) : (s.judge).shc = s.shc := rfl
@[simp] theorem State.judge_ten (s : State) : (s.judge).ten = s.ten := rfl
@[simp] theorem State.judge_bhu (s : State) : (s.judge).bhu = s.bhu := rfl
@[simp] theorem State.judge_out (s : State) : (s.judge).out = s.out := rfl
@[simp] theorem State.judge_pending (s : State) : (s.judge).pending = s.pending := rfl

/-! ### offerWake -/

@[simp] theorem State.offerWake_pins (h : HomeId) (ids : List FilterId) (len : Nat) (cap : List Byte) (src : WakeSource) (s : State) :
    (s.offerWake h ids len cap src).pins = s.pins := rfl
@[simp] theorem State.offerWake_cfg (h : HomeId) (ids : List FilterId) (len : Nat) (cap : List Byte) (src : WakeSource) (s : State) :
    (s.offerWake h ids len cap src).cfg = s.cfg := rfl
@[simp] theorem State.offerWake_now (h : HomeId) (ids : List FilterId) (len : Nat) (cap : List Byte) (src : WakeSource) (s : State) :
    (s.offerWake h ids len cap src).now = s.now := rfl
@[simp] theorem State.offerWake_lpb (h : HomeId) (ids : List FilterId) (len : Nat) (cap : List Byte) (src : WakeSource) (s : State) :
    (s.offerWake h ids len cap src).lpb = s.lpb := rfl
@[simp] theorem State.offerWake_cqm (h : HomeId) (ids : List FilterId) (len : Nat) (cap : List Byte) (src : WakeSource) (s : State) :
    (s.offerWake h ids len cap src).cqm = s.cqm := rfl
@[simp] theorem State.offerWake_cbi (h : HomeId) (ids : List FilterId) (len : Nat) (cap : List Byte) (src : WakeSource) (s : State) :
    (s.offerWake h ids len cap src).cbi = s.cbi := rfl
@[simp] theorem State.offerWake_pvw (h : HomeId) (ids : List FilterId) (len : Nat) (cap : List Byte) (src : WakeSource) (s : State) :
    (s.offerWake h ids len cap src).pvw = s.pvw := rfl
@[simp] theorem State.offerWake_shc (h : HomeId) (ids : List FilterId) (len : Nat) (cap : List Byte) (src : WakeSource) (s : State) :
    (s.offerWake h ids len cap src).shc = s.shc := rfl
@[simp] theorem State.offerWake_ups (h : HomeId) (ids : List FilterId) (len : Nat) (cap : List Byte) (src : WakeSource) (s : State) :
    (s.offerWake h ids len cap src).ups = s.ups := rfl
@[simp] theorem State.offerWake_gwu (h : HomeId) (ids : List FilterId) (len : Nat) (cap : List Byte) (src : WakeSource) (s : State) :
    (s.offerWake h ids len cap src).gwu = s.gwu := rfl
@[simp] theorem State.offerWake_ten (h : HomeId) (ids : List FilterId) (len : Nat) (cap : List Byte) (src : WakeSource) (s : State) :
    (s.offerWake h ids len cap src).ten = s.ten := rfl
@[simp] theorem State.offerWake_bhu (h : HomeId) (ids : List FilterId) (len : Nat) (cap : List Byte) (src : WakeSource) (s : State) :
    (s.offerWake h ids len cap src).bhu = s.bhu := rfl
@[simp] theorem State.offerWake_orh (h : HomeId) (ids : List FilterId) (len : Nat) (cap : List Byte) (src : WakeSource) (s : State) :
    (s.offerWake h ids len cap src).orh = s.orh := rfl
@[simp] theorem State.offerWake_out (h : HomeId) (ids : List FilterId) (len : Nat) (cap : List Byte) (src : WakeSource) (s : State) :
    (s.offerWake h ids len cap src).out = s.out := rfl
@[simp] theorem State.offerWake_pending (h : HomeId) (ids : List FilterId) (len : Nat) (cap : List Byte) (src : WakeSource) (s : State) :
    (s.offerWake h ids len cap src).pending = s.pending := rfl

/-! ### addVolume -/

@[simp] theorem State.addVolume_pins (h : HomeId) (len : Nat) (s : State) : (s.addVolume h len).pins = s.pins := rfl
@[simp] theorem State.addVolume_cfg (h : HomeId) (len : Nat) (s : State) : (s.addVolume h len).cfg = s.cfg := rfl
@[simp] theorem State.addVolume_now (h : HomeId) (len : Nat) (s : State) : (s.addVolume h len).now = s.now := rfl
@[simp] theorem State.addVolume_lpb (h : HomeId) (len : Nat) (s : State) : (s.addVolume h len).lpb = s.lpb := rfl
@[simp] theorem State.addVolume_ffu (h : HomeId) (len : Nat) (s : State) : (s.addVolume h len).ffu = s.ffu := rfl
@[simp] theorem State.addVolume_cqm (h : HomeId) (len : Nat) (s : State) : (s.addVolume h len).cqm = s.cqm := rfl
@[simp] theorem State.addVolume_cbi (h : HomeId) (len : Nat) (s : State) : (s.addVolume h len).cbi = s.cbi := rfl
@[simp] theorem State.addVolume_pvw (h : HomeId) (len : Nat) (s : State) : (s.addVolume h len).pvw = s.pvw := rfl
@[simp] theorem State.addVolume_shc (h : HomeId) (len : Nat) (s : State) : (s.addVolume h len).shc = s.shc := rfl
@[simp] theorem State.addVolume_gwu (h : HomeId) (len : Nat) (s : State) : (s.addVolume h len).gwu = s.gwu := rfl
@[simp] theorem State.addVolume_ten (h : HomeId) (len : Nat) (s : State) : (s.addVolume h len).ten = s.ten := rfl
@[simp] theorem State.addVolume_bhu (h : HomeId) (len : Nat) (s : State) : (s.addVolume h len).bhu = s.bhu := rfl
@[simp] theorem State.addVolume_out (h : HomeId) (len : Nat) (s : State) : (s.addVolume h len).out = s.out := rfl
@[simp] theorem State.addVolume_pending (h : HomeId) (len : Nat) (s : State) :
    (s.addVolume h len).pending = s.pending := rfl

/-! ### joinUp -/

@[simp] theorem State.joinUp_pins (h : HomeId) (f : Frame) (s : State) : (s.joinUp h f).pins = s.pins := rfl
@[simp] theorem State.joinUp_cfg (h : HomeId) (f : Frame) (s : State) : (s.joinUp h f).cfg = s.cfg := rfl
@[simp] theorem State.joinUp_now (h : HomeId) (f : Frame) (s : State) : (s.joinUp h f).now = s.now := rfl
@[simp] theorem State.joinUp_lpb (h : HomeId) (f : Frame) (s : State) : (s.joinUp h f).lpb = s.lpb := rfl
@[simp] theorem State.joinUp_ffu (h : HomeId) (f : Frame) (s : State) : (s.joinUp h f).ffu = s.ffu := rfl
@[simp] theorem State.joinUp_cbi (h : HomeId) (f : Frame) (s : State) : (s.joinUp h f).cbi = s.cbi := rfl
@[simp] theorem State.joinUp_shc (h : HomeId) (f : Frame) (s : State) : (s.joinUp h f).shc = s.shc := rfl
@[simp] theorem State.joinUp_ups (h : HomeId) (f : Frame) (s : State) : (s.joinUp h f).ups = s.ups := rfl
@[simp] theorem State.joinUp_gwu (h : HomeId) (f : Frame) (s : State) : (s.joinUp h f).gwu = s.gwu := rfl
@[simp] theorem State.joinUp_ten (h : HomeId) (f : Frame) (s : State) : (s.joinUp h f).ten = s.ten := rfl
@[simp] theorem State.joinUp_bhu (h : HomeId) (f : Frame) (s : State) : (s.joinUp h f).bhu = s.bhu := rfl
@[simp] theorem State.joinUp_orh (h : HomeId) (f : Frame) (s : State) : (s.joinUp h f).orh = s.orh := rfl
@[simp] theorem State.joinUp_out (h : HomeId) (f : Frame) (s : State) : (s.joinUp h f).out = s.out := rfl
@[simp] theorem State.joinUp_pending (h : HomeId) (f : Frame) (s : State) : (s.joinUp h f).pending = s.pending := rfl

/-! ### joinDown -/

@[simp] theorem State.joinDown_pins (h : HomeId) (f : Frame) (s : State) : (s.joinDown h f).pins = s.pins := rfl
@[simp] theorem State.joinDown_cfg (h : HomeId) (f : Frame) (s : State) : (s.joinDown h f).cfg = s.cfg := rfl
@[simp] theorem State.joinDown_now (h : HomeId) (f : Frame) (s : State) : (s.joinDown h f).now = s.now := rfl
@[simp] theorem State.joinDown_lpb (h : HomeId) (f : Frame) (s : State) : (s.joinDown h f).lpb = s.lpb := rfl
@[simp] theorem State.joinDown_ffu (h : HomeId) (f : Frame) (s : State) : (s.joinDown h f).ffu = s.ffu := rfl
@[simp] theorem State.joinDown_cbi (h : HomeId) (f : Frame) (s : State) : (s.joinDown h f).cbi = s.cbi := rfl
@[simp] theorem State.joinDown_pvw (h : HomeId) (f : Frame) (s : State) : (s.joinDown h f).pvw = s.pvw := rfl
@[simp] theorem State.joinDown_shc (h : HomeId) (f : Frame) (s : State) : (s.joinDown h f).shc = s.shc := rfl
@[simp] theorem State.joinDown_ups (h : HomeId) (f : Frame) (s : State) : (s.joinDown h f).ups = s.ups := rfl
@[simp] theorem State.joinDown_gwu (h : HomeId) (f : Frame) (s : State) : (s.joinDown h f).gwu = s.gwu := rfl
@[simp] theorem State.joinDown_ten (h : HomeId) (f : Frame) (s : State) : (s.joinDown h f).ten = s.ten := rfl
@[simp] theorem State.joinDown_bhu (h : HomeId) (f : Frame) (s : State) : (s.joinDown h f).bhu = s.bhu := rfl
@[simp] theorem State.joinDown_orh (h : HomeId) (f : Frame) (s : State) : (s.joinDown h f).orh = s.orh := rfl
@[simp] theorem State.joinDown_out (h : HomeId) (f : Frame) (s : State) : (s.joinDown h f).out = s.out := rfl
@[simp] theorem State.joinDown_pending (h : HomeId) (f : Frame) (s : State) :
    (s.joinDown h f).pending = s.pending := rfl

/-! ### takeRequest -/

@[simp] theorem State.takeRequest_pins (r : ModeRequest) (h : HomeId) (s : State) :
    (s.takeRequest r h).pins = s.pins := rfl
@[simp] theorem State.takeRequest_cfg (r : ModeRequest) (h : HomeId) (s : State) :
    (s.takeRequest r h).cfg = s.cfg := rfl
@[simp] theorem State.takeRequest_now (r : ModeRequest) (h : HomeId) (s : State) :
    (s.takeRequest r h).now = s.now := rfl
@[simp] theorem State.takeRequest_lpb (r : ModeRequest) (h : HomeId) (s : State) :
    (s.takeRequest r h).lpb = s.lpb := rfl
@[simp] theorem State.takeRequest_ffu (r : ModeRequest) (h : HomeId) (s : State) :
    (s.takeRequest r h).ffu = s.ffu := rfl
@[simp] theorem State.takeRequest_cqm (r : ModeRequest) (h : HomeId) (s : State) :
    (s.takeRequest r h).cqm = s.cqm := rfl
@[simp] theorem State.takeRequest_cbi (r : ModeRequest) (h : HomeId) (s : State) :
    (s.takeRequest r h).cbi = s.cbi := rfl
@[simp] theorem State.takeRequest_pvw (r : ModeRequest) (h : HomeId) (s : State) :
    (s.takeRequest r h).pvw = s.pvw := rfl
@[simp] theorem State.takeRequest_shc (r : ModeRequest) (h : HomeId) (s : State) :
    (s.takeRequest r h).shc = s.shc := rfl
@[simp] theorem State.takeRequest_ups (r : ModeRequest) (h : HomeId) (s : State) :
    (s.takeRequest r h).ups = s.ups := rfl
@[simp] theorem State.takeRequest_gwu (r : ModeRequest) (h : HomeId) (s : State) :
    (s.takeRequest r h).gwu = s.gwu := rfl
@[simp] theorem State.takeRequest_ten (r : ModeRequest) (h : HomeId) (s : State) :
    (s.takeRequest r h).ten = s.ten := rfl
@[simp] theorem State.takeRequest_orh (r : ModeRequest) (h : HomeId) (s : State) :
    (s.takeRequest r h).orh = s.orh := rfl
@[simp] theorem State.takeRequest_out (r : ModeRequest) (h : HomeId) (s : State) :
    (s.takeRequest r h).out = s.out := rfl
@[simp] theorem State.takeRequest_pending (r : ModeRequest) (h : HomeId) (s : State) :
    (s.takeRequest r h).pending = s.pending := rfl

/-! ### recall -/

@[simp] theorem State.recall_pins (s : State) : (s.recall).pins = s.pins := rfl
@[simp] theorem State.recall_cfg (s : State) : (s.recall).cfg = s.cfg := rfl
@[simp] theorem State.recall_now (s : State) : (s.recall).now = s.now := rfl
@[simp] theorem State.recall_lpb (s : State) : (s.recall).lpb = s.lpb := rfl
@[simp] theorem State.recall_ffu (s : State) : (s.recall).ffu = s.ffu := rfl
@[simp] theorem State.recall_cqm (s : State) : (s.recall).cqm = s.cqm := rfl
@[simp] theorem State.recall_cbi (s : State) : (s.recall).cbi = s.cbi := rfl
@[simp] theorem State.recall_pvw (s : State) : (s.recall).pvw = s.pvw := rfl
@[simp] theorem State.recall_shc (s : State) : (s.recall).shc = s.shc := rfl
@[simp] theorem State.recall_ups (s : State) : (s.recall).ups = s.ups := rfl
@[simp] theorem State.recall_gwu (s : State) : (s.recall).gwu = s.gwu := rfl
@[simp] theorem State.recall_ten (s : State) : (s.recall).ten = s.ten := rfl
@[simp] theorem State.recall_orh (s : State) : (s.recall).orh = s.orh := rfl
@[simp] theorem State.recall_out (s : State) : (s.recall).out = s.out := rfl
@[simp] theorem State.recall_pending (s : State) : (s.recall).pending = s.pending := rfl

/-! ### sendFitting -/

@[simp] theorem State.sendFitting_pins (a : Nat) (s : State) : (s.sendFitting a).pins = s.pins := rfl
@[simp] theorem State.sendFitting_cfg (a : Nat) (s : State) : (s.sendFitting a).cfg = s.cfg := rfl
@[simp] theorem State.sendFitting_now (a : Nat) (s : State) : (s.sendFitting a).now = s.now := rfl
@[simp] theorem State.sendFitting_lpb (a : Nat) (s : State) : (s.sendFitting a).lpb = s.lpb := rfl
@[simp] theorem State.sendFitting_ffu (a : Nat) (s : State) : (s.sendFitting a).ffu = s.ffu := rfl
@[simp] theorem State.sendFitting_cqm (a : Nat) (s : State) : (s.sendFitting a).cqm = s.cqm := rfl
@[simp] theorem State.sendFitting_cbi (a : Nat) (s : State) : (s.sendFitting a).cbi = s.cbi := rfl
@[simp] theorem State.sendFitting_pvw (a : Nat) (s : State) : (s.sendFitting a).pvw = s.pvw := rfl
@[simp] theorem State.sendFitting_shc (a : Nat) (s : State) : (s.sendFitting a).shc = s.shc := rfl
@[simp] theorem State.sendFitting_ups (a : Nat) (s : State) : (s.sendFitting a).ups = s.ups := rfl
@[simp] theorem State.sendFitting_gwu (a : Nat) (s : State) : (s.sendFitting a).gwu = s.gwu := rfl
@[simp] theorem State.sendFitting_ten (a : Nat) (s : State) : (s.sendFitting a).ten = s.ten := rfl
@[simp] theorem State.sendFitting_orh (a : Nat) (s : State) : (s.sendFitting a).orh = s.orh := rfl
@[simp] theorem State.sendFitting_out (a : Nat) (s : State) : (s.sendFitting a).out = s.out := rfl
@[simp] theorem State.sendFitting_pending (a : Nat) (s : State) : (s.sendFitting a).pending = s.pending := rfl

/-! ### fit -/

@[simp] theorem State.fit_pins (a : Nat) (s : State) : (s.fit a).pins = s.pins := rfl
@[simp] theorem State.fit_cfg (a : Nat) (s : State) : (s.fit a).cfg = s.cfg := rfl
@[simp] theorem State.fit_now (a : Nat) (s : State) : (s.fit a).now = s.now := rfl
@[simp] theorem State.fit_lpb (a : Nat) (s : State) : (s.fit a).lpb = s.lpb := rfl
@[simp] theorem State.fit_ffu (a : Nat) (s : State) : (s.fit a).ffu = s.ffu := rfl
@[simp] theorem State.fit_cqm (a : Nat) (s : State) : (s.fit a).cqm = s.cqm := rfl
@[simp] theorem State.fit_cbi (a : Nat) (s : State) : (s.fit a).cbi = s.cbi := rfl
@[simp] theorem State.fit_pvw (a : Nat) (s : State) : (s.fit a).pvw = s.pvw := rfl
@[simp] theorem State.fit_shc (a : Nat) (s : State) : (s.fit a).shc = s.shc := rfl
@[simp] theorem State.fit_ups (a : Nat) (s : State) : (s.fit a).ups = s.ups := rfl
@[simp] theorem State.fit_gwu (a : Nat) (s : State) : (s.fit a).gwu = s.gwu := rfl
@[simp] theorem State.fit_ten (a : Nat) (s : State) : (s.fit a).ten = s.ten := rfl
@[simp] theorem State.fit_orh (a : Nat) (s : State) : (s.fit a).orh = s.orh := rfl
@[simp] theorem State.fit_out (a : Nat) (s : State) : (s.fit a).out = s.out := rfl
@[simp] theorem State.fit_pending (a : Nat) (s : State) : (s.fit a).pending = s.pending := rfl

/-! ### bandwidthCalc -/

@[simp] theorem State.bandwidthCalc_pins (s : State) : (s.bandwidthCalc).pins = s.pins := rfl
@[simp] theorem State.bandwidthCalc_cfg (s : State) : (s.bandwidthCalc).cfg = s.cfg := rfl
@[simp] theorem State.bandwidthCalc_now (s : State) : (s.bandwidthCalc).now = s.now := rfl
@[simp] theorem State.bandwidthCalc_lpb (s : State) : (s.bandwidthCalc).lpb = s.lpb := rfl
@[simp] theorem State.bandwidthCalc_ffu (s : State) : (s.bandwidthCalc).ffu = s.ffu := rfl
@[simp] theorem State.bandwidthCalc_cqm (s : State) : (s.bandwidthCalc).cqm = s.cqm := rfl
@[simp] theorem State.bandwidthCalc_cbi (s : State) : (s.bandwidthCalc).cbi = s.cbi := rfl
@[simp] theorem State.bandwidthCalc_pvw (s : State) : (s.bandwidthCalc).pvw = s.pvw := rfl
@[simp] theorem State.bandwidthCalc_ups (s : State) : (s.bandwidthCalc).ups = s.ups := rfl
@[simp] theorem State.bandwidthCalc_gwu (s : State) : (s.bandwidthCalc).gwu = s.gwu := rfl
@[simp] theorem State.bandwidthCalc_ten (s : State) : (s.bandwidthCalc).ten = s.ten := rfl
@[simp] theorem State.bandwidthCalc_bhu (s : State) : (s.bandwidthCalc).bhu = s.bhu := rfl
@[simp] theorem State.bandwidthCalc_orh (s : State) : (s.bandwidthCalc).orh = s.orh := rfl
@[simp] theorem State.bandwidthCalc_out (s : State) : (s.bandwidthCalc).out = s.out := rfl
@[simp] theorem State.bandwidthCalc_pending (s : State) : (s.bandwidthCalc).pending = s.pending := rfl

/-! ### powerCalc -/

@[simp] theorem State.powerCalc_pins (s : State) : (s.powerCalc).pins = s.pins := rfl
@[simp] theorem State.powerCalc_cfg (s : State) : (s.powerCalc).cfg = s.cfg := rfl
@[simp] theorem State.powerCalc_now (s : State) : (s.powerCalc).now = s.now := rfl
@[simp] theorem State.powerCalc_lpb (s : State) : (s.powerCalc).lpb = s.lpb := rfl
@[simp] theorem State.powerCalc_ffu (s : State) : (s.powerCalc).ffu = s.ffu := rfl
@[simp] theorem State.powerCalc_cqm (s : State) : (s.powerCalc).cqm = s.cqm := rfl
@[simp] theorem State.powerCalc_cbi (s : State) : (s.powerCalc).cbi = s.cbi := rfl
@[simp] theorem State.powerCalc_pvw (s : State) : (s.powerCalc).pvw = s.pvw := rfl
@[simp] theorem State.powerCalc_ups (s : State) : (s.powerCalc).ups = s.ups := rfl
@[simp] theorem State.powerCalc_gwu (s : State) : (s.powerCalc).gwu = s.gwu := rfl
@[simp] theorem State.powerCalc_ten (s : State) : (s.powerCalc).ten = s.ten := rfl
@[simp] theorem State.powerCalc_bhu (s : State) : (s.powerCalc).bhu = s.bhu := rfl
@[simp] theorem State.powerCalc_orh (s : State) : (s.powerCalc).orh = s.orh := rfl
@[simp] theorem State.powerCalc_out (s : State) : (s.powerCalc).out = s.out := rfl
@[simp] theorem State.powerCalc_pending (s : State) : (s.powerCalc).pending = s.pending := rfl

/-! ### serveOnMains -/

@[simp] theorem State.serveOnMains_pins (s : State) : (s.serveOnMains).pins = s.pins := rfl
@[simp] theorem State.serveOnMains_cfg (s : State) : (s.serveOnMains).cfg = s.cfg := rfl
@[simp] theorem State.serveOnMains_now (s : State) : (s.serveOnMains).now = s.now := rfl
@[simp] theorem State.serveOnMains_lpb (s : State) : (s.serveOnMains).lpb = s.lpb := rfl
@[simp] theorem State.serveOnMains_ffu (s : State) : (s.serveOnMains).ffu = s.ffu := rfl
@[simp] theorem State.serveOnMains_cqm (s : State) : (s.serveOnMains).cqm = s.cqm := rfl
@[simp] theorem State.serveOnMains_cbi (s : State) : (s.serveOnMains).cbi = s.cbi := rfl
@[simp] theorem State.serveOnMains_pvw (s : State) : (s.serveOnMains).pvw = s.pvw := rfl
@[simp] theorem State.serveOnMains_ups (s : State) : (s.serveOnMains).ups = s.ups := rfl
@[simp] theorem State.serveOnMains_gwu (s : State) : (s.serveOnMains).gwu = s.gwu := rfl
@[simp] theorem State.serveOnMains_ten (s : State) : (s.serveOnMains).ten = s.ten := rfl
@[simp] theorem State.serveOnMains_orh (s : State) : (s.serveOnMains).orh = s.orh := rfl
@[simp] theorem State.serveOnMains_out (s : State) : (s.serveOnMains).out = s.out := rfl
@[simp] theorem State.serveOnMains_pending (s : State) : (s.serveOnMains).pending = s.pending := rfl

/-! ### returnToMains -/

@[simp] theorem State.returnToMains_pins (s : State) : (s.returnToMains).pins = s.pins := rfl
@[simp] theorem State.returnToMains_cfg (s : State) : (s.returnToMains).cfg = s.cfg := rfl
@[simp] theorem State.returnToMains_now (s : State) : (s.returnToMains).now = s.now := rfl
@[simp] theorem State.returnToMains_lpb (s : State) : (s.returnToMains).lpb = s.lpb := rfl
@[simp] theorem State.returnToMains_ffu (s : State) : (s.returnToMains).ffu = s.ffu := rfl
@[simp] theorem State.returnToMains_cqm (s : State) : (s.returnToMains).cqm = s.cqm := rfl
@[simp] theorem State.returnToMains_cbi (s : State) : (s.returnToMains).cbi = s.cbi := rfl
@[simp] theorem State.returnToMains_pvw (s : State) : (s.returnToMains).pvw = s.pvw := rfl
@[simp] theorem State.returnToMains_ups (s : State) : (s.returnToMains).ups = s.ups := rfl
@[simp] theorem State.returnToMains_gwu (s : State) : (s.returnToMains).gwu = s.gwu := rfl
@[simp] theorem State.returnToMains_ten (s : State) : (s.returnToMains).ten = s.ten := rfl
@[simp] theorem State.returnToMains_orh (s : State) : (s.returnToMains).orh = s.orh := rfl
@[simp] theorem State.returnToMains_out (s : State) : (s.returnToMains).out = s.out := rfl
@[simp] theorem State.returnToMains_pending (s : State) : (s.returnToMains).pending = s.pending := rfl

/-! ### setQuietEnd -/

@[simp] theorem State.setQuietEnd_pins (g : Group) (ms : Nat) (s : State) : (s.setQuietEnd g ms).pins = s.pins := rfl
@[simp] theorem State.setQuietEnd_cfg (g : Group) (ms : Nat) (s : State) : (s.setQuietEnd g ms).cfg = s.cfg := rfl
@[simp] theorem State.setQuietEnd_now (g : Group) (ms : Nat) (s : State) : (s.setQuietEnd g ms).now = s.now := rfl
@[simp] theorem State.setQuietEnd_lpb (g : Group) (ms : Nat) (s : State) : (s.setQuietEnd g ms).lpb = s.lpb := rfl
@[simp] theorem State.setQuietEnd_ffu (g : Group) (ms : Nat) (s : State) : (s.setQuietEnd g ms).ffu = s.ffu := rfl
@[simp] theorem State.setQuietEnd_cqm (g : Group) (ms : Nat) (s : State) : (s.setQuietEnd g ms).cqm = s.cqm := rfl
@[simp] theorem State.setQuietEnd_cbi (g : Group) (ms : Nat) (s : State) : (s.setQuietEnd g ms).cbi = s.cbi := rfl
@[simp] theorem State.setQuietEnd_pvw (g : Group) (ms : Nat) (s : State) : (s.setQuietEnd g ms).pvw = s.pvw := rfl
@[simp] theorem State.setQuietEnd_shc (g : Group) (ms : Nat) (s : State) : (s.setQuietEnd g ms).shc = s.shc := rfl
@[simp] theorem State.setQuietEnd_ups (g : Group) (ms : Nat) (s : State) : (s.setQuietEnd g ms).ups = s.ups := rfl
@[simp] theorem State.setQuietEnd_gwu (g : Group) (ms : Nat) (s : State) : (s.setQuietEnd g ms).gwu = s.gwu := rfl
@[simp] theorem State.setQuietEnd_bhu (g : Group) (ms : Nat) (s : State) : (s.setQuietEnd g ms).bhu = s.bhu := rfl
@[simp] theorem State.setQuietEnd_orh (g : Group) (ms : Nat) (s : State) : (s.setQuietEnd g ms).orh = s.orh := rfl
@[simp] theorem State.setQuietEnd_out (g : Group) (ms : Nat) (s : State) : (s.setQuietEnd g ms).out = s.out := rfl
@[simp] theorem State.setQuietEnd_pending (g : Group) (ms : Nat) (s : State) :
    (s.setQuietEnd g ms).pending = s.pending := rfl

/-! ### startHold -/

@[simp] theorem State.startHold_pins (h : HomeId) (s : State) : (s.startHold h).pins = s.pins := rfl
@[simp] theorem State.startHold_cfg (h : HomeId) (s : State) : (s.startHold h).cfg = s.cfg := rfl
@[simp] theorem State.startHold_now (h : HomeId) (s : State) : (s.startHold h).now = s.now := rfl
@[simp] theorem State.startHold_ffu (h : HomeId) (s : State) : (s.startHold h).ffu = s.ffu := rfl
@[simp] theorem State.startHold_cqm (h : HomeId) (s : State) : (s.startHold h).cqm = s.cqm := rfl
@[simp] theorem State.startHold_cbi (h : HomeId) (s : State) : (s.startHold h).cbi = s.cbi := rfl
@[simp] theorem State.startHold_pvw (h : HomeId) (s : State) : (s.startHold h).pvw = s.pvw := rfl
@[simp] theorem State.startHold_shc (h : HomeId) (s : State) : (s.startHold h).shc = s.shc := rfl
@[simp] theorem State.startHold_ups (h : HomeId) (s : State) : (s.startHold h).ups = s.ups := rfl
@[simp] theorem State.startHold_gwu (h : HomeId) (s : State) : (s.startHold h).gwu = s.gwu := rfl
@[simp] theorem State.startHold_ten (h : HomeId) (s : State) : (s.startHold h).ten = s.ten := rfl
@[simp] theorem State.startHold_bhu (h : HomeId) (s : State) : (s.startHold h).bhu = s.bhu := rfl
@[simp] theorem State.startHold_out (h : HomeId) (s : State) : (s.startHold h).out = s.out := rfl
@[simp] theorem State.startHold_pending (h : HomeId) (s : State) : (s.startHold h).pending = s.pending := rfl

/-! ### stormFell -/

@[simp] theorem State.stormFell_pins (s : State) : (s.stormFell).pins = s.pins := rfl
@[simp] theorem State.stormFell_cfg (s : State) : (s.stormFell).cfg = s.cfg := rfl
@[simp] theorem State.stormFell_now (s : State) : (s.stormFell).now = s.now := rfl
@[simp] theorem State.stormFell_ffu (s : State) : (s.stormFell).ffu = s.ffu := rfl
@[simp] theorem State.stormFell_cqm (s : State) : (s.stormFell).cqm = s.cqm := rfl
@[simp] theorem State.stormFell_cbi (s : State) : (s.stormFell).cbi = s.cbi := rfl
@[simp] theorem State.stormFell_pvw (s : State) : (s.stormFell).pvw = s.pvw := rfl
@[simp] theorem State.stormFell_shc (s : State) : (s.stormFell).shc = s.shc := rfl
@[simp] theorem State.stormFell_ups (s : State) : (s.stormFell).ups = s.ups := rfl
@[simp] theorem State.stormFell_gwu (s : State) : (s.stormFell).gwu = s.gwu := rfl
@[simp] theorem State.stormFell_ten (s : State) : (s.stormFell).ten = s.ten := rfl
@[simp] theorem State.stormFell_bhu (s : State) : (s.stormFell).bhu = s.bhu := rfl
@[simp] theorem State.stormFell_orh (s : State) : (s.stormFell).orh = s.orh := rfl
@[simp] theorem State.stormFell_out (s : State) : (s.stormFell).out = s.out := rfl
@[simp] theorem State.stormFell_pending (s : State) : (s.stormFell).pending = s.pending := rfl

/-! ### updTest -/

@[simp] theorem State.updTest_pins (f : CurrentTest → CurrentTest) (s : State) : (s.updTest f).pins = s.pins := rfl
@[simp] theorem State.updTest_cfg (f : CurrentTest → CurrentTest) (s : State) : (s.updTest f).cfg = s.cfg := rfl
@[simp] theorem State.updTest_now (f : CurrentTest → CurrentTest) (s : State) : (s.updTest f).now = s.now := rfl
@[simp] theorem State.updTest_lpb (f : CurrentTest → CurrentTest) (s : State) : (s.updTest f).lpb = s.lpb := rfl
@[simp] theorem State.updTest_ffu (f : CurrentTest → CurrentTest) (s : State) : (s.updTest f).ffu = s.ffu := rfl
@[simp] theorem State.updTest_cqm (f : CurrentTest → CurrentTest) (s : State) : (s.updTest f).cqm = s.cqm := rfl
@[simp] theorem State.updTest_cbi (f : CurrentTest → CurrentTest) (s : State) : (s.updTest f).cbi = s.cbi := rfl
@[simp] theorem State.updTest_pvw (f : CurrentTest → CurrentTest) (s : State) : (s.updTest f).pvw = s.pvw := rfl
@[simp] theorem State.updTest_shc (f : CurrentTest → CurrentTest) (s : State) : (s.updTest f).shc = s.shc := rfl
@[simp] theorem State.updTest_ups (f : CurrentTest → CurrentTest) (s : State) : (s.updTest f).ups = s.ups := rfl
@[simp] theorem State.updTest_gwu (f : CurrentTest → CurrentTest) (s : State) : (s.updTest f).gwu = s.gwu := rfl
@[simp] theorem State.updTest_bhu (f : CurrentTest → CurrentTest) (s : State) : (s.updTest f).bhu = s.bhu := rfl
@[simp] theorem State.updTest_orh (f : CurrentTest → CurrentTest) (s : State) : (s.updTest f).orh = s.orh := rfl
@[simp] theorem State.updTest_out (f : CurrentTest → CurrentTest) (s : State) : (s.updTest f).out = s.out := rfl
@[simp] theorem State.updTest_pending (f : CurrentTest → CurrentTest) (s : State) :
    (s.updTest f).pending = s.pending := rfl

/-! ### writeRecord -/

@[simp] theorem State.writeRecord_pins (h : HomeId) (o : Origin) (r : TestOutcome) (split : Bool) (ms : List Measurement) (s : State) :
    (s.writeRecord h o r split ms).pins = s.pins := rfl
@[simp] theorem State.writeRecord_cfg (h : HomeId) (o : Origin) (r : TestOutcome) (split : Bool) (ms : List Measurement) (s : State) :
    (s.writeRecord h o r split ms).cfg = s.cfg := rfl
@[simp] theorem State.writeRecord_now (h : HomeId) (o : Origin) (r : TestOutcome) (split : Bool) (ms : List Measurement) (s : State) :
    (s.writeRecord h o r split ms).now = s.now := rfl
@[simp] theorem State.writeRecord_lpb (h : HomeId) (o : Origin) (r : TestOutcome) (split : Bool) (ms : List Measurement) (s : State) :
    (s.writeRecord h o r split ms).lpb = s.lpb := rfl
@[simp] theorem State.writeRecord_ffu (h : HomeId) (o : Origin) (r : TestOutcome) (split : Bool) (ms : List Measurement) (s : State) :
    (s.writeRecord h o r split ms).ffu = s.ffu := rfl
@[simp] theorem State.writeRecord_cqm (h : HomeId) (o : Origin) (r : TestOutcome) (split : Bool) (ms : List Measurement) (s : State) :
    (s.writeRecord h o r split ms).cqm = s.cqm := rfl
@[simp] theorem State.writeRecord_cbi (h : HomeId) (o : Origin) (r : TestOutcome) (split : Bool) (ms : List Measurement) (s : State) :
    (s.writeRecord h o r split ms).cbi = s.cbi := rfl
@[simp] theorem State.writeRecord_pvw (h : HomeId) (o : Origin) (r : TestOutcome) (split : Bool) (ms : List Measurement) (s : State) :
    (s.writeRecord h o r split ms).pvw = s.pvw := rfl
@[simp] theorem State.writeRecord_shc (h : HomeId) (o : Origin) (r : TestOutcome) (split : Bool) (ms : List Measurement) (s : State) :
    (s.writeRecord h o r split ms).shc = s.shc := rfl
@[simp] theorem State.writeRecord_ups (h : HomeId) (o : Origin) (r : TestOutcome) (split : Bool) (ms : List Measurement) (s : State) :
    (s.writeRecord h o r split ms).ups = s.ups := rfl
@[simp] theorem State.writeRecord_gwu (h : HomeId) (o : Origin) (r : TestOutcome) (split : Bool) (ms : List Measurement) (s : State) :
    (s.writeRecord h o r split ms).gwu = s.gwu := rfl
@[simp] theorem State.writeRecord_bhu (h : HomeId) (o : Origin) (r : TestOutcome) (split : Bool) (ms : List Measurement) (s : State) :
    (s.writeRecord h o r split ms).bhu = s.bhu := rfl
@[simp] theorem State.writeRecord_out (h : HomeId) (o : Origin) (r : TestOutcome) (split : Bool) (ms : List Measurement) (s : State) :
    (s.writeRecord h o r split ms).out = s.out := rfl
@[simp] theorem State.writeRecord_pending (h : HomeId) (o : Origin) (r : TestOutcome) (split : Bool) (ms : List Measurement) (s : State) :
    (s.writeRecord h o r split ms).pending = s.pending := rfl

/-! ### enterReleasing -/

@[simp] theorem State.enterReleasing_pins (o : Option TestOutcome) (k : Option SuspendCause) (s : State) :
    (s.enterReleasing o k).pins = s.pins := rfl
@[simp] theorem State.enterReleasing_cfg (o : Option TestOutcome) (k : Option SuspendCause) (s : State) :
    (s.enterReleasing o k).cfg = s.cfg := rfl
@[simp] theorem State.enterReleasing_now (o : Option TestOutcome) (k : Option SuspendCause) (s : State) :
    (s.enterReleasing o k).now = s.now := rfl
@[simp] theorem State.enterReleasing_ffu (o : Option TestOutcome) (k : Option SuspendCause) (s : State) :
    (s.enterReleasing o k).ffu = s.ffu := rfl
@[simp] theorem State.enterReleasing_cqm (o : Option TestOutcome) (k : Option SuspendCause) (s : State) :
    (s.enterReleasing o k).cqm = s.cqm := rfl
@[simp] theorem State.enterReleasing_pvw (o : Option TestOutcome) (k : Option SuspendCause) (s : State) :
    (s.enterReleasing o k).pvw = s.pvw := rfl
@[simp] theorem State.enterReleasing_shc (o : Option TestOutcome) (k : Option SuspendCause) (s : State) :
    (s.enterReleasing o k).shc = s.shc := rfl
@[simp] theorem State.enterReleasing_ups (o : Option TestOutcome) (k : Option SuspendCause) (s : State) :
    (s.enterReleasing o k).ups = s.ups := rfl
@[simp] theorem State.enterReleasing_gwu (o : Option TestOutcome) (k : Option SuspendCause) (s : State) :
    (s.enterReleasing o k).gwu = s.gwu := rfl
@[simp] theorem State.enterReleasing_bhu (o : Option TestOutcome) (k : Option SuspendCause) (s : State) :
    (s.enterReleasing o k).bhu = s.bhu := rfl
@[simp] theorem State.enterReleasing_orh (o : Option TestOutcome) (k : Option SuspendCause) (s : State) :
    (s.enterReleasing o k).orh = s.orh := rfl
@[simp] theorem State.enterReleasing_pending (o : Option TestOutcome) (k : Option SuspendCause) (s : State) :
    (s.enterReleasing o k).pending = s.pending := rfl

/-! ### withSched -/

@[simp] theorem State.withSched_pins (x : Sched) (s : State) : (s.withSched x).pins = s.pins := rfl
@[simp] theorem State.withSched_cfg (x : Sched) (s : State) : (s.withSched x).cfg = s.cfg := rfl
@[simp] theorem State.withSched_now (x : Sched) (s : State) : (s.withSched x).now = s.now := rfl
@[simp] theorem State.withSched_lpb (x : Sched) (s : State) : (s.withSched x).lpb = s.lpb := rfl
@[simp] theorem State.withSched_ffu (x : Sched) (s : State) : (s.withSched x).ffu = s.ffu := rfl
@[simp] theorem State.withSched_cbi (x : Sched) (s : State) : (s.withSched x).cbi = s.cbi := rfl
@[simp] theorem State.withSched_pvw (x : Sched) (s : State) : (s.withSched x).pvw = s.pvw := rfl
@[simp] theorem State.withSched_shc (x : Sched) (s : State) : (s.withSched x).shc = s.shc := rfl
@[simp] theorem State.withSched_gwu (x : Sched) (s : State) : (s.withSched x).gwu = s.gwu := rfl
@[simp] theorem State.withSched_ten (x : Sched) (s : State) : (s.withSched x).ten = s.ten := rfl
@[simp] theorem State.withSched_bhu (x : Sched) (s : State) : (s.withSched x).bhu = s.bhu := rfl
@[simp] theorem State.withSched_orh (x : Sched) (s : State) : (s.withSched x).orh = s.orh := rfl
@[simp] theorem State.withSched_out (x : Sched) (s : State) : (s.withSched x).out = s.out := rfl
@[simp] theorem State.withSched_pending (x : Sched) (s : State) : (s.withSched x).pending = s.pending := rfl

/-! ### acceptUplink -/

@[simp] theorem State.acceptUplink_pins (i : StationId) (f : Frame) (s : State) :
    (s.acceptUplink i f).pins = s.pins := rfl
@[simp] theorem State.acceptUplink_cfg (i : StationId) (f : Frame) (s : State) :
    (s.acceptUplink i f).cfg = s.cfg := rfl
@[simp] theorem State.acceptUplink_now (i : StationId) (f : Frame) (s : State) :
    (s.acceptUplink i f).now = s.now := rfl
@[simp] theorem State.acceptUplink_lpb (i : StationId) (f : Frame) (s : State) :
    (s.acceptUplink i f).lpb = s.lpb := rfl
@[simp] theorem State.acceptUplink_ffu (i : StationId) (f : Frame) (s : State) :
    (s.acceptUplink i f).ffu = s.ffu := rfl
@[simp] theorem State.acceptUplink_cbi (i : StationId) (f : Frame) (s : State) :
    (s.acceptUplink i f).cbi = s.cbi := rfl
@[simp] theorem State.acceptUplink_pvw (i : StationId) (f : Frame) (s : State) :
    (s.acceptUplink i f).pvw = s.pvw := rfl
@[simp] theorem State.acceptUplink_shc (i : StationId) (f : Frame) (s : State) :
    (s.acceptUplink i f).shc = s.shc := rfl
@[simp] theorem State.acceptUplink_ups (i : StationId) (f : Frame) (s : State) :
    (s.acceptUplink i f).ups = s.ups := rfl
@[simp] theorem State.acceptUplink_ten (i : StationId) (f : Frame) (s : State) :
    (s.acceptUplink i f).ten = s.ten := rfl
@[simp] theorem State.acceptUplink_bhu (i : StationId) (f : Frame) (s : State) :
    (s.acceptUplink i f).bhu = s.bhu := rfl
@[simp] theorem State.acceptUplink_orh (i : StationId) (f : Frame) (s : State) :
    (s.acceptUplink i f).orh = s.orh := rfl
@[simp] theorem State.acceptUplink_out (i : StationId) (f : Frame) (s : State) :
    (s.acceptUplink i f).out = s.out := rfl
@[simp] theorem State.acceptUplink_pending (i : StationId) (f : Frame) (s : State) :
    (s.acceptUplink i f).pending = s.pending := rfl

/-! ### unblock -/

@[simp] theorem State.unblock_pins (s : State) : (s.unblock).pins = s.pins := rfl
@[simp] theorem State.unblock_cfg (s : State) : (s.unblock).cfg = s.cfg := rfl
@[simp] theorem State.unblock_now (s : State) : (s.unblock).now = s.now := rfl
@[simp] theorem State.unblock_lpb (s : State) : (s.unblock).lpb = s.lpb := rfl
@[simp] theorem State.unblock_ffu (s : State) : (s.unblock).ffu = s.ffu := rfl
@[simp] theorem State.unblock_cqm (s : State) : (s.unblock).cqm = s.cqm := rfl
@[simp] theorem State.unblock_cbi (s : State) : (s.unblock).cbi = s.cbi := rfl
@[simp] theorem State.unblock_pvw (s : State) : (s.unblock).pvw = s.pvw := rfl
@[simp] theorem State.unblock_shc (s : State) : (s.unblock).shc = s.shc := rfl
@[simp] theorem State.unblock_gwu (s : State) : (s.unblock).gwu = s.gwu := rfl
@[simp] theorem State.unblock_ten (s : State) : (s.unblock).ten = s.ten := rfl
@[simp] theorem State.unblock_bhu (s : State) : (s.unblock).bhu = s.bhu := rfl
@[simp] theorem State.unblock_orh (s : State) : (s.unblock).orh = s.orh := rfl
@[simp] theorem State.unblock_out (s : State) : (s.unblock).out = s.out := rfl
@[simp] theorem State.unblock_pending (s : State) : (s.unblock).pending = s.pending := rfl

/-! ### setRx -/

@[simp] theorem State.setRx_pins (r : Reception) (s : State) : (s.setRx r).pins = s.pins := rfl
@[simp] theorem State.setRx_cfg (r : Reception) (s : State) : (s.setRx r).cfg = s.cfg := rfl
@[simp] theorem State.setRx_now (r : Reception) (s : State) : (s.setRx r).now = s.now := rfl
@[simp] theorem State.setRx_lpb (r : Reception) (s : State) : (s.setRx r).lpb = s.lpb := rfl
@[simp] theorem State.setRx_ffu (r : Reception) (s : State) : (s.setRx r).ffu = s.ffu := rfl
@[simp] theorem State.setRx_cqm (r : Reception) (s : State) : (s.setRx r).cqm = s.cqm := rfl
@[simp] theorem State.setRx_pvw (r : Reception) (s : State) : (s.setRx r).pvw = s.pvw := rfl
@[simp] theorem State.setRx_shc (r : Reception) (s : State) : (s.setRx r).shc = s.shc := rfl
@[simp] theorem State.setRx_ups (r : Reception) (s : State) : (s.setRx r).ups = s.ups := rfl
@[simp] theorem State.setRx_gwu (r : Reception) (s : State) : (s.setRx r).gwu = s.gwu := rfl
@[simp] theorem State.setRx_ten (r : Reception) (s : State) : (s.setRx r).ten = s.ten := rfl
@[simp] theorem State.setRx_bhu (r : Reception) (s : State) : (s.setRx r).bhu = s.bhu := rfl
@[simp] theorem State.setRx_orh (r : Reception) (s : State) : (s.setRx r).orh = s.orh := rfl
@[simp] theorem State.setRx_out (r : Reception) (s : State) : (s.setRx r).out = s.out := rfl
@[simp] theorem State.setRx_pending (r : Reception) (s : State) : (s.setRx r).pending = s.pending := rfl

/-! ### holdFrame -/

@[simp] theorem State.holdFrame_pins (x : Held) (s : State) : (s.holdFrame x).pins = s.pins := rfl
@[simp] theorem State.holdFrame_cfg (x : Held) (s : State) : (s.holdFrame x).cfg = s.cfg := rfl
@[simp] theorem State.holdFrame_now (x : Held) (s : State) : (s.holdFrame x).now = s.now := rfl
@[simp] theorem State.holdFrame_lpb (x : Held) (s : State) : (s.holdFrame x).lpb = s.lpb := rfl
@[simp] theorem State.holdFrame_ffu (x : Held) (s : State) : (s.holdFrame x).ffu = s.ffu := rfl
@[simp] theorem State.holdFrame_cbi (x : Held) (s : State) : (s.holdFrame x).cbi = s.cbi := rfl
@[simp] theorem State.holdFrame_pvw (x : Held) (s : State) : (s.holdFrame x).pvw = s.pvw := rfl
@[simp] theorem State.holdFrame_shc (x : Held) (s : State) : (s.holdFrame x).shc = s.shc := rfl
@[simp] theorem State.holdFrame_ups (x : Held) (s : State) : (s.holdFrame x).ups = s.ups := rfl
@[simp] theorem State.holdFrame_gwu (x : Held) (s : State) : (s.holdFrame x).gwu = s.gwu := rfl
@[simp] theorem State.holdFrame_ten (x : Held) (s : State) : (s.holdFrame x).ten = s.ten := rfl
@[simp] theorem State.holdFrame_bhu (x : Held) (s : State) : (s.holdFrame x).bhu = s.bhu := rfl
@[simp] theorem State.holdFrame_out (x : Held) (s : State) : (s.holdFrame x).out = s.out := rfl
@[simp] theorem State.holdFrame_pending (x : Held) (s : State) : (s.holdFrame x).pending = s.pending := rfl

/-! ### badEnd -/

@[simp] theorem State.badEnd_pins (s : State) : (s.badEnd).pins = s.pins := rfl
@[simp] theorem State.badEnd_cfg (s : State) : (s.badEnd).cfg = s.cfg := rfl
@[simp] theorem State.badEnd_now (s : State) : (s.badEnd).now = s.now := rfl
@[simp] theorem State.badEnd_lpb (s : State) : (s.badEnd).lpb = s.lpb := rfl
@[simp] theorem State.badEnd_cbi (s : State) : (s.badEnd).cbi = s.cbi := rfl
@[simp] theorem State.badEnd_pvw (s : State) : (s.badEnd).pvw = s.pvw := rfl
@[simp] theorem State.badEnd_shc (s : State) : (s.badEnd).shc = s.shc := rfl
@[simp] theorem State.badEnd_ups (s : State) : (s.badEnd).ups = s.ups := rfl
@[simp] theorem State.badEnd_gwu (s : State) : (s.badEnd).gwu = s.gwu := rfl
@[simp] theorem State.badEnd_ten (s : State) : (s.badEnd).ten = s.ten := rfl
@[simp] theorem State.badEnd_bhu (s : State) : (s.badEnd).bhu = s.bhu := rfl
@[simp] theorem State.badEnd_orh (s : State) : (s.badEnd).orh = s.orh := rfl
@[simp] theorem State.badEnd_out (s : State) : (s.badEnd).out = s.out := rfl
@[simp] theorem State.badEnd_pending (s : State) : (s.badEnd).pending = s.pending := rfl

/-! ### driveClose -/

@[simp] theorem State.driveClose_pins (good : Bool) (s : State) : (s.driveClose good).pins = s.pins := rfl
@[simp] theorem State.driveClose_cfg (good : Bool) (s : State) : (s.driveClose good).cfg = s.cfg := rfl
@[simp] theorem State.driveClose_now (good : Bool) (s : State) : (s.driveClose good).now = s.now := rfl
@[simp] theorem State.driveClose_lpb (good : Bool) (s : State) : (s.driveClose good).lpb = s.lpb := rfl
@[simp] theorem State.driveClose_ffu (good : Bool) (s : State) : (s.driveClose good).ffu = s.ffu := rfl
@[simp] theorem State.driveClose_cqm (good : Bool) (s : State) : (s.driveClose good).cqm = s.cqm := rfl
@[simp] theorem State.driveClose_pvw (good : Bool) (s : State) : (s.driveClose good).pvw = s.pvw := rfl
@[simp] theorem State.driveClose_shc (good : Bool) (s : State) : (s.driveClose good).shc = s.shc := rfl
@[simp] theorem State.driveClose_ups (good : Bool) (s : State) : (s.driveClose good).ups = s.ups := rfl
@[simp] theorem State.driveClose_gwu (good : Bool) (s : State) : (s.driveClose good).gwu = s.gwu := rfl
@[simp] theorem State.driveClose_ten (good : Bool) (s : State) : (s.driveClose good).ten = s.ten := rfl
@[simp] theorem State.driveClose_bhu (good : Bool) (s : State) : (s.driveClose good).bhu = s.bhu := rfl
@[simp] theorem State.driveClose_orh (good : Bool) (s : State) : (s.driveClose good).orh = s.orh := rfl
@[simp] theorem State.driveClose_pending (good : Bool) (s : State) : (s.driveClose good).pending = s.pending := rfl

/-! ### observeBus -/

@[simp] theorem State.observeBus_pins (s : State) : (s.observeBus).pins = s.pins := rfl
@[simp] theorem State.observeBus_cfg (s : State) : (s.observeBus).cfg = s.cfg := rfl
@[simp] theorem State.observeBus_now (s : State) : (s.observeBus).now = s.now := rfl
@[simp] theorem State.observeBus_lpb (s : State) : (s.observeBus).lpb = s.lpb := rfl
@[simp] theorem State.observeBus_ffu (s : State) : (s.observeBus).ffu = s.ffu := rfl
@[simp] theorem State.observeBus_cqm (s : State) : (s.observeBus).cqm = s.cqm := rfl
@[simp] theorem State.observeBus_pvw (s : State) : (s.observeBus).pvw = s.pvw := rfl
@[simp] theorem State.observeBus_shc (s : State) : (s.observeBus).shc = s.shc := rfl
@[simp] theorem State.observeBus_ups (s : State) : (s.observeBus).ups = s.ups := rfl
@[simp] theorem State.observeBus_gwu (s : State) : (s.observeBus).gwu = s.gwu := rfl
@[simp] theorem State.observeBus_ten (s : State) : (s.observeBus).ten = s.ten := rfl
@[simp] theorem State.observeBus_bhu (s : State) : (s.observeBus).bhu = s.bhu := rfl
@[simp] theorem State.observeBus_orh (s : State) : (s.observeBus).orh = s.orh := rfl
@[simp] theorem State.observeBus_out (s : State) : (s.observeBus).out = s.out := rfl
@[simp] theorem State.observeBus_pending (s : State) : (s.observeBus).pending = s.pending := rfl

/-! ### contend -/

@[simp] theorem State.contend_pins (k : Contending) (s : State) : (s.contend k).pins = s.pins := rfl
@[simp] theorem State.contend_cfg (k : Contending) (s : State) : (s.contend k).cfg = s.cfg := rfl
@[simp] theorem State.contend_now (k : Contending) (s : State) : (s.contend k).now = s.now := rfl
@[simp] theorem State.contend_lpb (k : Contending) (s : State) : (s.contend k).lpb = s.lpb := rfl
@[simp] theorem State.contend_ffu (k : Contending) (s : State) : (s.contend k).ffu = s.ffu := rfl
@[simp] theorem State.contend_cqm (k : Contending) (s : State) : (s.contend k).cqm = s.cqm := rfl
@[simp] theorem State.contend_pvw (k : Contending) (s : State) : (s.contend k).pvw = s.pvw := rfl
@[simp] theorem State.contend_shc (k : Contending) (s : State) : (s.contend k).shc = s.shc := rfl
@[simp] theorem State.contend_ups (k : Contending) (s : State) : (s.contend k).ups = s.ups := rfl
@[simp] theorem State.contend_gwu (k : Contending) (s : State) : (s.contend k).gwu = s.gwu := rfl
@[simp] theorem State.contend_ten (k : Contending) (s : State) : (s.contend k).ten = s.ten := rfl
@[simp] theorem State.contend_bhu (k : Contending) (s : State) : (s.contend k).bhu = s.bhu := rfl
@[simp] theorem State.contend_orh (k : Contending) (s : State) : (s.contend k).orh = s.orh := rfl
@[simp] theorem State.contend_out (k : Contending) (s : State) : (s.contend k).out = s.out := rfl
@[simp] theorem State.contend_pending (k : Contending) (s : State) : (s.contend k).pending = s.pending := rfl

/-! ### openWindow -/

@[simp] theorem State.openWindow_pins (s : State) : (s.openWindow).pins = s.pins := rfl
@[simp] theorem State.openWindow_cfg (s : State) : (s.openWindow).cfg = s.cfg := rfl
@[simp] theorem State.openWindow_now (s : State) : (s.openWindow).now = s.now := rfl
@[simp] theorem State.openWindow_lpb (s : State) : (s.openWindow).lpb = s.lpb := rfl
@[simp] theorem State.openWindow_ffu (s : State) : (s.openWindow).ffu = s.ffu := rfl
@[simp] theorem State.openWindow_cqm (s : State) : (s.openWindow).cqm = s.cqm := rfl
@[simp] theorem State.openWindow_pvw (s : State) : (s.openWindow).pvw = s.pvw := rfl
@[simp] theorem State.openWindow_shc (s : State) : (s.openWindow).shc = s.shc := rfl
@[simp] theorem State.openWindow_ups (s : State) : (s.openWindow).ups = s.ups := rfl
@[simp] theorem State.openWindow_gwu (s : State) : (s.openWindow).gwu = s.gwu := rfl
@[simp] theorem State.openWindow_ten (s : State) : (s.openWindow).ten = s.ten := rfl
@[simp] theorem State.openWindow_bhu (s : State) : (s.openWindow).bhu = s.bhu := rfl
@[simp] theorem State.openWindow_orh (s : State) : (s.openWindow).orh = s.orh := rfl
@[simp] theorem State.openWindow_out (s : State) : (s.openWindow).out = s.out := rfl
@[simp] theorem State.openWindow_pending (s : State) : (s.openWindow).pending = s.pending := rfl

/-! ### makeCall -/

@[simp] theorem State.makeCall_pins (b : CallBody) (t : StationId) (ws : List Word) (s : State) :
    (s.makeCall b t ws).pins = s.pins := rfl
@[simp] theorem State.makeCall_cfg (b : CallBody) (t : StationId) (ws : List Word) (s : State) :
    (s.makeCall b t ws).cfg = s.cfg := rfl
@[simp] theorem State.makeCall_now (b : CallBody) (t : StationId) (ws : List Word) (s : State) :
    (s.makeCall b t ws).now = s.now := rfl
@[simp] theorem State.makeCall_lpb (b : CallBody) (t : StationId) (ws : List Word) (s : State) :
    (s.makeCall b t ws).lpb = s.lpb := rfl
@[simp] theorem State.makeCall_ffu (b : CallBody) (t : StationId) (ws : List Word) (s : State) :
    (s.makeCall b t ws).ffu = s.ffu := rfl
@[simp] theorem State.makeCall_cqm (b : CallBody) (t : StationId) (ws : List Word) (s : State) :
    (s.makeCall b t ws).cqm = s.cqm := rfl
@[simp] theorem State.makeCall_pvw (b : CallBody) (t : StationId) (ws : List Word) (s : State) :
    (s.makeCall b t ws).pvw = s.pvw := rfl
@[simp] theorem State.makeCall_shc (b : CallBody) (t : StationId) (ws : List Word) (s : State) :
    (s.makeCall b t ws).shc = s.shc := rfl
@[simp] theorem State.makeCall_ups (b : CallBody) (t : StationId) (ws : List Word) (s : State) :
    (s.makeCall b t ws).ups = s.ups := rfl
@[simp] theorem State.makeCall_gwu (b : CallBody) (t : StationId) (ws : List Word) (s : State) :
    (s.makeCall b t ws).gwu = s.gwu := rfl
@[simp] theorem State.makeCall_ten (b : CallBody) (t : StationId) (ws : List Word) (s : State) :
    (s.makeCall b t ws).ten = s.ten := rfl
@[simp] theorem State.makeCall_bhu (b : CallBody) (t : StationId) (ws : List Word) (s : State) :
    (s.makeCall b t ws).bhu = s.bhu := rfl
@[simp] theorem State.makeCall_orh (b : CallBody) (t : StationId) (ws : List Word) (s : State) :
    (s.makeCall b t ws).orh = s.orh := rfl
@[simp] theorem State.makeCall_pending (b : CallBody) (t : StationId) (ws : List Word) (s : State) :
    (s.makeCall b t ws).pending = s.pending := rfl

/-! ### charge -/

@[simp] theorem State.charge_pins (s : State) : (s.charge).pins = s.pins := rfl
@[simp] theorem State.charge_cfg (s : State) : (s.charge).cfg = s.cfg := rfl
@[simp] theorem State.charge_now (s : State) : (s.charge).now = s.now := rfl
@[simp] theorem State.charge_lpb (s : State) : (s.charge).lpb = s.lpb := rfl
@[simp] theorem State.charge_ffu (s : State) : (s.charge).ffu = s.ffu := rfl
@[simp] theorem State.charge_cqm (s : State) : (s.charge).cqm = s.cqm := rfl
@[simp] theorem State.charge_pvw (s : State) : (s.charge).pvw = s.pvw := rfl
@[simp] theorem State.charge_shc (s : State) : (s.charge).shc = s.shc := rfl
@[simp] theorem State.charge_ups (s : State) : (s.charge).ups = s.ups := rfl
@[simp] theorem State.charge_gwu (s : State) : (s.charge).gwu = s.gwu := rfl
@[simp] theorem State.charge_ten (s : State) : (s.charge).ten = s.ten := rfl
@[simp] theorem State.charge_bhu (s : State) : (s.charge).bhu = s.bhu := rfl
@[simp] theorem State.charge_orh (s : State) : (s.charge).orh = s.orh := rfl
@[simp] theorem State.charge_out (s : State) : (s.charge).out = s.out := rfl
@[simp] theorem State.charge_pending (s : State) : (s.charge).pending = s.pending := rfl

/-! ### leaveCall -/

@[simp] theorem State.leaveCall_pins (s : State) : (s.leaveCall).pins = s.pins := rfl
@[simp] theorem State.leaveCall_cfg (s : State) : (s.leaveCall).cfg = s.cfg := rfl
@[simp] theorem State.leaveCall_now (s : State) : (s.leaveCall).now = s.now := rfl
@[simp] theorem State.leaveCall_lpb (s : State) : (s.leaveCall).lpb = s.lpb := rfl
@[simp] theorem State.leaveCall_ffu (s : State) : (s.leaveCall).ffu = s.ffu := rfl
@[simp] theorem State.leaveCall_cqm (s : State) : (s.leaveCall).cqm = s.cqm := rfl
@[simp] theorem State.leaveCall_pvw (s : State) : (s.leaveCall).pvw = s.pvw := rfl
@[simp] theorem State.leaveCall_shc (s : State) : (s.leaveCall).shc = s.shc := rfl
@[simp] theorem State.leaveCall_ups (s : State) : (s.leaveCall).ups = s.ups := rfl
@[simp] theorem State.leaveCall_gwu (s : State) : (s.leaveCall).gwu = s.gwu := rfl
@[simp] theorem State.leaveCall_ten (s : State) : (s.leaveCall).ten = s.ten := rfl
@[simp] theorem State.leaveCall_bhu (s : State) : (s.leaveCall).bhu = s.bhu := rfl
@[simp] theorem State.leaveCall_orh (s : State) : (s.leaveCall).orh = s.orh := rfl
@[simp] theorem State.leaveCall_out (s : State) : (s.leaveCall).out = s.out := rfl
@[simp] theorem State.leaveCall_pending (s : State) : (s.leaveCall).pending = s.pending := rfl

/-! ### flushStn -/

@[simp] theorem State.flushStn_pins (i : StationId) (s : State) : (s.flushStn i).pins = s.pins := rfl
@[simp] theorem State.flushStn_cfg (i : StationId) (s : State) : (s.flushStn i).cfg = s.cfg := rfl
@[simp] theorem State.flushStn_now (i : StationId) (s : State) : (s.flushStn i).now = s.now := rfl
@[simp] theorem State.flushStn_lpb (i : StationId) (s : State) : (s.flushStn i).lpb = s.lpb := rfl
@[simp] theorem State.flushStn_ffu (i : StationId) (s : State) : (s.flushStn i).ffu = s.ffu := rfl
@[simp] theorem State.flushStn_cbi (i : StationId) (s : State) : (s.flushStn i).cbi = s.cbi := rfl
@[simp] theorem State.flushStn_pvw (i : StationId) (s : State) : (s.flushStn i).pvw = s.pvw := rfl
@[simp] theorem State.flushStn_shc (i : StationId) (s : State) : (s.flushStn i).shc = s.shc := rfl
@[simp] theorem State.flushStn_ups (i : StationId) (s : State) : (s.flushStn i).ups = s.ups := rfl
@[simp] theorem State.flushStn_gwu (i : StationId) (s : State) : (s.flushStn i).gwu = s.gwu := rfl
@[simp] theorem State.flushStn_ten (i : StationId) (s : State) : (s.flushStn i).ten = s.ten := rfl
@[simp] theorem State.flushStn_bhu (i : StationId) (s : State) : (s.flushStn i).bhu = s.bhu := rfl
@[simp] theorem State.flushStn_orh (i : StationId) (s : State) : (s.flushStn i).orh = s.orh := rfl
@[simp] theorem State.flushStn_out (i : StationId) (s : State) : (s.flushStn i).out = s.out := rfl
@[simp] theorem State.flushStn_pending (i : StationId) (s : State) : (s.flushStn i).pending = s.pending := rfl

/-! ### busFree -/

@[simp] theorem State.busFree_pins (s : State) : (s.busFree).pins = s.pins := rfl
@[simp] theorem State.busFree_cfg (s : State) : (s.busFree).cfg = s.cfg := rfl
@[simp] theorem State.busFree_now (s : State) : (s.busFree).now = s.now := rfl
@[simp] theorem State.busFree_lpb (s : State) : (s.busFree).lpb = s.lpb := rfl
@[simp] theorem State.busFree_ffu (s : State) : (s.busFree).ffu = s.ffu := rfl
@[simp] theorem State.busFree_cqm (s : State) : (s.busFree).cqm = s.cqm := rfl
@[simp] theorem State.busFree_pvw (s : State) : (s.busFree).pvw = s.pvw := rfl
@[simp] theorem State.busFree_shc (s : State) : (s.busFree).shc = s.shc := rfl
@[simp] theorem State.busFree_ups (s : State) : (s.busFree).ups = s.ups := rfl
@[simp] theorem State.busFree_gwu (s : State) : (s.busFree).gwu = s.gwu := rfl
@[simp] theorem State.busFree_ten (s : State) : (s.busFree).ten = s.ten := rfl
@[simp] theorem State.busFree_bhu (s : State) : (s.busFree).bhu = s.bhu := rfl
@[simp] theorem State.busFree_orh (s : State) : (s.busFree).orh = s.orh := rfl
@[simp] theorem State.busFree_out (s : State) : (s.busFree).out = s.out := rfl
@[simp] theorem State.busFree_pending (s : State) : (s.busFree).pending = s.pending := rfl

/-! ### resetCounts -/

@[simp] theorem State.resetCounts_pins (s : State) : (s.resetCounts).pins = s.pins := rfl
@[simp] theorem State.resetCounts_cfg (s : State) : (s.resetCounts).cfg = s.cfg := rfl
@[simp] theorem State.resetCounts_now (s : State) : (s.resetCounts).now = s.now := rfl
@[simp] theorem State.resetCounts_lpb (s : State) : (s.resetCounts).lpb = s.lpb := rfl
@[simp] theorem State.resetCounts_ffu (s : State) : (s.resetCounts).ffu = s.ffu := rfl
@[simp] theorem State.resetCounts_cqm (s : State) : (s.resetCounts).cqm = s.cqm := rfl
@[simp] theorem State.resetCounts_pvw (s : State) : (s.resetCounts).pvw = s.pvw := rfl
@[simp] theorem State.resetCounts_shc (s : State) : (s.resetCounts).shc = s.shc := rfl
@[simp] theorem State.resetCounts_ups (s : State) : (s.resetCounts).ups = s.ups := rfl
@[simp] theorem State.resetCounts_gwu (s : State) : (s.resetCounts).gwu = s.gwu := rfl
@[simp] theorem State.resetCounts_ten (s : State) : (s.resetCounts).ten = s.ten := rfl
@[simp] theorem State.resetCounts_bhu (s : State) : (s.resetCounts).bhu = s.bhu := rfl
@[simp] theorem State.resetCounts_orh (s : State) : (s.resetCounts).orh = s.orh := rfl
@[simp] theorem State.resetCounts_out (s : State) : (s.resetCounts).out = s.out := rfl
@[simp] theorem State.resetCounts_pending (s : State) : (s.resetCounts).pending = s.pending := rfl

/-! ### countReceived -/

@[simp] theorem State.countReceived_pins (n : Nat) (s : State) : (s.countReceived n).pins = s.pins := rfl
@[simp] theorem State.countReceived_cfg (n : Nat) (s : State) : (s.countReceived n).cfg = s.cfg := rfl
@[simp] theorem State.countReceived_now (n : Nat) (s : State) : (s.countReceived n).now = s.now := rfl
@[simp] theorem State.countReceived_lpb (n : Nat) (s : State) : (s.countReceived n).lpb = s.lpb := rfl
@[simp] theorem State.countReceived_ffu (n : Nat) (s : State) : (s.countReceived n).ffu = s.ffu := rfl
@[simp] theorem State.countReceived_cqm (n : Nat) (s : State) : (s.countReceived n).cqm = s.cqm := rfl
@[simp] theorem State.countReceived_cbi (n : Nat) (s : State) : (s.countReceived n).cbi = s.cbi := rfl
@[simp] theorem State.countReceived_pvw (n : Nat) (s : State) : (s.countReceived n).pvw = s.pvw := rfl
@[simp] theorem State.countReceived_shc (n : Nat) (s : State) : (s.countReceived n).shc = s.shc := rfl
@[simp] theorem State.countReceived_ups (n : Nat) (s : State) : (s.countReceived n).ups = s.ups := rfl
@[simp] theorem State.countReceived_ten (n : Nat) (s : State) : (s.countReceived n).ten = s.ten := rfl
@[simp] theorem State.countReceived_bhu (n : Nat) (s : State) : (s.countReceived n).bhu = s.bhu := rfl
@[simp] theorem State.countReceived_orh (n : Nat) (s : State) : (s.countReceived n).orh = s.orh := rfl
@[simp] theorem State.countReceived_out (n : Nat) (s : State) : (s.countReceived n).out = s.out := rfl
@[simp] theorem State.countReceived_pending (n : Nat) (s : State) : (s.countReceived n).pending = s.pending := rfl

/-! ### countMalformed -/

@[simp] theorem State.countMalformed_pins (s : State) : (s.countMalformed).pins = s.pins := rfl
@[simp] theorem State.countMalformed_cfg (s : State) : (s.countMalformed).cfg = s.cfg := rfl
@[simp] theorem State.countMalformed_now (s : State) : (s.countMalformed).now = s.now := rfl
@[simp] theorem State.countMalformed_lpb (s : State) : (s.countMalformed).lpb = s.lpb := rfl
@[simp] theorem State.countMalformed_ffu (s : State) : (s.countMalformed).ffu = s.ffu := rfl
@[simp] theorem State.countMalformed_cqm (s : State) : (s.countMalformed).cqm = s.cqm := rfl
@[simp] theorem State.countMalformed_cbi (s : State) : (s.countMalformed).cbi = s.cbi := rfl
@[simp] theorem State.countMalformed_pvw (s : State) : (s.countMalformed).pvw = s.pvw := rfl
@[simp] theorem State.countMalformed_shc (s : State) : (s.countMalformed).shc = s.shc := rfl
@[simp] theorem State.countMalformed_ups (s : State) : (s.countMalformed).ups = s.ups := rfl
@[simp] theorem State.countMalformed_ten (s : State) : (s.countMalformed).ten = s.ten := rfl
@[simp] theorem State.countMalformed_bhu (s : State) : (s.countMalformed).bhu = s.bhu := rfl
@[simp] theorem State.countMalformed_orh (s : State) : (s.countMalformed).orh = s.orh := rfl
@[simp] theorem State.countMalformed_out (s : State) : (s.countMalformed).out = s.out := rfl
@[simp] theorem State.countMalformed_pending (s : State) : (s.countMalformed).pending = s.pending := rfl

/-! ### handlerReport -/

@[simp] theorem State.handlerReport_pins (tag : Word) (i code : Byte) (r : Result) (s : State) :
    (s.handlerReport tag i code r).pins = s.pins := rfl
@[simp] theorem State.handlerReport_cfg (tag : Word) (i code : Byte) (r : Result) (s : State) :
    (s.handlerReport tag i code r).cfg = s.cfg := rfl
@[simp] theorem State.handlerReport_now (tag : Word) (i code : Byte) (r : Result) (s : State) :
    (s.handlerReport tag i code r).now = s.now := rfl
@[simp] theorem State.handlerReport_lpb (tag : Word) (i code : Byte) (r : Result) (s : State) :
    (s.handlerReport tag i code r).lpb = s.lpb := rfl
@[simp] theorem State.handlerReport_ffu (tag : Word) (i code : Byte) (r : Result) (s : State) :
    (s.handlerReport tag i code r).ffu = s.ffu := rfl
@[simp] theorem State.handlerReport_cqm (tag : Word) (i code : Byte) (r : Result) (s : State) :
    (s.handlerReport tag i code r).cqm = s.cqm := rfl
@[simp] theorem State.handlerReport_cbi (tag : Word) (i code : Byte) (r : Result) (s : State) :
    (s.handlerReport tag i code r).cbi = s.cbi := rfl
@[simp] theorem State.handlerReport_pvw (tag : Word) (i code : Byte) (r : Result) (s : State) :
    (s.handlerReport tag i code r).pvw = s.pvw := rfl
@[simp] theorem State.handlerReport_shc (tag : Word) (i code : Byte) (r : Result) (s : State) :
    (s.handlerReport tag i code r).shc = s.shc := rfl
@[simp] theorem State.handlerReport_ups (tag : Word) (i code : Byte) (r : Result) (s : State) :
    (s.handlerReport tag i code r).ups = s.ups := rfl
@[simp] theorem State.handlerReport_ten (tag : Word) (i code : Byte) (r : Result) (s : State) :
    (s.handlerReport tag i code r).ten = s.ten := rfl
@[simp] theorem State.handlerReport_bhu (tag : Word) (i code : Byte) (r : Result) (s : State) :
    (s.handlerReport tag i code r).bhu = s.bhu := rfl
@[simp] theorem State.handlerReport_orh (tag : Word) (i code : Byte) (r : Result) (s : State) :
    (s.handlerReport tag i code r).orh = s.orh := rfl
@[simp] theorem State.handlerReport_out (tag : Word) (i code : Byte) (r : Result) (s : State) :
    (s.handlerReport tag i code r).out = s.out := rfl
@[simp] theorem State.handlerReport_pending (tag : Word) (i code : Byte) (r : Result) (s : State) :
    (s.handlerReport tag i code r).pending = s.pending := rfl

/-! ### startGiving -/

@[simp] theorem State.startGiving_pins (g : Giving) (bytes : List Byte) (s : State) :
    (s.startGiving g bytes).pins = s.pins := rfl
@[simp] theorem State.startGiving_cfg (g : Giving) (bytes : List Byte) (s : State) :
    (s.startGiving g bytes).cfg = s.cfg := rfl
@[simp] theorem State.startGiving_now (g : Giving) (bytes : List Byte) (s : State) :
    (s.startGiving g bytes).now = s.now := rfl
@[simp] theorem State.startGiving_lpb (g : Giving) (bytes : List Byte) (s : State) :
    (s.startGiving g bytes).lpb = s.lpb := rfl
@[simp] theorem State.startGiving_ffu (g : Giving) (bytes : List Byte) (s : State) :
    (s.startGiving g bytes).ffu = s.ffu := rfl
@[simp] theorem State.startGiving_cqm (g : Giving) (bytes : List Byte) (s : State) :
    (s.startGiving g bytes).cqm = s.cqm := rfl
@[simp] theorem State.startGiving_cbi (g : Giving) (bytes : List Byte) (s : State) :
    (s.startGiving g bytes).cbi = s.cbi := rfl
@[simp] theorem State.startGiving_pvw (g : Giving) (bytes : List Byte) (s : State) :
    (s.startGiving g bytes).pvw = s.pvw := rfl
@[simp] theorem State.startGiving_shc (g : Giving) (bytes : List Byte) (s : State) :
    (s.startGiving g bytes).shc = s.shc := rfl
@[simp] theorem State.startGiving_ups (g : Giving) (bytes : List Byte) (s : State) :
    (s.startGiving g bytes).ups = s.ups := rfl
@[simp] theorem State.startGiving_ten (g : Giving) (bytes : List Byte) (s : State) :
    (s.startGiving g bytes).ten = s.ten := rfl
@[simp] theorem State.startGiving_bhu (g : Giving) (bytes : List Byte) (s : State) :
    (s.startGiving g bytes).bhu = s.bhu := rfl
@[simp] theorem State.startGiving_orh (g : Giving) (bytes : List Byte) (s : State) :
    (s.startGiving g bytes).orh = s.orh := rfl
@[simp] theorem State.startGiving_pending (g : Giving) (bytes : List Byte) (s : State) :
    (s.startGiving g bytes).pending = s.pending := rfl

/-! ### hearDuplicate -/

@[simp] theorem State.hearDuplicate_pins (s : State) : (s.hearDuplicate).pins = s.pins := rfl
@[simp] theorem State.hearDuplicate_cfg (s : State) : (s.hearDuplicate).cfg = s.cfg := rfl
@[simp] theorem State.hearDuplicate_now (s : State) : (s.hearDuplicate).now = s.now := rfl
@[simp] theorem State.hearDuplicate_lpb (s : State) : (s.hearDuplicate).lpb = s.lpb := rfl
@[simp] theorem State.hearDuplicate_ffu (s : State) : (s.hearDuplicate).ffu = s.ffu := rfl
@[simp] theorem State.hearDuplicate_cqm (s : State) : (s.hearDuplicate).cqm = s.cqm := rfl
@[simp] theorem State.hearDuplicate_cbi (s : State) : (s.hearDuplicate).cbi = s.cbi := rfl
@[simp] theorem State.hearDuplicate_shc (s : State) : (s.hearDuplicate).shc = s.shc := rfl
@[simp] theorem State.hearDuplicate_ups (s : State) : (s.hearDuplicate).ups = s.ups := rfl
@[simp] theorem State.hearDuplicate_gwu (s : State) : (s.hearDuplicate).gwu = s.gwu := rfl
@[simp] theorem State.hearDuplicate_ten (s : State) : (s.hearDuplicate).ten = s.ten := rfl
@[simp] theorem State.hearDuplicate_bhu (s : State) : (s.hearDuplicate).bhu = s.bhu := rfl
@[simp] theorem State.hearDuplicate_out (s : State) : (s.hearDuplicate).out = s.out := rfl
@[simp] theorem State.hearDuplicate_pending (s : State) : (s.hearDuplicate).pending = s.pending := rfl

/-! ### latch -/

@[simp] theorem State.latch_pins (s : State) : (s.latch).pins = s.pins := rfl
@[simp] theorem State.latch_cfg (s : State) : (s.latch).cfg = s.cfg := rfl
@[simp] theorem State.latch_now (s : State) : (s.latch).now = s.now := rfl
@[simp] theorem State.latch_lpb (s : State) : (s.latch).lpb = s.lpb := rfl
@[simp] theorem State.latch_ffu (s : State) : (s.latch).ffu = s.ffu := rfl
@[simp] theorem State.latch_cqm (s : State) : (s.latch).cqm = s.cqm := rfl
@[simp] theorem State.latch_shc (s : State) : (s.latch).shc = s.shc := rfl
@[simp] theorem State.latch_ups (s : State) : (s.latch).ups = s.ups := rfl
@[simp] theorem State.latch_gwu (s : State) : (s.latch).gwu = s.gwu := rfl
@[simp] theorem State.latch_ten (s : State) : (s.latch).ten = s.ten := rfl
@[simp] theorem State.latch_bhu (s : State) : (s.latch).bhu = s.bhu := rfl
@[simp] theorem State.latch_orh (s : State) : (s.latch).orh = s.orh := rfl
@[simp] theorem State.latch_out (s : State) : (s.latch).out = s.out := rfl
@[simp] theorem State.latch_pending (s : State) : (s.latch).pending = s.pending := rfl

/-! ### upsBoundary -/

@[simp] theorem State.upsBoundary_pins (s : State) : (s.upsBoundary).pins = s.pins := rfl
@[simp] theorem State.upsBoundary_cfg (s : State) : (s.upsBoundary).cfg = s.cfg := rfl
@[simp] theorem State.upsBoundary_now (s : State) : (s.upsBoundary).now = s.now := rfl
@[simp] theorem State.upsBoundary_ffu (s : State) : (s.upsBoundary).ffu = s.ffu := rfl
@[simp] theorem State.upsBoundary_cqm (s : State) : (s.upsBoundary).cqm = s.cqm := rfl
@[simp] theorem State.upsBoundary_cbi (s : State) : (s.upsBoundary).cbi = s.cbi := rfl
@[simp] theorem State.upsBoundary_pvw (s : State) : (s.upsBoundary).pvw = s.pvw := rfl
@[simp] theorem State.upsBoundary_shc (s : State) : (s.upsBoundary).shc = s.shc := rfl
@[simp] theorem State.upsBoundary_gwu (s : State) : (s.upsBoundary).gwu = s.gwu := rfl
@[simp] theorem State.upsBoundary_ten (s : State) : (s.upsBoundary).ten = s.ten := rfl
@[simp] theorem State.upsBoundary_bhu (s : State) : (s.upsBoundary).bhu = s.bhu := rfl
@[simp] theorem State.upsBoundary_orh (s : State) : (s.upsBoundary).orh = s.orh := rfl
@[simp] theorem State.upsBoundary_out (s : State) : (s.upsBoundary).out = s.out := rfl
@[simp] theorem State.upsBoundary_pending (s : State) : (s.upsBoundary).pending = s.pending := rfl

/-! ### choose -/

@[simp] theorem State.choose_pins (s : State) : (s.choose).pins = s.pins := rfl
@[simp] theorem State.choose_cfg (s : State) : (s.choose).cfg = s.cfg := rfl
@[simp] theorem State.choose_now (s : State) : (s.choose).now = s.now := rfl
@[simp] theorem State.choose_lpb (s : State) : (s.choose).lpb = s.lpb := rfl
@[simp] theorem State.choose_ffu (s : State) : (s.choose).ffu = s.ffu := rfl
@[simp] theorem State.choose_cqm (s : State) : (s.choose).cqm = s.cqm := rfl
@[simp] theorem State.choose_cbi (s : State) : (s.choose).cbi = s.cbi := rfl
@[simp] theorem State.choose_shc (s : State) : (s.choose).shc = s.shc := rfl
@[simp] theorem State.choose_ups (s : State) : (s.choose).ups = s.ups := rfl
@[simp] theorem State.choose_gwu (s : State) : (s.choose).gwu = s.gwu := rfl
@[simp] theorem State.choose_ten (s : State) : (s.choose).ten = s.ten := rfl
@[simp] theorem State.choose_bhu (s : State) : (s.choose).bhu = s.bhu := rfl
@[simp] theorem State.choose_out (s : State) : (s.choose).out = s.out := rfl
@[simp] theorem State.choose_pending (s : State) : (s.choose).pending = s.pending := rfl

/-! ### watches -/

@[simp] theorem State.watches_pins (s : State) : (s.watches).pins = s.pins := rfl
@[simp] theorem State.watches_cfg (s : State) : (s.watches).cfg = s.cfg := rfl
@[simp] theorem State.watches_now (s : State) : (s.watches).now = s.now := rfl
@[simp] theorem State.watches_lpb (s : State) : (s.watches).lpb = s.lpb := rfl
@[simp] theorem State.watches_ffu (s : State) : (s.watches).ffu = s.ffu := rfl
@[simp] theorem State.watches_cqm (s : State) : (s.watches).cqm = s.cqm := rfl
@[simp] theorem State.watches_cbi (s : State) : (s.watches).cbi = s.cbi := rfl
@[simp] theorem State.watches_shc (s : State) : (s.watches).shc = s.shc := rfl
@[simp] theorem State.watches_ups (s : State) : (s.watches).ups = s.ups := rfl
@[simp] theorem State.watches_gwu (s : State) : (s.watches).gwu = s.gwu := rfl
@[simp] theorem State.watches_ten (s : State) : (s.watches).ten = s.ten := rfl
@[simp] theorem State.watches_bhu (s : State) : (s.watches).bhu = s.bhu := rfl
@[simp] theorem State.watches_out (s : State) : (s.watches).out = s.out := rfl
@[simp] theorem State.watches_pending (s : State) : (s.watches).pending = s.pending := rfl

/-! ### leaveGateway -/

@[simp] theorem State.leaveGateway_pins (s : State) : (s.leaveGateway).pins = s.pins := rfl
@[simp] theorem State.leaveGateway_cfg (s : State) : (s.leaveGateway).cfg = s.cfg := rfl
@[simp] theorem State.leaveGateway_now (s : State) : (s.leaveGateway).now = s.now := rfl
@[simp] theorem State.leaveGateway_lpb (s : State) : (s.leaveGateway).lpb = s.lpb := rfl
@[simp] theorem State.leaveGateway_ffu (s : State) : (s.leaveGateway).ffu = s.ffu := rfl
@[simp] theorem State.leaveGateway_cbi (s : State) : (s.leaveGateway).cbi = s.cbi := rfl
@[simp] theorem State.leaveGateway_pvw (s : State) : (s.leaveGateway).pvw = s.pvw := rfl
@[simp] theorem State.leaveGateway_shc (s : State) : (s.leaveGateway).shc = s.shc := rfl
@[simp] theorem State.leaveGateway_ups (s : State) : (s.leaveGateway).ups = s.ups := rfl
@[simp] theorem State.leaveGateway_ten (s : State) : (s.leaveGateway).ten = s.ten := rfl
@[simp] theorem State.leaveGateway_bhu (s : State) : (s.leaveGateway).bhu = s.bhu := rfl
@[simp] theorem State.leaveGateway_orh (s : State) : (s.leaveGateway).orh = s.orh := rfl
@[simp] theorem State.leaveGateway_out (s : State) : (s.leaveGateway).out = s.out := rfl
@[simp] theorem State.leaveGateway_pending (s : State) : (s.leaveGateway).pending = s.pending := rfl

/-! ### enterGateway -/

@[simp] theorem State.enterGateway_pins (s : State) : (s.enterGateway).pins = s.pins := rfl
@[simp] theorem State.enterGateway_cfg (s : State) : (s.enterGateway).cfg = s.cfg := rfl
@[simp] theorem State.enterGateway_now (s : State) : (s.enterGateway).now = s.now := rfl
@[simp] theorem State.enterGateway_lpb (s : State) : (s.enterGateway).lpb = s.lpb := rfl
@[simp] theorem State.enterGateway_ffu (s : State) : (s.enterGateway).ffu = s.ffu := rfl
@[simp] theorem State.enterGateway_cqm (s : State) : (s.enterGateway).cqm = s.cqm := rfl
@[simp] theorem State.enterGateway_cbi (s : State) : (s.enterGateway).cbi = s.cbi := rfl
@[simp] theorem State.enterGateway_pvw (s : State) : (s.enterGateway).pvw = s.pvw := rfl
@[simp] theorem State.enterGateway_shc (s : State) : (s.enterGateway).shc = s.shc := rfl
@[simp] theorem State.enterGateway_ups (s : State) : (s.enterGateway).ups = s.ups := rfl
@[simp] theorem State.enterGateway_ten (s : State) : (s.enterGateway).ten = s.ten := rfl
@[simp] theorem State.enterGateway_bhu (s : State) : (s.enterGateway).bhu = s.bhu := rfl
@[simp] theorem State.enterGateway_orh (s : State) : (s.enterGateway).orh = s.orh := rfl
@[simp] theorem State.enterGateway_out (s : State) : (s.enterGateway).out = s.out := rfl
@[simp] theorem State.enterGateway_pending (s : State) : (s.enterGateway).pending = s.pending := rfl

/-! ### updUps -/

@[simp] theorem State.updUps_pins (h : HomeId) (f : UpsHome → UpsHome) (s : State) :
    (s.updUps h f).pins = s.pins := rfl
@[simp] theorem State.updUps_cfg (h : HomeId) (f : UpsHome → UpsHome) (s : State) : (s.updUps h f).cfg = s.cfg := rfl
@[simp] theorem State.updUps_now (h : HomeId) (f : UpsHome → UpsHome) (s : State) : (s.updUps h f).now = s.now := rfl
@[simp] theorem State.updUps_lpb (h : HomeId) (f : UpsHome → UpsHome) (s : State) : (s.updUps h f).lpb = s.lpb := rfl
@[simp] theorem State.updUps_ffu (h : HomeId) (f : UpsHome → UpsHome) (s : State) : (s.updUps h f).ffu = s.ffu := rfl
@[simp] theorem State.updUps_cqm (h : HomeId) (f : UpsHome → UpsHome) (s : State) : (s.updUps h f).cqm = s.cqm := rfl
@[simp] theorem State.updUps_cbi (h : HomeId) (f : UpsHome → UpsHome) (s : State) : (s.updUps h f).cbi = s.cbi := rfl
@[simp] theorem State.updUps_pvw (h : HomeId) (f : UpsHome → UpsHome) (s : State) : (s.updUps h f).pvw = s.pvw := rfl
@[simp] theorem State.updUps_shc (h : HomeId) (f : UpsHome → UpsHome) (s : State) : (s.updUps h f).shc = s.shc := rfl
@[simp] theorem State.updUps_gwu (h : HomeId) (f : UpsHome → UpsHome) (s : State) : (s.updUps h f).gwu = s.gwu := rfl
@[simp] theorem State.updUps_ten (h : HomeId) (f : UpsHome → UpsHome) (s : State) : (s.updUps h f).ten = s.ten := rfl
@[simp] theorem State.updUps_bhu (h : HomeId) (f : UpsHome → UpsHome) (s : State) : (s.updUps h f).bhu = s.bhu := rfl
@[simp] theorem State.updUps_orh (h : HomeId) (f : UpsHome → UpsHome) (s : State) : (s.updUps h f).orh = s.orh := rfl
@[simp] theorem State.updUps_out (h : HomeId) (f : UpsHome → UpsHome) (s : State) : (s.updUps h f).out = s.out := rfl
@[simp] theorem State.updUps_pending (h : HomeId) (f : UpsHome → UpsHome) (s : State) :
    (s.updUps h f).pending = s.pending := rfl

/-! ### putFilter -/

@[simp] theorem State.putFilter_pins (i : FilterId) (f : Filter) (s : State) : (s.putFilter i f).pins = s.pins := rfl
@[simp] theorem State.putFilter_cfg (i : FilterId) (f : Filter) (s : State) : (s.putFilter i f).cfg = s.cfg := rfl
@[simp] theorem State.putFilter_now (i : FilterId) (f : Filter) (s : State) : (s.putFilter i f).now = s.now := rfl
@[simp] theorem State.putFilter_lpb (i : FilterId) (f : Filter) (s : State) : (s.putFilter i f).lpb = s.lpb := rfl
@[simp] theorem State.putFilter_cqm (i : FilterId) (f : Filter) (s : State) : (s.putFilter i f).cqm = s.cqm := rfl
@[simp] theorem State.putFilter_cbi (i : FilterId) (f : Filter) (s : State) : (s.putFilter i f).cbi = s.cbi := rfl
@[simp] theorem State.putFilter_pvw (i : FilterId) (f : Filter) (s : State) : (s.putFilter i f).pvw = s.pvw := rfl
@[simp] theorem State.putFilter_shc (i : FilterId) (f : Filter) (s : State) : (s.putFilter i f).shc = s.shc := rfl
@[simp] theorem State.putFilter_ups (i : FilterId) (f : Filter) (s : State) : (s.putFilter i f).ups = s.ups := rfl
@[simp] theorem State.putFilter_gwu (i : FilterId) (f : Filter) (s : State) : (s.putFilter i f).gwu = s.gwu := rfl
@[simp] theorem State.putFilter_ten (i : FilterId) (f : Filter) (s : State) : (s.putFilter i f).ten = s.ten := rfl
@[simp] theorem State.putFilter_bhu (i : FilterId) (f : Filter) (s : State) : (s.putFilter i f).bhu = s.bhu := rfl
@[simp] theorem State.putFilter_orh (i : FilterId) (f : Filter) (s : State) : (s.putFilter i f).orh = s.orh := rfl
@[simp] theorem State.putFilter_out (i : FilterId) (f : Filter) (s : State) : (s.putFilter i f).out = s.out := rfl
@[simp] theorem State.putFilter_pending (i : FilterId) (f : Filter) (s : State) :
    (s.putFilter i f).pending = s.pending := rfl

end Sys2Proof.Machine
end

