-- ==== Sys2Proof/Laws/Ops.lean ====
section
/-! SUPPORT. Facts about the shared operations that proofs cite in place of their definitions: tables, cell counts, the
data of reports, the free count, homes, the fitting, what the end of a command may write, and the entry an ORDER or REPORT
call reserves. -/

namespace Sys2Proof

/-! ## Tables -/

@[simp] theorem Tab.at_put_self {n : Nat} {α : Type} (t : Tab n α) (i : Fin n) (x : α) : (t.put i x).at i = x := by
  simp [Tab.at, Tab.put]

theorem Tab.at_put_of_ne {n : Nat} {α : Type} (t : Tab n α) (i j : Fin n) (x : α) (h : j ≠ i) :
    (t.put i x).at j = t.at j := by
  have h' : i.val ≠ j.val := fun e => h (Fin.ext e.symm)
  simp [Tab.at, Tab.put, h']

theorem Tab.at_put {n : Nat} {α : Type} (t : Tab n α) (i j : Fin n) (x : α) :
    (t.put i x).at j = if j = i then x else t.at j := by
  by_cases h : j = i
  · subst h; simp
  · rw [Tab.at_put_of_ne t i j x h, if_neg h]

@[simp] theorem Tab.put_put {n : Nat} {α : Type} (t : Tab n α) (i : Fin n) (x y : α) :
    (t.put i x).put i y = t.put i y := by
  simp [Tab.put]

@[simp] theorem Tab.at_all {n : Nat} {α : Type} (x : α) (i : Fin n) : (Tab.all x : Tab n α).at i = x := by
  simp [Tab.at, Tab.all]

@[simp] theorem Tab.at_make {n : Nat} {α : Type} (f : Fin n → α) (i : Fin n) : (Tab.make f).at i = f i := by
  simp [Tab.at, Tab.make]

theorem Tab.ext_at {n : Nat} {α : Type} (t u : Tab n α) (h : ∀ i, t.at i = u.at i) : t = u := by
  apply Vector.ext
  intro i hi
  exact h ⟨i, hi⟩

@[simp] theorem Tab.put_at_self {n : Nat} {α : Type} (t : Tab n α) (i : Fin n) : t.put i (t.at i) = t := by
  apply Tab.ext_at
  intro j
  rw [Tab.at_put]
  split
  · rename_i e; rw [e]
  · rfl

@[simp] theorem Tab.at_upd_self {n : Nat} {α : Type} (t : Tab n α) (i : Fin n) (f : α → α) :
    (t.upd i f).at i = f (t.at i) := by
  simp [Tab.upd]

theorem Tab.at_upd {n : Nat} {α : Type} (t : Tab n α) (i j : Fin n) (f : α → α) :
    (t.upd i f).at j = if j = i then f (t.at j) else t.at j := by
  unfold Tab.upd
  rw [Tab.at_put]
  split
  · rename_i e; rw [e]
  · rfl

@[simp] theorem Tab.upd_upd {n : Nat} {α : Type} (t : Tab n α) (i : Fin n) (f g : α → α) :
    (t.upd i f).upd i g = t.upd i fun x => g (f x) := by
  simp [Tab.upd]

theorem mem_homeIds (h : HomeId) : h ∈ homeIds := by revert h; decide

theorem nodup_homeIds : homeIds.Nodup := by decide

/-! ## Cells and bytes of queues -/

@[simp] theorem cellCount_nil : cellCount [] = 0 := rfl

@[simp] theorem cellCount_cons (f : Frame) (q : List Frame) : cellCount (f :: q) = f.cells + cellCount q := by
  simp [cellCount]

@[simp] theorem cellCount_append (p q : List Frame) : cellCount (p ++ q) = cellCount p + cellCount q := by
  simp [cellCount]

@[simp] theorem byteCount_nil : byteCount [] = 0 := rfl

@[simp] theorem byteCount_cons (f : Frame) (q : List Frame) : byteCount (f :: q) = f.length + byteCount q := by
  simp [byteCount]

@[simp] theorem byteCount_append (p q : List Frame) : byteCount (p ++ q) = byteCount p + byteCount q := by
  simp [byteCount]

@[simp] theorem Frame.mark_cells (f : Frame) : f.mark.cells = f.cells := rfl

@[simp] theorem Frame.mark_length (f : Frame) : f.mark.length = f.length := rfl

@[simp] theorem Frame.mark_home (f : Frame) : f.mark.home = f.home := rfl

/-- A sum over a table's queues when one queue is replaced. -/
theorem tabSum_put (w : List Frame → Nat) (t : Tab 8 (List Frame)) (i : Fin 8) (q : List Frame) :
    (homeIds.map fun j => w ((t.put i q).at j)).sum + w (t.at i) = (homeIds.map fun j => w (t.at j)).sum + w q := by
  have key : ∀ l : List HomeId, l.Nodup → i ∈ l →
      (l.map fun j => w ((t.put i q).at j)).sum + w (t.at i) = (l.map fun j => w (t.at j)).sum + w q := by
    intro l
    induction l with
    | nil => intro _ h; cases h
    | cons a l ih =>
      intro hn hi
      have hn' := List.nodup_cons.mp hn
      by_cases h : a = i
      · subst h
        have same : (l.map fun j => w ((t.put a q).at j)) = l.map fun j => w (t.at j) := by
          apply List.map_congr_left
          intro j hj
          have : j ≠ a := fun e => hn'.1 (e ▸ hj)
          rw [Tab.at_put_of_ne t a j q this]
        simp only [List.map_cons, List.sum_cons, same, Tab.at_put_self]
        omega
      · have hi' : i ∈ l := by
          cases hi with
          | head => exact absurd rfl h
          | tail _ h' => exact h'
        have := ih hn'.2 hi'
        simp only [List.map_cons, List.sum_cons, Tab.at_put_of_ne t i a q h]
        omega
  exact key homeIds nodup_homeIds (mem_homeIds i)

/-! ## The data of a report -/

/-- A report that the tables give no data has no words (R182 to R184). -/
theorem ReportBody.words_of_bare (b : ReportBody) (h : b.bare = true) : b.words = [] := by
  unfold ReportBody.words
  rw [if_pos h]

/-- A reply that fits is at most 1024 words long (R183). -/
theorem ReportBody.wholeWords_length_le (b : ReportBody) : b.wholeWords.length ≤ 1024 := by
  have := (Config.fittingWords b).1.isLt
  simp only [ReportBody.wholeWords, List.length_map, List.length_range]
  omega

/-- A reply that fits has data, and carries all of it (R183). -/
theorem ReportBody.words_of_fits (b : ReportBody) (h : b.fits = true) : b.words = b.wholeWords := by
  have hb : b.bare = false := by
    revert h
    unfold ReportBody.fits ReportBody.bare
    split <;> simp
  unfold ReportBody.words
  rw [if_neg (by simp [hb]), if_pos h]

/-- The data of a report is at most 1024 words (R183). -/
theorem ReportBody.words_length_le (b : ReportBody) : b.words.length ≤ 1024 := by
  unfold ReportBody.words
  split
  · simp
  · split
    · exact b.wholeWords_length_le
    · split
      · assumption
      · split <;> simp [List.length_take]

end Sys2Proof

namespace Sys2Proof.Machine

/-! ## The free count -/

@[simp] theorem Cqm.setFree_free (n : Nat) (c : Cqm) : (c.setFree n).free = n := rfl

/-- After the free count is set, the pause stands as R32 asks, whatever it was. -/
theorem Cqm.setFree_pause_follows (n : Nat) (c : Cqm) :
    (n < 256 → (c.setFree n).pause = true) ∧ (384 ≤ n → (c.setFree n).pause = false) := by
  unfold Cqm.setFree
  constructor
  · intro h; simp [h]
  · intro h
    have h' : ¬n < 256 := by omega
    simp [h', h]

@[simp] theorem State.alloc_free (n : Nat) (s : State) : (s.alloc n).cqm.free = s.cqm.free - n := rfl

@[simp] theorem State.release_free (n : Nat) (s : State) : (s.release n).cqm.free = s.cqm.free + n := rfl

/-! ## Homes -/

@[simp] theorem State.home_updHome_self (h : HomeId) (f : Home → Home) (s : State) :
    (s.updHome h f).home h = f (s.home h) := by
  simp [State.updHome, State.home]

theorem State.home_updHome_of_ne (h k : HomeId) (f : Home → Home) (s : State) (ne : k ≠ h) :
    (s.updHome h f).home k = s.home k := by
  simp [State.updHome, State.home, Tab.at_upd, ne]

@[simp] theorem State.home_moveTo_self (st : Service) (h : HomeId) (s : State) :
    (s.moveTo st h).home h = { s.home h with service := st } := by
  simp [State.moveTo, State.home]

theorem State.home_moveTo_of_ne (st : Service) (h k : HomeId) (s : State) (ne : k ≠ h) :
    (s.moveTo st h).home k = s.home k := by
  simp [State.moveTo, State.home, Tab.at_upd, ne]

@[simp] theorem State.service_moveTo_self (st : Service) (h : HomeId) (s : State) : (s.moveTo st h).service h = st := by
  simp [State.service]

theorem State.service_moveTo_of_ne (st : Service) (h k : HomeId) (s : State) (ne : k ≠ h) :
    (s.moveTo st h).service k = s.service k := by
  simp [State.service, State.home_moveTo_of_ne st h k s ne]

@[simp] theorem State.service_count (h k : HomeId) (f : HomeCounters → HomeCounters) (s : State) :
    (s.count h f).service k = s.service k := by
  by_cases e : k = h
  · subst e; simp [State.count, State.service]
  · simp [State.count, State.service, State.home_updHome_of_ne h k _ s e]

/-! ## Replies -/

/-- A reply takes the reserved entry and ends the execution (R182). -/
theorem State.reply_of_executing (r : Result) (d : ReplyData) (s : State) (o : Order) (h : s.orh.executing = some o) :
    s.reply r d = { s with orh := { s.orh with
      queue := s.orh.queue ++ [⟨o.tag, .reply o.code r d⟩], executing := none } } := by
  unfold State.reply
  rw [h]

/-- A reply changes nothing but the Order Handler, and leaves the entries taken as they are. -/
theorem State.reply_spec (r : Result) (d : ReplyData) (s : State) :
    ∃ o : Orh, s.reply r d = { s with orh := o } ∧ o.entries = s.orh.entries ∧ o.events = s.orh.events := by
  unfold State.reply
  split
  · exact ⟨s.orh, rfl, rfl, rfl⟩
  · rename_i o h
    refine ⟨_, rfl, ?_, ?_⟩
    · simp [Orh.entries, h]
    · simp [Orh.events, Report.isEvent, ReportBody.isEvent, List.filter_append]

/-- An event offered takes an entry within the bounds of R184 or is counted as lost. -/
theorem Orh.offer_spec (e : Event) (o : Orh) :
    (o.offer e).executing = o.executing ∧ (o.offer e).restart = o.restart ∧
      ((o.offer e).queue = o.queue ++ [⟨0, .event e⟩] ∧ o.events < 12 ∧ o.entries < 16 ∨
        (o.offer e).queue = o.queue ∧ (o.offer e).lostEvents = sat32 o.lostEvents 1) := by
  unfold Orh.offer
  split
  · rename_i h; exact ⟨rfl, rfl, Or.inl ⟨rfl, h⟩⟩
  · exact ⟨rfl, rfl, Or.inr ⟨rfl, rfl⟩⟩

/-! ## Requests and the fitting -/

/-- After the requests are recalled, wake abandons alone stand (log 59). -/
theorem State.mem_recall_requests (s : State) (r : ModeRequest × HomeId) :
    r ∈ s.recall.bhu.requests ↔ r ∈ s.bhu.requests ∧ r.1 = .abandon := by
  simp [State.recall]

/-- A home whose WAKE is recalled is in SLEEP and was not queued. -/
theorem State.mem_unwoken (s : State) (h : HomeId) (m : h ∈ s.unwoken) : s.service h = .sleep ∧ h ∉ s.bhu.wakeQ := by
  unfold State.unwoken at m
  have := (List.mem_filter.mp m).2
  simpa using this

/-- A recall keeps the wake queue's homes asleep (R176). -/
theorem State.recall_wakeQ_sleeps (s : State) (hs : ∀ h ∈ s.bhu.wakeQ, s.service h = .sleep) :
    ∀ h ∈ s.recall.bhu.wakeQ, s.recall.service h = .sleep := by
  intro h hm
  rcases List.mem_append.mp (show h ∈ s.unwoken ++ s.bhu.wakeQ from hm) with hu | hq
  · exact (State.mem_unwoken s h hu).1
  · exact hs h hq

/-- A fitting writes the unit's own record and requests, on the state with its old requests recalled, and nothing else
(R171 to R173). -/
theorem State.fit_spec (a : Nat) (s : State) :
    s.fit a = { s with bhu := { s.bhu with
      outcome := (s.recall.fitting a).outcome
      reserve := (s.recall.fitting a).reserve
      remaining := (s.recall.fitting a).remaining
      requests := s.recall.bhu.requests ++ s.recall.fittingRequests (s.recall.fitting a)
      wakeQ := s.recall.bhu.wakeQ.filter fun h => !(s.recall.fittingRequests (s.recall.fitting a)).contains (.wake, h)
      batch := [] } } := rfl

/-- A power round makes the power calculation, then the fitting, and may then suspend a holding test (R107, R164,
R171). -/
theorem State.powerRound_spec (s : State) :
    s.powerRound = s.powerCalc.fit (s.powerCalc.shc.a.getD 0) ∨
      s.powerRound = (s.powerCalc.fit (s.powerCalc.shc.a.getD 0)).suspend .power := by
  unfold State.powerRound State.batteryCut
  dsimp only
  split
  · exact Or.inr rfl
  · exact Or.inl rfl

/-! ## Ending a test, entering TRAINING, placing frames -/

/-- A suspension acts on a test in CONNECTING or MEASURING only (R164). -/
theorem State.suspend_spec (k : SuspendCause) (s : State) :
    (s.testHolding = true → s.suspend k = s.enterReleasing none (some k)) ∧ (s.testHolding = false → s.suspend k = s) := by
  unfold State.suspend
  constructor <;> intro h <;> simp [h]

/-- An end of a test acts on a test in CONNECTING or MEASURING only (R163). -/
theorem State.endTest_spec (o : TestOutcome) (s : State) :
    (s.testHolding = true → s.endTest o = s.enterReleasing (some o) none) ∧ (s.testHolding = false → s.endTest o = s) := by
  unfold State.endTest
  constructor <;> intro h <;> simp [h]

/-- A home entering TRAINING trains, or goes to SLEEP, with a power round when it does not fit (R175). -/
theorem State.enterTraining_spec (h : HomeId) (s : State) :
    s.enterTraining h = s.moveTo .training h ∨ s.enterTraining h = (s.moveTo .training h).toSleep h ∨
      s.enterTraining h = ((s.moveTo .training h).toSleep h).powerRound := by
  unfold State.enterTraining
  dsimp only
  split
  · exact Or.inl rfl
  · split
    · exact Or.inl rfl
    · split
      · exact Or.inr (Or.inl rfl)
      · exact Or.inr (Or.inr rfl)

/-- An upstream frame handed to the CQM is counted as a drop, or placed with the critical check passed and its home's
limit kept (R27). -/
theorem State.placeUp_spec (h : HomeId) (f : Frame) (s : State) :
    (∃ r, s.placeUp h f = s.count h (countUpDrop r 1)) ∨
      (64 ≤ s.cqm.free ∧ cellCount (s.cqm.up.at h) + f.cells ≤ s.cfg.upLimits.at h ∧
        s.placeUp h f = (((s.alloc f.cells).joinUp h f).count h (countUpFrame f.length)).addVolume h f.length) := by
  unfold State.placeUp
  split
  · rename_i r _; exact Or.inl ⟨r, rfl⟩
  · rename_i hr
    right
    unfold State.upRefusal State.critical Config.critical at hr
    split at hr
    · cases hr
    · split at hr
      · cases hr
      · split at hr
        · cases hr
        · rename_i _ hc hl
          refine ⟨?_, ?_, rfl⟩
          · simpa using hc
          · unfold Frame.cells; omega

/-- A learned address list keeps at most four addresses, distinct, none with its group bit set (R18). -/
theorem learnAddress_fits (a : Addr) (l : List Addr) (h : l.length ≤ 4 ∧ l.Nodup ∧ ∀ x ∈ l, groupBit x = false) :
    (learnAddress a l).length ≤ 4 ∧ (learnAddress a l).Nodup ∧ ∀ x ∈ learnAddress a l, groupBit x = false := by
  obtain ⟨h1, h2, h3⟩ := h
  unfold learnAddress
  split
  · exact ⟨h1, h2, h3⟩
  · rename_i ha
    have g : groupBit a = false := by
      cases e : groupBit a
      · rfl
      · exact absurd (Or.inl e) ha
    have m : a ∉ l := fun e => ha (Or.inr e)
    have grow (k : List Addr) (sub : ∀ x ∈ k, x ∈ l) (nd : k.Nodup) (len : k.length ≤ 3) :
        (k ++ [a]).length ≤ 4 ∧ (k ++ [a]).Nodup ∧ ∀ x ∈ k ++ [a], groupBit x = false := by
      refine ⟨?_, ?_, ?_⟩
      · simp; omega
      · rw [List.nodup_append]
        refine ⟨nd, by simp, ?_⟩
        intro x hx y hy e
        simp at hy
        exact m (hy ▸ e ▸ sub x hx)
      · intro x hx
        rcases List.mem_append.mp hx with hx | hx
        · exact h3 x (sub x hx)
        · simp at hx; rw [hx]; exact g
    split
    · rename_i hl
      exact grow l.tail (fun x hx => List.mem_of_mem_tail hx) (h2.sublist (List.tail_sublist l)) (by simp; omega)
    · rename_i hl
      exact grow l (fun _ hx => hx) h2 (by omega)

/-! ## The end of a command -/

/-- A late withdrawal that takes effect removes the call contended for, and tells the Test Engine, only (R61). -/
theorem State.withdrawContended_spec (s : State) :
    ∃ c q w, s.withdrawContended = { s with
        cbi := { s.cbi with claim := c, quiet := q }, ten := { s.ten with withdrawal := w } } ∧
      (c = s.cbi.claim ∨ c = none) ∧ (q = s.cbi.quiet ∨ q = none) := by
  have keep : ∃ c q w, s = { s with
        cbi := { s.cbi with claim := c, quiet := q }, ten := { s.ten with withdrawal := w } } ∧
      (c = s.cbi.claim ∨ c = none) ∧ (q = s.cbi.quiet ∨ q = none) :=
    ⟨s.cbi.claim, s.cbi.quiet, s.ten.withdrawal, rfl, .inl rfl, .inl rfl⟩
  unfold State.withdrawContended
  split
  · unfold State.claimRemoved
    split
    · split
      · exact ⟨none, s.cbi.quiet, _, rfl, .inr rfl, .inl rfl⟩
      · exact keep
    · exact keep
  · refine ⟨s.cbi.claim, _, s.ten.withdrawal, rfl, .inl rfl, ?_⟩
    cases s.cbi.quiet with
    | none => exact .inl rfl
    | some q => cases h : q.withdrawn <;> simp [h]
  · exact keep

/-- A CLAIM withdrawn changes its call, and the Test Engine's withdrawal, only. -/
theorem State.withdrawClaim_spec (r : Option StationId) (s : State) :
    ∃ (c : Option ClaimCall) (o : Option OwnCall) (w : Option Withdrawal),
      s.withdrawClaim r = { s with cbi := { s.cbi with claim := c, call := o }, ten := { s.ten with withdrawal := w } } := by
  unfold State.withdrawClaim
  split
  · split
    · exact ⟨_, s.cbi.call, _, rfl⟩
    · exact ⟨_, s.cbi.call, _, rfl⟩
  · exact ⟨s.cbi.claim, _, _, rfl⟩
  · exact ⟨s.cbi.claim, s.cbi.call, _, rfl⟩

/-- Stepping back changes the test state and what a withdrawal changes. -/
theorem State.stepBack_spec (st : TestState) (s : State) :
    ∃ (c : Option ClaimCall) (o : Option OwnCall) (w : Option Withdrawal),
      s.stepBack st = { s with cbi := { s.cbi with claim := c, call := o },
                               ten := { s.ten with state := st, withdrawal := w } } := by
  unfold State.stepBack
  split
  · obtain ⟨c, o, w, h⟩ := State.withdrawClaim_spec none s
    exact ⟨c, o, w, by rw [h]⟩
  · exact ⟨s.cbi.claim, s.cbi.call, s.ten.withdrawal, rfl⟩

/-- The examination of the head entry changes the test state, its withdrawal, and the CLAIM, only (R150, R151). -/
theorem State.examine_spec (s : State) :
    ∃ (st : TestState) (c : Option ClaimCall) (o : Option OwnCall) (w : Option Withdrawal),
      s.examine = { s with cbi := { s.cbi with claim := c, call := o },
                           ten := { s.ten with state := st, withdrawal := w } } := by
  have back (st : TestState) : ∃ (t : TestState) (c : Option ClaimCall) (o : Option OwnCall) (w : Option Withdrawal),
      s.stepBack st = { s with cbi := { s.cbi with claim := c, call := o },
                               ten := { s.ten with state := t, withdrawal := w } } := by
    obtain ⟨c, o, w, h⟩ := State.stepBack_spec st s
    exact ⟨st, c, o, w, h⟩
  unfold State.examine
  split
  · exact ⟨s.ten.state, s.cbi.claim, s.cbi.call, s.ten.withdrawal, rfl⟩
  · split
    · exact back .idle
    · split
      · split
        · exact ⟨s.ten.state, s.cbi.claim, s.cbi.call, _, rfl⟩
        · split
          · exact ⟨_, s.cbi.claim, s.cbi.call, s.ten.withdrawal, rfl⟩
          · exact ⟨_, _, s.cbi.call, s.ten.withdrawal, rfl⟩
      · exact back _

/-- What the end of a command may write: the test state, its withdrawal, the CLAIM, and the standing requests. -/
theorem State.settle_spec (s0 s : State) :
    ∃ (st : TestState) (c : Option ClaimCall) (o : Option OwnCall) (w : Option Withdrawal),
      State.settle s0 s = State.judge { s with cbi := { s.cbi with claim := c, call := o },
                                               ten := { s.ten with state := st, withdrawal := w } } := by
  unfold State.settle State.examineOnChange
  split
  · obtain ⟨st, c, o, w, h⟩ := State.examine_spec s
    exact ⟨st, c, o, w, by rw [h]⟩
  · exact ⟨s.ten.state, s.cbi.claim, s.cbi.call, s.ten.withdrawal, rfl⟩

@[simp] theorem State.settle_pins (s0 s : State) : (State.settle s0 s).pins = s.pins := by
  obtain ⟨st, c, o, w, h⟩ := State.settle_spec s0 s; rw [h]; rfl

@[simp] theorem State.settle_cfg (s0 s : State) : (State.settle s0 s).cfg = s.cfg := by
  obtain ⟨st, c, o, w, h⟩ := State.settle_spec s0 s; rw [h]; rfl

@[simp] theorem State.settle_now (s0 s : State) : (State.settle s0 s).now = s.now := by
  obtain ⟨st, c, o, w, h⟩ := State.settle_spec s0 s; rw [h]; rfl

@[simp] theorem State.settle_lpb (s0 s : State) : (State.settle s0 s).lpb = s.lpb := by
  obtain ⟨st, c, o, w, h⟩ := State.settle_spec s0 s; rw [h]; rfl

@[simp] theorem State.settle_ffu (s0 s : State) : (State.settle s0 s).ffu = s.ffu := by
  obtain ⟨st, c, o, w, h⟩ := State.settle_spec s0 s; rw [h]; rfl

@[simp] theorem State.settle_cqm (s0 s : State) : (State.settle s0 s).cqm = s.cqm := by
  obtain ⟨st, c, o, w, h⟩ := State.settle_spec s0 s; rw [h]; rfl

@[simp] theorem State.settle_pvw (s0 s : State) : (State.settle s0 s).pvw = s.pvw := by
  obtain ⟨st, c, o, w, h⟩ := State.settle_spec s0 s; rw [h]; rfl

@[simp] theorem State.settle_shc (s0 s : State) : (State.settle s0 s).shc = s.shc := by
  obtain ⟨st, c, o, w, h⟩ := State.settle_spec s0 s; rw [h]; rfl

@[simp] theorem State.settle_bhu (s0 s : State) : (State.settle s0 s).bhu = s.bhu := by
  obtain ⟨st, c, o, w, h⟩ := State.settle_spec s0 s; rw [h]; rfl

@[simp] theorem State.settle_out (s0 s : State) : (State.settle s0 s).out = s.out := by
  obtain ⟨st, c, o, w, h⟩ := State.settle_spec s0 s; rw [h]; rfl

@[simp] theorem State.settle_pending (s0 s : State) : (State.settle s0 s).pending = s.pending := by
  obtain ⟨st, c, o, w, h⟩ := State.settle_spec s0 s; rw [h]; rfl

/-- The standing requests and the move state aside, the end of a command leaves the scheduler alone. -/
theorem State.settle_ups (s0 s : State) :
    (State.settle s0 s).ups.credit = s.ups.credit ∧ (State.settle s0 s).ups.homes = s.ups.homes ∧
      (State.settle s0 s).ups.expLast = s.ups.expLast ∧ (State.settle s0 s).ups.drrPos = s.ups.drrPos ∧
      (State.settle s0 s).ups.visitOpen = s.ups.visitOpen := by
  obtain ⟨st, c, o, w, h⟩ := State.settle_spec s0 s; rw [h]; exact ⟨rfl, rfl, rfl, rfl, rfl⟩

/-- The report queue, the order under execution and the restart are as the command left them. -/
theorem State.settle_orh (s0 s : State) :
    (State.settle s0 s).orh.queue = s.orh.queue ∧ (State.settle s0 s).orh.executing = s.orh.executing ∧
      (State.settle s0 s).orh.restart = s.orh.restart ∧ (State.settle s0 s).orh.lostEvents = s.orh.lostEvents ∧
      (State.settle s0 s).orh.stn = s.orh.stn := by
  obtain ⟨st, c, o, w, h⟩ := State.settle_spec s0 s; rw [h]; exact ⟨rfl, rfl, rfl, rfl, rfl⟩

/-- The gateway's queues and tables are as the command left them. -/
theorem State.settle_gwu (s0 s : State) :
    (State.settle s0 s).gwu.table = s.gwu.table ∧ (State.settle s0 s).gwu.orders = s.gwu.orders ∧
      (State.settle s0 s).gwu.reports = s.gwu.reports ∧ (State.settle s0 s).gwu.giving = s.gwu.giving ∧
      (State.settle s0 s).gwu.ctr = s.gwu.ctr := by
  obtain ⟨st, c, o, w, h⟩ := State.settle_spec s0 s; rw [h]; exact ⟨rfl, rfl, rfl, rfl, rfl⟩

/-- The test queue, the current test and the log are as the command left them. -/
theorem State.settle_ten (s0 s : State) :
    (State.settle s0 s).ten.queue = s.ten.queue ∧ (State.settle s0 s).ten.current = s.ten.current ∧
      (State.settle s0 s).ten.log = s.ten.log ∧ (State.settle s0 s).ten.tbusyDrive = s.ten.tbusyDrive ∧
      (State.settle s0 s).ten.quietEnds = s.ten.quietEnds := by
  obtain ⟨st, c, o, w, h⟩ := State.settle_spec s0 s; rw [h]; exact ⟨rfl, rfl, rfl, rfl, rfl⟩

/-- The bus interface's phase, part, reception and counters are as the command left them. -/
theorem State.settle_cbi (s0 s : State) :
    (State.settle s0 s).cbi.phase = s.cbi.phase ∧ (State.settle s0 s).cbi.part = s.cbi.part ∧
      (State.settle s0 s).cbi.rx = s.cbi.rx ∧ (State.settle s0 s).cbi.orders = s.cbi.orders ∧
      (State.settle s0 s).cbi.spent = s.cbi.spent ∧ (State.settle s0 s).cbi.contending = s.cbi.contending ∧
      (State.settle s0 s).cbi.ctr = s.cbi.ctr := by
  obtain ⟨st, c, o, w, h⟩ := State.settle_spec s0 s; rw [h]; exact ⟨rfl, rfl, rfl, rfl, rfl, rfl, rfl⟩

/-! ## The bus interface -/

/-- While a self-check request waits there is no call to contend for (R80). -/
theorem State.chooseCall_of_selfWanted (s : State) (h : s.cbi.selfWanted = true) : s.chooseCall = none := by
  simp [State.chooseCall, h]

/-- A BAD close in a callee's reception of an order or a report leaves the reserved entry taken (R66). -/
theorem State.reserves_driveClose_bad (s : State) (r : Reception) (k : CallKind) (hr : s.cbi.rx = some r)
    (hk : r.kind = k) (h : k = .order ∨ k = .report) : (s.driveClose false).cbi.reserves k = true := by
  rcases h with rfl | rfl <;> simp [Cbi.reserves, State.driveClose, State.strobe, State.emit, Cbi.reservedKind, hr, hk]

/-- A GOOD close leaves no entry reserved: what was received takes it (R66). -/
theorem State.reserves_driveClose_good (s : State) (k : CallKind) : (s.driveClose true).cbi.reserves k = false := by
  simp [Cbi.reserves, State.driveClose, State.strobe, State.emit]

/-- No entry stays reserved once the bus is free (R66). -/
theorem State.reserves_busFree (s : State) (k : CallKind) : s.busFree.cbi.reserves k = false := by
  simp [Cbi.reserves, State.busFree]

end Sys2Proof.Machine
end

