-- ==== Sys2Proof/Tests/Slice0.lean ====
section
/-! SUPPORT. Tests of the model's author: ill-formed commands refused, the manual's worked examples, and for each
statement states and operands that meet its hypotheses, clause by clause, at the boundaries of their ranges. -/

namespace Sys2Proof.Tests
open Sys2Proof Sys2Proof.Machine

set_option Elab.async false

/-! ## Small states -/

/-- After reset with home 0 equipped and in a service state. -/
def homeIn (st : Service) : State :=
  State.reset.updHome 0 fun m => { m with equipped := true, service := st }

/-- Home 0 in a service state with resume pending. -/
def resuming (st : Service) : State := (homeIn st).updHome 0 fun m => { m with resume := true }

/-- A state with its bus interface changed. -/
def onBus (f : Cbi → Cbi) (s : State := State.reset) : State := { s with cbi := f s.cbi }

/-- The next state of an outcome. -/
def nextOf : Host.Outcome State Fault Refusal → Option State
  | .next t => some t
  | _ => none

/-- A state with its Test Engine changed. -/
def onTest (f : Ten → Ten) (s : State := State.reset) : State := { s with ten := f s.ten }

/-- A state with its cell memory changed. -/
def onCells (f : Cqm → Cqm) (s : State := State.reset) : State := { s with cqm := f s.cqm }

/-- A state with its Gateway Unit changed. -/
def onGate (f : Gwu → Gwu) (s : State := State.reset) : State := { s with gwu := f s.gwu }

/-- A state with its Order Handler changed. -/
def onOrders (f : Orh → Orh) (s : State := State.reset) : State := { s with orh := f s.orh }

/-- The active gateway. -/
def gateway (s : State := State.reset) : State :=
  { s with pvw := { s.pvw with role := .active, active := some 0 } }

/-- On battery with an allowance. -/
def onBattery (a : Nat) (s : State) : State :=
  { s with pins := { s.pins with mainsOk := false }, shc := { s.shc with a := some a } }

/-- Another station drives STORM. -/
def inStorm (s : State) : State := { s with pins := { s.pins with stormOthers := true } }

/-- Another station drives TBUSY. -/
def busy (s : State) : State := { s with pins := { s.pins with tbusyOthers := true } }

/-- An ORDINARY frame of zeros of home 0. -/
def frame (n : Nat) : Frame := ⟨some 0, .ordinary, false, n, List.replicate n 0⟩

/-- A test entry of home 0. -/
def entry : TestEntry := ⟨0, ⟨true, true, true⟩, false, .order, .order, none⟩

/-- A test of home 0 in a phase. -/
def test (p : TestPhase) : CurrentTest :=
  ⟨0, ⟨true, true, true⟩, true, .order, .order, false, p, [], [], false, none, none, false⟩

/-- A state whose current test is in a phase. -/
def testing (st : TestState) (p : TestPhase) : State :=
  onTest (fun t => { t with state := st, current := some (test p) }) (homeIn .testHeld)

/-- A notice with every field 0. -/
def notice : Notice := ⟨.line, .mains, false, .idle, 0, false, false, 0, 0, 0, 0, 0, 0⟩

/-- A call of this station in a phase. -/
def calling (ph : BusPhase) (b : CallBody) (t : StationId) (ws : List Word := []) : State :=
  onBus fun c => { c with phase := ph, part := .caller, bsy := true, bsyDrive := true, call := some ⟨b, t, ws⟩ }

/-- A reception at a place of its format. -/
def receiving (k : CallKind) (x : RxStage) : Reception := { Reception.start k 1 with stage := x }

/-- A state with an order under execution. -/
def ordered (code : BitVec 4) (args : List Word) (s : State := homeIn .upFull) : State :=
  onOrders (fun o => { o with executing := some ⟨7, code, args⟩ }) s

/-- A measurement without flags. -/
def reading (k : MeasureKind) (v : Int) : Measurement := ⟨k, v, false, false⟩

/-! ## Ill-formed commands are refused, well-formed ones accepted -/

theorem test_frames_outside_1_to_2047_bytes_are_ill_formed :
    (Instr.upstreamFrame 0 []).wf = false ∧ (Instr.upstreamFrame 0 (List.replicate 2048 0)).wf = false ∧
      (Instr.uplinkFrameReceived [] false).wf = false ∧
      (Instr.uplinkFrameReceived (List.replicate 2048 0) true).wf = false ∧
      (Instr.upstreamFrame 0 (List.replicate 2047 0)).wf = true ∧ (Instr.upstreamFrame 7 [0]).wf = true := by
  decide +kernel

theorem test_notices_out_of_range_are_ill_formed :
    (Instr.noticeHeard 1 { notice with powerWeight := 129 }).wf = false ∧
      (Instr.noticeHeard 1 { notice with weight := 121 }).wf = false ∧
      (Instr.noticeHeard 1 { notice with demand := 65536 }).wf = false ∧
      (Instr.noticeHeard 1 { notice with powerDemand := 65536 }).wf = false ∧
      (Instr.noticeHeard 1 { notice with u := 65536 }).wf = false ∧
      (Instr.noticeHeard 1 { notice with b := 65536 }).wf = false ∧
      (Instr.noticeHeard 1 { notice with powerWeight := 128, weight := 120, demand := 65535 }).wf = true := by
  decide +kernel

theorem test_a_quiet_of_0_ms_is_ill_formed :
    (Instr.quietHeard 0 0).wf = false ∧ (Instr.quietHeard 15 1).wf = true := by decide +kernel

theorem test_a_self_check_that_reads_other_than_64_words_is_ill_formed :
    (Instr.selfCheckEnd (List.replicate 63 (0, true))).wf = false ∧
      (Instr.selfCheckEnd (List.replicate 65 (0, true))).wf = false ∧
      (Instr.selfCheckEnd (List.replicate 64 (0, true))).wf = true := by decide +kernel

theorem test_no_word_of_the_table_spells_a_command :
    decodeTableWord 0 0 = none ∧ State.withFetchWord State.reset 16 65535 = State.reset := by decide +kernel

/-! ## The manual's worked examples -/

/-- Section 6.6: two stations held back, one satisfied; every station satisfied; a single station. -/
theorem test_share_of_section_6_6 :
    share 1000 [(6, 700), (3, 100), (3, 600)] = ([600, 100, 300], 2) ∧
      share 1000 [(6, 200), (3, 100), (3, 150)] = ([475, 237, 287], 1) ∧ share 1000 [(5, 300)] = ([1000], 1) := by
  decide +kernel

/-- Section 6.7: the power allowance. -/
theorem test_share_of_section_6_7 : share 200 [(28, 90), (30, 62), (10, 22)] = ([100, 73, 25], 2) := by
  decide +kernel

/-- Section 6.6: S climbs 350, 478, 600 to a target of 600, and 0 to 600 in five boundaries. -/
theorem test_rate_climbs_by_the_ramp :
    nextRate 350 600 128 = 478 ∧ nextRate 478 600 128 = 600 ∧ nextRate 0 600 128 = 128 ∧ nextRate 512 600 128 = 600 ∧
      nextRate 666 600 128 = 600 := by decide +kernel

/-- The homes of section 7.9. -/
def burstOf7_9 : Sched :=
  let m (eff deficit count : Nat) : UpsHome := { UpsHome.start eff with deficit, expCount := count }
  let f (h : HomeId) (c : FrameClass) (n : Nat) : Frame := ⟨some h, c, false, n, []⟩
  { ups := { State.reset.ups with
      credit := 3000, expLast := 1, drrPos := 3
      homes := (((Tab.all (UpsHome.start 8)).put 0 (m 2 200 16)).put 1 (m 1 400 0)).put 3 (m 4 0 3) }
    up := (((Tab.all []).put 0 [f 0 .expedited 100, f 0 .ordinary 1200, f 0 .ordinary 300]).put 1
      [f 1 .ordinary 1500]).put 3 [f 3 .expedited 200, f 3 .ordinary 800, f 3 .ordinary 800] }

/-- Section 7.9: the burst carries E2, E1, Q1, Q2 and O1, and leaves credit, deficits and the open visit as told. -/
theorem test_burst_of_section_7_9 :
    ((burstOf7_9.fill 9 30 []).2.map Frame.length = [200, 100, 800, 800, 1200]) ∧
      (burstOf7_9.fill 9 30 []).1.ups.credit = -100 ∧
      (burstOf7_9.fill 9 30 []).1.ups.visitOpen = true ∧ (burstOf7_9.fill 9 30 []).1.ups.drrPos = 0 ∧
      ([0, 1, 3].map fun h => ((burstOf7_9.fill 9 30 []).1.ups.homes.at h).deficit) = [948, 912, 0] := by
  decide +kernel

/-- Section 7.10: two steps crossed by one frame. -/
theorem test_steps_of_section_7_10 :
    (compareThresholds 5 { UpsHome.start 12 with
      volume := 10000500, threshold := some ⟨10000000, 8⟩, staged := [⟨10000400, 10⟩, ⟨10002000, 4⟩] }) =
      ({ UpsHome.start 12 with
          volume := 10000500, eff := 8, stepFloor := some 8, threshold := some ⟨10002000, 4⟩, staged := [] },
        [.volumeStep 5 10000000 8 8 10000500, .volumeStep 5 10000400 10 8 10000500]) := by decide +kernel

/-- The filters of section 3.7: 2 and 6 expedite, 5 drops. -/
def filtersOf3_7 : Tab 8 Filter :=
  let mk (d : Direction) (a : Actions) (n : Nat) (ps : List (Nat × Byte)) : Filter :=
    { enabled := true, dir := d, acts := a, minLen := n
      mask := Tab.make fun p => ps.any fun x => x.1 == p.val
      value := Tab.make fun p => ((ps.find? fun x => x.1 == p.val).map Prod.snd).getD 0 }
  (((Tab.all Config.defaultFilter).put 2 (mk .up ⟨true, false, false⟩ 60 [(12, 8), (13, 0), (23, 17)])).put 5
    (mk .both ⟨false, false, true⟩ 0 ((List.range 6).map fun p => (p, 255)))).put 6
    (mk .up ⟨true, false, false⟩ 0 ((List.range 8).map fun p => (40 + p, 0)))

/-- The frames of section 3.7: destination and tail bytes, with 08h, 00h and 11h at 12, 13 and 23. -/
def frameOf3_7 (n : Nat) (dest tail : Byte) : List Byte :=
  (List.range n).map fun p =>
    if p < 6 then dest else if p = 12 then 8 else if p = 13 then 0 else if p = 23 then 17 else
      if 42 ≤ p then tail else if 40 ≤ p then (if n = 42 then 0 else tail) else 3

theorem test_classing_of_section_3_7 :
    matchSet filtersOf3_7 true 120 (frameOf3_7 120 2 1) [] = [2] ∧
      upstreamClass filtersOf3_7 (frameOf3_7 120 2 1) = some .expedited ∧
      matchSet filtersOf3_7 true 42 (frameOf3_7 42 2 1) [] = [6] ∧
      upstreamClass filtersOf3_7 (frameOf3_7 42 2 1) = some .expedited ∧
      matchSet filtersOf3_7 true 64 (frameOf3_7 64 255 1) [] = [2, 5] ∧
      upstreamClass filtersOf3_7 (frameOf3_7 64 255 1) = none := by decide +kernel

/-- The examples of R160 and R161. -/
theorem test_resistance_and_loop_examples :
    resistance .resTR 4800 960 = ⟨.resTR, 5000000, false, false⟩ ∧ capacitance 125000 = ⟨.capTR, 250000, false, false⟩ ∧
      loopOf 50 [capacitance 125000] = some 5000 ∧ loopOf 50 [capacitanceOver] = none := by decide +kernel

/-- Words of section 4.10 written out: a NOTICE call of station 2, an ORDER call of station 1 to station 6, a TAKE with
room 30 of station 6, a GOOD close of station 6, and the parity of a word with two lines asserted. -/
theorem test_words_of_section_4_10 :
    callWordOf .notice 2 0 = 0b1011001011111111#16 ∧ callWordOf .order 1 6 = 0b1110000101000000#16 ∧
      answerWordOf true 6 30 = 0b0111000000011110#16 ∧ closeWordOf true 6 = 0b0111000000000000#16 ∧
      oddParity 3 = true ∧ oddParity 7 = false := by decide +kernel

/-! ## Witnesses: step, end of a command, examination -/

theorem test_witness_empty_queue : State.reset.pending = [] := rfl

/-- The states of the examination's clauses: an empty queue; deferred by STORM, by TBUSY stuck, by BATTERY_LOW, by one
unit of allowance too little, by ADMIN_DOWN; waiting; claiming with the allowance just enough; a withdrawal open. -/
theorem test_witness_examination :
    let q := onTest (fun t => { t with queue := [entry] }) (homeIn .upFull)
    let poor := onBattery 54 q
    let rich := onBattery 55 q
    (State.reset.ten.state = .idle ∧ State.reset.ten.queue = []) ∧ (q.ten.state = .idle ∧ q.ten.queue = [entry]) ∧
      (inStorm q).storm = true ∧ ({ q with pvw := { q.pvw with stuck := true } } : State).pvw.stuck = true ∧
      ({ poor with pins := { poor.pins with battLow := true } } : State).power = .batteryLow ∧
      (poor.power = .battery ∧ poor.shc.a.getD 0 < poor.lineCostLeft + poor.cfg.pTest) ∧
      (homeIn .adminDown).service entry.home = .adminDown ∧
      (rich.power = .battery ∧ ¬rich.shc.a.getD 0 < rich.lineCostLeft + rich.cfg.pTest ∧ rich.tbusy = false ∧
        rich.ten.withdrawal = none ∧ rich.cbi.claim = none ∧ rich.cbi.call = none) ∧
      ({ rich with cbi := { rich.cbi with claim := some ⟨0, 0, false⟩ } } : State).cbi.claim ≠ none ∧
      ((busy q).tbusy = true ∧ (busy q).storm = false) ∧
      (onTest (fun t => { t with withdrawal := some ⟨none, 0, none, false⟩ }) q).ten.withdrawal.isSome = true ∧
      (q.examInputs ≠ (busy q).examInputs) ∧
      ((testing .connecting .quietCall).ten.state = .connecting) ∧
      (onTest (fun t => { t with state := .waiting }) q).ten.state ≠ .idle := by decide +kernel

/-! ## Witnesses: chapter 1 -/

theorem test_unreadable_memory_loads_the_defaults : loadCfg none = Config.defaults := rfl

/-- Admission to TRAINING: on mains; spare 15, 14, 1 and 0 on battery; BATTERY_LOW. -/
theorem test_witness_admission :
    let others (s : State) := ((homeIds.filter fun x => x != 0).map s.costLeft).sum
    let d := homeIn .down
    d.power = .mains ∧ (onBattery 15 d).power = .battery ∧ others d + d.cfg.pFull ≤ 15 ∧
      ¬others d + d.cfg.pFull ≤ 14 ∧ others d + d.cfg.pSleep ≤ 1 ∧ 0 < others d + d.cfg.pSleep ∧
      d.bhu.reserve = false := by decide +kernel

/-- Every service state is that of a home, with resume pending in an up state too. -/
theorem test_witness_service_states (st : Service) :
    (homeIn st).service 0 = st ∧ ((homeIn st).home 0).resume = false ∧ ((resuming st).home 0).resume = true := by
  cases st <;> decide +kernel

/-- A home reported UP in DOWN: admitted on mains, asleep on battery with too little to spare. -/
theorem test_witness_up_in_down :
    ((homeIn .down).enterTraining 0).service 0 = .training ∧
      ((onBattery 14 (homeIn .down)).enterTraining 0).service 0 = .sleep := by decide +kernel

/-- Link losses: expected in a storm or in the excuse window; two drop times; three in 900 s and in 901 s. -/
theorem test_witness_link_losses :
    let up := homeIn .upFull
    let drops (l : List Nat) (n : Nat) : State :=
      { up.updHome 0 fun m => { m with flaps := l } with now := n * 1000000 }
    (inStorm up).storm = true ∧
      ({ up with lpb := { up.lpb with excuseEnd := some 1 } } : State).lpb.excuseEnd.isSome = true ∧
      (up.storm = false ∧ up.lpb.excuseEnd = none ∧ up.cfg.autoTests = true) ∧
      ((drops [0] 900).linkLoss 0).ten.queue = [] ∧
      (((drops [0, 1] 900).linkLoss 0).ten.queue.map TestEntry.home) = [0] ∧
      ((drops [0, 1] 901).linkLoss 0).ten.queue = [] := by decide +kernel

/-- Wake causes: on mains; on battery; while the group is quiet; a home already queued. -/
theorem test_witness_wake_causes :
    let s := homeIn .sleep
    let quiet := onTest (fun t => { t with quietEnds := t.quietEnds.put 0 (some 5) }) s
    (s.service 0 = .sleep ∧ 0 ∉ s.bhu.wakeQ ∧ s.power = .mains ∧ (s.ten.quietEnds.at (s.home 0).group).isSome = false) ∧
      (onBattery 9 s).power ≠ .mains ∧ (quiet.ten.quietEnds.at (quiet.home 0).group).isSome = true ∧
      0 ∈ ({ s with bhu := { s.bhu with wakeQ := [0] } } : State).bhu.wakeQ := by decide +kernel

/-- The free count at and around the critical threshold. -/
theorem test_witness_critical :
    (64 ≤ (onCells fun c => { c with free := 64 }).cqm.free ∧ 64 - 1 < 64) ∧
      (onCells fun c => { c with free := 63 }).cqm.free < 64 ∧ 64 ≤ (onCells fun c => { c with free := 65 }).cqm.free - 1 := by
  decide +kernel

/-- A volume just below and just at its threshold, and no threshold. -/
theorem test_witness_thresholds :
    let m (v : Nat) : UpsHome := { UpsHome.start 8 with volume := v, threshold := some ⟨100, 3⟩ }
    (UpsHome.start 8).threshold = none ∧ (m 99).volume < 100 ∧ 100 ≤ (m 100).volume ∧
      (compareThresholds 0 (m 100)).1.eff = 3 ∧ (compareThresholds 0 (m 99)).1.eff = 8 := by decide +kernel

/-- Classing: a DROP match, an EXPEDITE match without one, neither. Learning: a group address, a known one, a new one
with three and with four in the list. -/
theorem test_witness_classing_and_learning :
    (∃ i ∈ matchSet filtersOf3_7 true 64 (frameOf3_7 64 255 1) [], (filtersOf3_7.at i).acts.drop = true) ∧
      ((∀ i ∈ matchSet filtersOf3_7 true 42 (frameOf3_7 42 2 1) [], (filtersOf3_7.at i).acts.drop = false) ∧
        ∃ i ∈ matchSet filtersOf3_7 true 42 (frameOf3_7 42 2 1) [], (filtersOf3_7.at i).acts.expedite = true) ∧
      matchSet filtersOf3_7 true 14 (List.replicate 14 0) [] = [6] ∧
      matchSet (Tab.all Config.defaultFilter) true 14 (List.replicate 14 0) [] = [] ∧
      (BitVec.ofNat 48 (2 ^ 40) : Addr).getLsbD 40 = true ∧ (2 : Addr).getLsbD 40 = false ∧ (2 : Addr) ∉ [1, 3, 4] ∧
      learnAddress 2 [1, 3, 4] = [1, 3, 4, 2] ∧ learnAddress 2 [1, 3, 4, 5] = [3, 4, 5, 2] := by decide +kernel

/-- A home that may be given a frame, one that may not, and one being given a frame. -/
theorem test_witness_giving :
    let up := (homeIn .upLow).updHome 0 fun m => { m with link := .up }
    let q := onCells (fun c => { c with down := c.down.put 0 [frame 14] }) up
    (q.cqm.down.at 0 = [frame 14] ∧ q.service 0 = .upLow ∧ (q.home 0).resume = false ∧ (q.home 0).link = .up ∧
      q.lpb.giving.at 0 = none) ∧ up.cqm.down.at 0 = [] ∧
      ({ up with lpb := { up.lpb with giving := up.lpb.giving.put 0 (some (frame 1536)) } } : State).lpb.giving.at 0 =
        some (frame 1536) := by decide +kernel

/-! ## Witnesses: the cabinet bus -/

/-- The winner's contents: a CLAIM, a QUIET, a NOTICE, an ORDER, a REPORT, and the three cases of the next position. -/
theorem test_witness_wins :
    let g := gateway
    let st := onCells (fun c => { c with stn := c.stn.put 3 [frame 14] }) g
    let fl := onCells (fun c => { c with flood := [frame 14] }) g
    (onBus fun c => { c with claim := some ⟨0, 0, false⟩ }).cbi.claim = some ⟨0, 0, false⟩ ∧
      (onBus fun c => { c with quiet := some ⟨15, 2000, false⟩ }).cbi.quiet = some ⟨15, 2000, false⟩ ∧
      (onBus fun c => { c with notice := some notice }).cbi.notice = some notice ∧
      ((onGate fun u => { u with orders := [⟨0, ⟨1, 1, []⟩⟩, ⟨7, ⟨2, 1, []⟩⟩] }).gwu.orders.find?
        fun m => m.target != State.reset.orh.stn) = some ⟨7, ⟨2, 1, []⟩⟩ ∧
      State.reset.orh.queue.head? = some ⟨0, .event .configDefaulted⟩ ∧ st.nextPosition = some 3 ∧
      fl.nextPosition = some 8 ∧ g.nextPosition = none := by decide +kernel

/-- Wins whose order or report has left its queue, and ones with nothing left to carry; the rotation after position 3,
which ends at 3 itself. -/
theorem test_witness_late_wins :
    let m : MgmtOrder := ⟨7, ⟨2, 1, []⟩⟩
    let r : Report := ⟨0, .event .stormEnd⟩
    let late := onBus (fun c => { c with lateOrder := some m, lateReport := some r }) (onOrders fun o => { o with queue := [] })
    let none_ := onOrders fun o => { o with queue := [] }
    let two := onCells (fun c => { c with stn := (c.stn.put 3 [frame 14]).put 1 [frame 14] })
      (onGate (fun u => { u with position := 3 }) gateway)
    (late.busOrder = none ∧ late.cbi.lateOrder = some m ∧ late.orh.queue = [] ∧ late.cbi.lateReport = some r) ∧
      (none_.cbi.claim = none ∧ none_.cbi.quiet = none ∧ none_.cbi.notice = none ∧ none_.busOrder = none ∧
        none_.cbi.lateOrder = none ∧ none_.orh.queue = [] ∧ none_.cbi.lateReport = none) ∧
      two.nextPosition = some 1 := by decide +kernel

/-- Every place of the format, a lost structure, and the bad cases of a frame's length: bad parity, 13, 1537, and 4097
bytes in all. -/
theorem test_witness_transfer_places :
    (receiving .order .orderTag).lost = false ∧ (receiving .order .orderTag).lose.lost = true ∧
      (receiving .order .orderHeader).stage = .orderHeader ∧ (receiving .report .reportCount).stage = .reportCount ∧
      (receiving .notice (.body 1)).stage = .body 1 ∧ (receiving .updata .done).stage = .done ∧
      (receiving .flood .burstHeader).stage = .burstHeader ∧ (receiving .updata .frameHeader1).stage = .frameHeader1 ∧
      (receiving .updata (.frameHeader2 none .ordinary)).stage = .frameHeader2 none .ordinary ∧
      true ≠ oddParity 14 ∧ (wordOf 13).toNat % 2048 < 14 ∧ 1536 < (wordOf 1537).toNat % 2048 ∧
      4096 < 2561 + (wordOf 1536).toNat % 2048 := by decide +kernel

/-- Lengths at the ends of their range, 4096 bytes in all just reached, for every kind of burst, with and without a home;
a data word that ends its frame; destination bytes of bad parity, and a byte past the destination. -/
theorem test_witness_frames_opened :
    (let r (k : CallKind) (h : Option HomeId) := receiving k (.frameHeader2 h .ordinary)
     (r .flood none).stage = .frameHeader2 none .ordinary ∧ (r .updata (some 7)).stage = .frameHeader2 (some 7) .ordinary ∧
      (r .downdata (some 0)).lost = false ∧ (r .downdata none).kind ≠ .flood) ∧
    (14 ≤ (wordOf 14).toNat % 2048 ∧ (wordOf 1536).toNat % 2048 ≤ 1536 ∧ 2560 + (wordOf 1536).toNat % 2048 ≤ 4096) ∧
    (let f : ArrivingFrame := ⟨0, none, .ordinary, 14, List.replicate 12 0, [5, 6], true, [], Tab.all Config.defaultFilter,
        true⟩
     (receiving .flood (.frameData f)).stage = .frameData f ∧ (∃ p ∈ f.badPositions, p < 6) ∧
      (f.push 1 true).length ≤ (f.push 1 true).bytes.length ∧
      ∀ p ∈ ({ f with badPositions := [6] } : ArrivingFrame).badPositions, 6 ≤ p) := by decide +kernel

/-- A held frame for the uplink queue and one for a home; a reception none and one under way. -/
theorem test_witness_receptions :
    (⟨.uplink, 0, frame 14⟩ : Held).dest = .uplink ∧ (⟨.home 7, 0, frame 14⟩ : Held).dest = .home 7 ∧
      State.reset.cbi.rx = none ∧
      (onBus fun c => { c with rx := some (receiving .updata .burstHeader) }).cbi.rx =
        some (receiving .updata .burstHeader) := by decide +kernel

/-- The outcomes of every kind of call, with an order still listed and one no longer, a report still at the head and
one no longer. -/
theorem test_witness_outcomes :
    let m : MgmtOrder := ⟨3, ⟨1, 1, []⟩⟩
    let r : Report := ⟨0, .event .configDefaulted⟩
    (⟨.updata, 1, []⟩ : OwnCall).body = .updata ∧ (⟨.downdata, 1, []⟩ : OwnCall).body = .downdata ∧
      (⟨.order m, 3, []⟩ : OwnCall).body = .order m ∧ m ∈ (onGate fun u => { u with orders := [m] }).gwu.orders ∧
      m ∉ State.reset.gwu.orders ∧ (⟨.report r, 1, []⟩ : OwnCall).body = .report r ∧
      State.reset.orh.queue.head? = some r ∧ (onOrders fun o => { o with queue := [] }).orh.queue.head? ≠ some r := by
  decide +kernel

/-- A caller with a word left, with its last word, and with none; another part. -/
theorem test_witness_words_sent :
    let s := calling .transfer (.notice notice) 0 [5, 6]
    (s.cbi.phase = .transfer ∧ s.cbi.part = .caller ∧ s.cbi.call = some ⟨.notice notice, 0, [5, 6]⟩) ∧
      (calling .transfer .flood 0 [5]).cbi.call = some ⟨.flood, 0, [5]⟩ ∧
      (calling .transfer .updata 0).cbi.call = some ⟨.updata, 0, []⟩ ∧ State.reset.cbi.part ≠ .caller := by
  decide +kernel

/-- Bursts in assembly of each source, and none; a frame with its home. -/
theorem test_witness_bursts :
    let a (x : BurstSource) := onCells fun c => { c with assembly := some ⟨x, [frame 14]⟩ }
    State.reset.cqm.assembly = none ∧ (a .updata).cqm.assembly = some ⟨.updata, [frame 14]⟩ ∧
      (a (.downdata 7)).cqm.assembly = some ⟨.downdata 7, [frame 14]⟩ ∧
      (a .flood).cqm.assembly = some ⟨.flood, [frame 14]⟩ ∧ (frame 14).home = some 0 := by decide +kernel

/-- Calls cut: a NOTICE with another pending and without, a CLAIM marked and unmarked, a QUIET, a FLOOD. -/
theorem test_witness_cut_calls :
    (calling .transfer (.notice notice) 0).cbi.notice = none ∧
      (onBus fun c => { c with notice := some notice }).cbi.notice ≠ none ∧
      (⟨.claim ⟨0, 0, true⟩, 0, []⟩ : OwnCall).body = .claim ⟨0, 0, true⟩ ∧
      (⟨.quiet ⟨0, 2000, true⟩, 0, []⟩ : OwnCall).body = .quiet ⟨0, 2000, true⟩ ∧
      (⟨.flood, 0, []⟩ : OwnCall).body = .flood ∧ ∃ m, (⟨.order ⟨3, ⟨1, 1, []⟩⟩, 3, []⟩ : OwnCall).body = .order m :=
  ⟨rfl, by decide +kernel, rfl, rfl, rfl, _, rfl⟩

/-- A CLAIM withdrawn too late and then cut is pending again with its mark, and a contention then lost removes it (R61,
R79, log 22); a withdrawn QUIET that was not contended for stays. -/
theorem test_withdrawn_claim_is_put_back :
    let c : ClaimCall := ⟨3, 1, true⟩
    let w : Withdrawal := ⟨some 5, 3, none, false⟩
    let s := onTest (fun t => { t with withdrawal := some w }) (calling .transfer (.claim c) 0)
    let cut := s.cutOwn true
    let q : QuietCall := ⟨0, 2000, true⟩
    let lost := ({ cut with cbi := { cut.cbi with contending := some .claim, quiet := some q } } : State).loseContention
    cut.cbi.claim = some c ∧ cut.ten.withdrawal = some w ∧ lost.cbi.claim = none ∧ lost.cbi.quiet = some q ∧
      lost.ten.withdrawal = some { w with settled := some false } := by decide +kernel

/-- A callee's BAD close of an ORDER leaves its entry reserved until CB_BSY falls (R66). -/
theorem test_bad_close_keeps_the_entry :
    let s := onBus fun c => { c with
      phase := .transfer, part := .callee, rx := some { Reception.start .order 3 with bad := true } }
    s.orderEntries = 1 ∧ (nextOf (exec .badCloseTimeout s)).map State.orderEntries = some 1 ∧
      ((nextOf (exec .badCloseTimeout s)).bind fun t => nextOf (exec .cbBsyFall t)).map State.orderEntries =
        some 0 := by decide +kernel

/-- In FREE with a self-check request waiting, CONTEND_START changes nothing and SELF_CHECK_START takes the request
(R80). -/
theorem test_self_check_goes_before_calls :
    let s := onBus fun c => { c with phase := .free, quiet := some ⟨0, 2000, false⟩, selfWanted := true }
    (nextOf (exec .contendStart s)).map (fun t => (t.cbi.part, t.cbi.bsyDrive)) = some (.none, false) ∧
      (nextOf (exec .selfCheckStart s)).map (fun t => t.cbi.phase) = some .selfCheck := by decide +kernel

/-- A burst of an expedited, returned frame of home 5 with an odd last byte, and the words of an order, a reply and a
peer's event with a tag of its own (section 4.10). -/
theorem test_words_of_bursts_orders_and_reports :
    burstWords [⟨some 5, .expedited, true, 3, [0x12, 0x34, 0x56]⟩] = [1, 0xc500, 3, 0x1234, 0x5600] ∧
      Sys2Proof.orderOf [7, 0x5003, 1, 2, 3] = some ⟨7, 5, [1, 2, 3]⟩ ∧
      gatewayReportOf 2 [9, 0x2801, 1, 4] = some ⟨9, 2, .peer false 5 1 [4]⟩ ∧
      gatewayReportOf 2 [9, 0xd800, 0] = some ⟨0, 2, .peer true 11 0 []⟩ := by decide +kernel

/-- The states of the clauses on leaving CLAIMING: a CLAIM pending, or none anywhere; and of a place in the test queue. -/
theorem test_witness_claiming_left :
    let s := onTest (fun t => { t with state := .claiming }) (onBus fun c => { c with claim := some ⟨0, 0, false⟩ })
    let e : TestEntry := { entry with home := 4 }
    (s.ten.queue = [] ∧ s.ten.state = .claiming ∧ (State.examineOnChange State.reset s).cbi.claim = s.cbi.claim) ∧
      (s.examine.cbi.claim = none ∧ s.examine.ten.state = .idle) ∧
      (State.reset.cbi.claim = none ∧ State.reset.cbi.call = none) ∧
      ({ State.reset.ten with queue := [entry, e] } : Ten).placeOf 4 = .testPlace 2 e.set := by decide +kernel

/-- The words of a sound loop, and of one with line 0 stuck. -/
def loopWords (stuck : Bool) : List (Word × Bool) :=
  (List.range 64).map fun n => (if stuck then selfCheckWord n ||| 1 else selfCheckWord n, selfCheckParity n)

theorem test_witness_self_check :
    (loopWords false).length = 64 ∧ (selfCheckResult (loopWords false)).pass = true ∧ (loopWords true).length = 64 ∧
      (selfCheckResult (loopWords true)).pass = false ∧ (selfCheckResult (loopWords true)).first = some 1 := by
  decide +kernel

/-- Notices at the ends of their ranges, their words, and the ends of a QUIET's duration. -/
theorem test_witness_notices :
    let n : Notice := ⟨.standby, .batteryLow, true, .holding, 15, true, true, 128, 120, 65535, 65535, 65535, 65535⟩
    notice.wf = true ∧ n.wf = true ∧ noticeOf (noticeWords n) = some n ∧ (1 ≤ 1 ∧ 1 < 65536) ∧
      (1 ≤ 65535 ∧ 65535 < 65536) := by decide +kernel

/-! ## Witnesses: notices, claims, boundary -/

theorem test_witness_views :
    let e (i : StationId) : PeerEntry := ⟨i, notice, 0⟩
    ([e 1, e 7].map PeerEntry.id).Pairwise (· < ·) ∧ ([] : List PeerEntry).map PeerEntry.id = [] ∧
      insertPeer (e 3) [e 1, e 7] = [e 1, e 3, e 7] ∧ insertPeer (e 7) [e 1, e 7] = [e 1, e 7] := by decide +kernel

/-- Withdrawals: none, open, settled either way; a CLAIM pending before and in its contention, and in its call. -/
theorem test_witness_withdrawals :
    let c : ClaimCall := ⟨0, 0, false⟩
    let w (x : Option Bool) := onTest fun t => { t with withdrawal := some ⟨some 0, 0, x, false⟩ }
    State.reset.ten.withdrawal = none ∧ (w none).ten.withdrawal = some ⟨some 0, 0, none, false⟩ ∧
      (w (some true)).ten.withdrawal = some ⟨some 0, 0, some true, false⟩ ∧
      (w (some false)).ten.withdrawal = some ⟨some 0, 0, some false, false⟩ ∧
      ((onBus fun b => { b with claim := some c }).cbi.claim = some c ∧
        (onBus fun b => { b with claim := some c }).cbi.contending ≠ some .claim) ∧
      (onBus fun b => { b with claim := some c, contending := some .claim }).cbi.contending = some .claim ∧
      ((calling .transfer (.claim c) 0 [0]).cbi.claim = none ∧
        (calling .transfer (.claim c) 0 [0]).cbi.call = some ⟨.claim c, 0, [0]⟩) := by decide +kernel

/-- The lost rounds: a gateway present; absent at 14, at 15 and at 16. -/
theorem test_witness_lost_rounds :
    gateway.pvw.active ≠ none ∧ State.reset.pvw.active = none ∧
      (onCells fun c => { c with lostRounds := 14 }).cqm.lostRounds ≠ 15 ∧
      (onCells fun c => { c with lostRounds := 15 }).cqm.lostRounds = 15 ∧
      (onCells fun c => { c with lostRounds := 16 }).cqm.lostRounds ≠ 15 := by decide +kernel

/-- Participants of weight 1 or more; demands that fit the capacity exactly. -/
theorem test_witness_participants :
    (∀ p ∈ [(6, 200), (3, 100), (3, 150)], 1 ≤ p.1) ∧ ([(6, 200), (3, 100), (3, 150)].map Prod.snd).sum ≤ 450 := by
  decide +kernel

/-- Passes of the share function: none satisfied; all satisfied; some satisfied and some open. -/
theorem test_witness_passes :
    (∀ p ∈ [Participant.fresh 1 50, .fresh 1 60], satisfiedNow 40 2 p = false) ∧
      (∃ p ∈ [Participant.fresh 1 50, .fresh 1 60], satisfiedNow 120 2 p = true) ∧
      (∀ p ∈ [Participant.fresh 1 50, .fresh 1 60].map (satisfy 120 2), p.alloc ≠ none) ∧
      (∃ p ∈ [Participant.fresh 1 50, .fresh 1 60].map (satisfy 100 2), p.alloc = none) ∧
      ∃ p ∈ [Participant.fresh 1 50, .fresh 1 60], satisfiedNow 100 2 p = true := by decide +kernel

/-! ## Witnesses: scheduling and the gateway -/

/-- A move that may run with credit 1, and ones that may not: not working, credit 0, nothing queued, blocked. -/
theorem test_witness_moves :
    let q := onCells (fun c => { c with up := c.up.put 0 [frame 14] }) gateway
    let s : State := { q with ups := { q.ups with credit := 1 } }
    (s.pvw.role = .active ∧ 0 < s.ups.credit ∧ (∃ h, s.cqm.up.at h ≠ []) ∧ s.ups.move ≠ .blocked) ∧
      (s.sched.choose.map fun c => (c.2.1, c.2.2.head c.2.1)) = some (0, some (frame 14)) ∧
      gateway.sched.choose = none ∧ ¬0 < q.ups.credit ∧ State.reset.pvw.role ≠ .active := by decide +kernel

/-- Choices by either rule, of effective weight 1 with the longest frame too. -/
theorem test_witness_choices :
    let x : Sched := ⟨{ State.reset.ups with homes := Tab.all (UpsHome.start 1) }, (Tab.all []).put 7 [frame 1536]⟩
    (burstOf7_9.choose.map fun c => (c.1, c.2.1)) = some (.expedited, 3) ∧
      (x.choose.map fun c => (c.1, c.2.1)) = some (.drr, 7) ∧ x.up.at 7 = [frame 1536] ∧
      (∀ h, 1 ≤ (x.ups.homes.at h).eff) ∧ (∀ h, ∀ f ∈ x.up.at h, f.length ≤ 1536) := by decide +kernel

/-- The round robin: the next home to visit, none to visit, an open visit whose head fits exactly, and none eligible. -/
theorem test_witness_visits :
    let x : Sched := ⟨{ State.reset.ups with homes := Tab.all (UpsHome.start 1) }, (Tab.all []).put 7 [frame 1536]⟩
    let y : Sched := ⟨{ x.ups with homes := Tab.all { UpsHome.start 1 with deficit := 1536 }, visitOpen := true }, x.up⟩
    (x.visitNext.map fun z => (z.ups.drrPos, (z.ups.homes.at 7).deficit)) = some (7, 512) ∧
      (⟨x.ups, Tab.all []⟩ : Sched).visitNext = none ∧ (∀ h, x.eligible h = false) ∧
      (y.ups.visitOpen = true ∧ (y.up.at y.ups.drrPos).map Frame.length = [(y.ups.homes.at y.ups.drrPos).deficit]) ∧
      x.ups.visitOpen = false := by decide +kernel

/-- The uplink falls while nothing, a report or a queue frame is given, and stays. -/
theorem test_witness_transmitter :
    let up (g : Option Giving) : State :=
      onCells (fun c => { c with uplink := [frame 14] }) (onGate (fun u => { u with uplinkUp := true, giving := g }) gateway)
    ((up none).pvw.role = .active ∧ (up none).gwu.uplinkUp = true ∧ (up none).gwu.giving = none) ∧
      (up (some .report)).gwu.giving = some .report ∧
      ((up (some .queueFrame)).gwu.giving = some .queueFrame ∧ (up (some .queueFrame)).cqm.uplink = [frame 14]) ∧
      gateway.gwu.uplinkUp = false := by decide +kernel

/-- Destinations: a group address; an unknown one; a known one. -/
theorem test_witness_destinations :
    let t := onGate (fun u => { u with table := [⟨0, 2, 5, 3, 0⟩] }) gateway
    (addrOf [1, 0, 0, 0, 0, 2]).getLsbD 40 = true ∧ (addrOf [0, 0, 0, 0, 0, 2]).getLsbD 40 = false ∧
      (∀ e ∈ State.reset.gwu.table, e.addr ≠ 2) ∧ t.gwu.table.find? (fun e => e.addr == 2) = some ⟨0, 2, 5, 3, 0⟩ := by
  decide +kernel

/-- A full table of entries of one age. -/
def fullTable (age : Nat) : List AddrEntry :=
  (List.range 512).map fun k => ⟨k, BitVec.ofNat 48 (k + 1), 0, 0, age⟩

/-- Learning: a group address, a known one, an unknown one in an empty table, and in a full one whose oldest entry has
age 59 and 60. -/
theorem test_witness_learning :
    (BitVec.ofNat 48 (2 ^ 40) : Addr).getLsbD 40 = true ∧
      (fullTable 60).find? (fun e => e.addr == 9) = some ⟨8, 9, 0, 0, 60⟩ ∧ State.reset.gwu.table.length < 512 ∧
      512 ≤ (fullTable 59).length ∧ (∀ e ∈ fullTable 59, e.addr ≠ 0) ∧ oldestEntry (fullTable 59) = some ⟨0, 1, 0, 0, 59⟩ ∧
      oldestEntry (fullTable 60) = some ⟨0, 1, 0, 0, 60⟩ := by decide +kernel

/-- The lowest free number fills a gap, and an entry takes its place by number. -/
theorem test_witness_free_numbers :
    let e (n : Nat) : AddrEntry := ⟨n, BitVec.ofNat 48 n, 0, 0, 7⟩
    freeNumber [e 0, e 1, e 3] = 2 ∧ freeNumber [] = 0 ∧ insertEntry (e 2) [e 0, e 1, e 3] = [e 0, e 1, e 2, e 3] ∧
      ([e 0, e 1, e 3].map AddrEntry.num).Pairwise (· < ·) ∧ oldestEntry [e 3, e 1, e 2] = some (e 1) ∧
      oldestEntry [] = none := by decide +kernel

/-- With the default management address and type a frame of zeros is no management frame (R129, log 60). -/
theorem test_defaults_take_no_orders :
    gateway.isManagement (List.replicate 60 0) = false ∧
      ({ gateway with cfg := { gateway.cfg with mgmtType := 1 } } : State).isManagement
        (List.replicate 13 0 ++ [1] ++ List.replicate 46 0) = true := by decide +kernel

/-- A refusal without data and an event without data have no words; a reply with data is not bare. -/
theorem test_bare_reports_have_no_words :
    ReportBody.words (.reply 1 .refusedRange .none) = [] ∧ ReportBody.words (.event .stormEnd) = [] ∧
      ReportBody.bare (.event (.stormBegin 0)) = false ∧ ReportBody.bare (.reply 13 .done (.service .sleep)) = false :=
  ⟨rfl, rfl, rfl, rfl⟩

theorem test_witness_handoffs :
    let m : MgmtOrder := ⟨0, ⟨1, 1, [8]⟩⟩
    (onGate fun u => { u with orders := [m] }).gwu.orders.find? (fun m => m.target == State.reset.orh.stn) = some m ∧
      ∀ m ∈ State.reset.gwu.orders, m.target ≠ State.reset.orh.stn := by decide +kernel

/-! ## Witnesses: orders and tests -/

/-- Every code is that of an order under execution; a command whose order is not; none under execution. -/
theorem test_witness_orders_under_execution (code : BitVec 4) (args : List Word) :
    (ordered code args).orh.executing = some ⟨7, code, args⟩ ∧ State.reset.orh.executing = none ∧
      (ordered 1 [8]).orh.executing.any (fun o => o.code.toNat != 2) = true := by
  refine ⟨rfl, rfl, ?_⟩
  decide +kernel

/-- A cancellation finds an entry, and none. -/
theorem test_witness_cancellations :
    let s := ordered 6 [7]
    let q := onTest (fun t => { t with queue := [{ entry with home := 7 }] }) s
    q.ten.queue.find? (fun e => e.home == 7) = some { entry with home := 7 } ∧ (∀ e ∈ s.ten.queue, e.home ≠ 7) ∧
      s.ten.current = none := by decide +kernel

/-- A head entry whose home is UNEQUIPPED or ADMIN_DOWN, one that can be held, and an empty queue. -/
theorem test_witness_connections :
    let q (st : Service) := onTest (fun t => { t with queue := [entry] }) (homeIn st)
    State.reset.ten.queue = [] ∧ (q .upFull).ten.queue = [entry] ∧ (q .unequipped).service entry.home = .unequipped ∧
      (q .adminDown).service entry.home = .adminDown ∧ ((q .upFull).storm = false ∧ (q .upFull).lpb.relay = none) := by
  decide +kernel

/-- Every test state and every phase is that of a current test. -/
theorem test_witness_test_phases (st : TestState) (p : TestPhase) :
    (testing st p).ten.state = st ∧ ((testing st p).ten.current.map CurrentTest.phase) = some p ∧
      State.reset.ten.current = none := ⟨rfl, rfl, rfl⟩

/-- Tests that a soft restart finds: one in CONNECTING, ended ones and suspended ones in RELEASING; and an entry that waits
for the home of a suspended test. -/
theorem test_witness_restarts (o : TestOutcome) (k : SuspendCause) :
    let c := test (.releaseSettle 0)
    let s (c : CurrentTest) := onTest (fun t => { t with state := .releasing, current := some c }) (homeIn .testHeld)
    (testing .connecting .quietCall).ten.state = .connecting ∧
      ((s { c with outcome := some o }).ten.current = some { c with outcome := some o } ∧
        (s c).ten.state ≠ .connecting ∧ (s c).ten.state ≠ .measuring) ∧
      (s { c with cause := some k }).ten.current = some { c with cause := some k } ∧ c.outcome = none ∧
      (onTest fun t => { t with queue := [entry] }).ten.queue.find? (fun x => x.home == c.home) = some entry := by
  refine ⟨rfl, ⟨rfl, ?_, ?_⟩, rfl, rfl, ?_⟩ <;> decide +kernel

/-- A soft restart reads another board each time (log 48). -/
theorem test_restart_rereads_the_board (s : State) :
    s.softRestart.pins = s.restartTest.pins.reread ∧
      s.restartTest.pins.reread.restarts = s.restartTest.pins.restarts + 1 := by
  refine ⟨?_, rfl⟩
  unfold State.softRestart startUp State.startStrobes State.startPower
  dsimp only
  split <;> rfl

/-- A suspended test meets the entry of its home: the union of the sets without the steps it has measured. -/
theorem test_requeue_merges :
    let c := { test (.releaseSettle 0) with set := ⟨false, true, false⟩, quiet := false, meas := [reading .dcvTG 0] }
    ((onTest fun t => { t with queue := [{ entry with home := 1 }, entry] }).ten.requeue c .power).queue =
      [⟨0, ⟨false, true, true⟩, false, .resumed, .order, some ⟨[reading .dcvTG 0], .power⟩⟩, { entry with home := 1 }] := by
  decide +kernel

/-- A CAP value in range, one over its range, none; measurements in a record's order. -/
theorem test_witness_loops :
    ([reading .capTR 9000].find? fun m => m.kind == .capTR) = some (reading .capTR 9000) ∧
      capacitanceOver.overRange = true ∧ (∀ m ∈ [reading .dcvTG 0], m.kind ≠ .capTR) ∧
      inRecordOrder [reading .capTR 1, reading .dcvTG 2] = [reading .dcvTG 2, reading .capTR 1] := by decide +kernel

/-- The next step of every set, and a FV reading just above and just at 60 V. -/
theorem test_witness_steps :
    (⟨true, true, true⟩ : TestSet).next = some .fv ∧ (⟨false, true, true⟩ : TestSet).next = some .ir ∧
      (⟨false, false, true⟩ : TestSet).next = some .cap ∧ (⟨false, false, false⟩ : TestSet).next = none ∧
      dangerous [reading .dcvTG (-6001)] = true ∧ dangerous [reading .dcvTG 6000, reading .dcvRG 6000] = false := by
  decide +kernel

/-- The current test of a RESUMED entry holds the cause that the entry carried, until a suspension of its own (R154,
R164). -/
theorem test_current_test_holds_the_carried_cause :
    let e : TestEntry := { entry with origin := .resumed, carried := some ⟨[reading .dcvTG 2], .storm⟩ }
    let s := onTest (fun t => { t with state := .connecting, current := some (testOf e 7) }) State.reset
    (testOf e 7).cause = some .storm ∧ (testOf entry 7).cause = none ∧ (testOf e 7).split = true ∧
      ((s.endTest .complete).ten.current.map CurrentTest.cause) = some (some .storm) ∧
      ((s.suspend .power).ten.current.map CurrentTest.cause) = some (some .power) := by decide +kernel

/-- Verdicts at the ends of their conditions, with the conditions before them false. -/
theorem test_witness_verdicts :
    verdictOf [] = none ∧ verdictOf [reading .dcvTG (-1001)] = some .foreignVoltage ∧
      verdictOf [reading .acvTR 501] = some .foreignVoltage ∧
      verdictOf [reading .dcvTG 1000, reading .resTR 999] = some .short ∧
      verdictOf [reading .resTR 1000, reading .resTG 999999] = some .leaky ∧
      verdictOf [reading .resRG 1000000, reading .capTR 4999] = some .openLoop ∧
      verdictOf [reading .capTR 5000] = some .ok := by decide +kernel

/-- A results log of 16 records, the newest read or none read. -/
def logOf (newestRead : Bool) : List ResultRecord :=
  (List.range 16).map fun k => ⟨k, 0, .order, .complete, false, [], none, none, newestRead && k == 15⟩

theorem test_witness_logs :
    State.reset.ten.log.length < 16 ∧ 16 ≤ (logOf true).length ∧ (∃ x ∈ logOf true, x.read = true) ∧
      (∀ y ∈ logOf false, y.read = false) ∧ (logOf false).head?.map ResultRecord.number = some 0 := by decide +kernel

/-- A handler's report and a peer's event as frames: 38 and 36 zero bytes fill them to 60 (R145, section 4.10). -/
theorem test_report_frames :
    let frame := reportFrame 0x010203040506 0x0a0b0c0d0e0f 0x88b5
    frame ⟨0x1234, 9, .handler 200 .notTaken⟩ =
        [1, 2, 3, 4, 5, 6, 10, 11, 12, 13, 14, 15, 0x88, 0xb5, 0x12, 0x34, 9, 0, 200, 5, 0, 0] ++ List.replicate 38 0 ∧
      frame ⟨0, 3, .peer true 11 7 [0x0102]⟩ =
        [1, 2, 3, 4, 5, 6, 10, 11, 12, 13, 14, 15, 0x88, 0xb5, 0, 0, 3, 1, 11, 0, 0, 1, 1, 2] ++ List.replicate 36 0 := by
  decide +kernel

/-- The replies that R183 says fit, at the ends of their record counts, and one past the end. -/
theorem test_witness_replies_that_fit :
    (ReportBody.reply 1 .done (.lineStatus State.reset.stationStatus (homeIds.map State.reset.homeStatus))).fits = true ∧
      (ReportBody.reply 7 .done (.results (logOf true) 0)).fits = true ∧
      (ReportBody.reply 7 .done (.results (logOf true ++ logOf true) 0)).fits = false ∧
      (ReportBody.reply 7 .done (.results [] 0)).fits = true := by decide +kernel

/-! ## Witnesses: power -/

/-- A WAKE not taken yet is recalled: its home is back at the head of the wake queue (log 59). -/
theorem test_recall_returns_wakes :
    let s := homeIn .sleep
    let t := ({ s with bhu := { s.bhu with requests := [(.wake, 0), (.sleep, 2), (.abandon, 3)], wakeQ := [1] } } : State).recall
    t.bhu.requests = [(.abandon, 3)] ∧ t.bhu.wakeQ = [0, 1] := by decide +kernel

/-- A fitting of three homes under 40 with a test waiting: the reserve of P_test does not fit, two homes take FULL, the
third LOW. -/
theorem test_a_fitting :
    let s := [0, 1, 2].foldl (fun s h => (s.updHome h fun m => { m with equipped := true, service := .upFull }).traffic h)
      (onBattery 40 State.reset)
    let f := s.fitting 40
    f.outcome.at 0 = some .full ∧ f.outcome.at 1 = some .full ∧ f.outcome.at 2 = some .low ∧ f.outcome.at 3 = none ∧
      f.remaining = 3 ∧ f.reserve = false ∧ s.fittingRequests f = [(.low, 2)] := by decide +kernel

/-! ## Witnesses: the invariants, and completion -/

/-- An active gateway on battery in the middle of its work: a frame in home 0's upstream queue and one in the uplink
queue, an address learned, a peer in the view, an event to report, home 1 asleep and queued to wake, and a test of
home 2 under way with its relay closed. -/
def midway : State :=
  let s := (State.reset.updHome 0 fun m => { m with equipped := true, service := .upFull, learned := [2] })
  let s := (s.updHome 1 fun m => { m with equipped := true, service := .sleep }).updHome 2 fun m =>
    { m with equipped := true, service := .testHeld }
  let s := onCells (fun c => { c with free := 2046, up := c.up.put 0 [frame 14], uplink := [frame 60] })
    (onBattery 60 (gateway s))
  let s := onTest (fun t => { t with
    state := .measuring, current := some { test (.capArmed 3) with home := 2 }, queue := [entry], tbusyDrive := true
    headDriving := true, holdSince := some 0 }) s
  { s with
    now := 9
    lpb := { s.lpb with relay := some 2 }
    bhu := { s.bhu with wakeQ := [1] }
    ups := { s.ups with credit := 100 }
    gwu := { s.gwu with table := [⟨0, 2, 0, 0, 299⟩] }
    pvw := { s.pvw with peers := [⟨3, notice, 3⟩] }
    pending := [.creditIntervalEnd] }

/-- `midway` meets the invariants that Lean can decide, and its next step answers. -/
theorem test_witness_invariants :
    (midway.cqm.free + midway.cellsInUse = 2048 ∧ midway.cqm.assembly = none ∧ PauseFollowsFreeCount midway) ∧
      (-1536 ≤ midway.ups.credit ∧ midway.ups.credit ≤ midway.cfg.depth) ∧ ReportQueueBounded midway ∧
      TestQueueBounded midway ∧ BuffersBounded midway ∧ ResultsLogBounded midway ∧ SpentCountBounded midway ∧
      PeerViewOrdered midway ∧ AddressTableDistinct midway ∧ GatewayQueuesOnlyAtGateway midway ∧
      WakeQueueSleeps midway ∧ AllowanceOnBatteryOnly midway ∧ ShapedRateBounded midway := by
  unfold PauseFollowsFreeCount ReportQueueBounded TestQueueBounded BuffersBounded ResultsLogBounded SpentCountBounded
    PeerViewOrdered AddressTableDistinct GatewayQueuesOnlyAtGateway WakeQueueSleeps AllowanceOnBatteryOnly
    ShapedRateBounded
  refine ⟨?_, ?_, ?_, ?_, ?_, ?_, ?_, ?_, ?_, ?_, ?_, ?_, ?_⟩ <;> decide +kernel

/-- `midway` meets the invariants that quantify over lists and options. -/
theorem test_witness_quantified_invariants :
    BurstOnlyInItsCall midway ∧ CreditBounded midway ∧ ClosedHomesHoldNoFrames midway ∧ HeldHomeIsUnderTest midway ∧
      RelayOnlyUnderTest midway ∧ WeightsBounded midway ∧ HomeFieldsFitState midway := by
  have empty : midway.cqm.assembly = none := by decide +kernel
  refine ⟨fun h => absurd h (by decide +kernel), ⟨by decide +kernel, ?_, ?_⟩, ⟨by decide +kernel, by decide +kernel, ?_⟩,
    ⟨by decide +kernel, ?_⟩, ?_, ?_, ?_⟩
  · show ∀ h, ∀ f ∈ midway.cqm.up.at h, f.length ≤ 1536
    decide +kernel
  · intro fs h; rw [empty] at h; cases h
  · intro fs h; rw [empty] at h; cases h
  · intro c hc ho; cases hc; cases ho
  · show ∀ h, midway.lpb.relay = some h →
      midway.testHolding = true ∧ midway.storm = false ∧ midway.service h = .testHeld ∧ midway.ten.currentHome = some h
    decide +kernel
  · intro h
    have free : ∀ h, (midway.ups.homes.at h).stepFloor = none ∧ (midway.ups.homes.at h).stagedTier = none ∧
        (midway.ups.homes.at h).threshold = none ∧ (midway.ups.homes.at h).staged = [] := by decide +kernel
    obtain ⟨h1, h2, h3, h4⟩ := free h
    refine ⟨by revert h; decide +kernel, by revert h; decide +kernel, ?_, ?_, ?_, ?_⟩ <;> intro w hw
    · rw [h1] at hw; cases hw
    · rw [h2] at hw; cases hw
    · rw [h3] at hw; cases hw
    · rw [h4] at hw; cases hw
  · intro h
    have unicast : ∀ h, (midway.home h).learned.all (fun a => !groupBit a) = true := by decide +kernel
    refine ⟨by revert h; decide +kernel, by revert h; decide +kernel, by revert h; decide +kernel,
      ⟨by revert h; decide +kernel, by revert h; decide +kernel, fun a ha => ?_⟩, by revert h; decide +kernel⟩
    simpa using List.all_eq_true.mp (unicast h) a ha

/-- The commands of `midway` and of the state after reset answer a next state. -/
theorem test_witness_steps_answer :
    (∃ t, step midway = .next t ∧ t.ups.credit = 100) ∧ ∃ t, step State.reset = .next t ∧ t.now = 1 :=
  ⟨⟨_, rfl, by decide +kernel⟩, _, rfl, by decide +kernel⟩

/-- On battery with home 0 in UP_LOW, sent FULL, and that request at the front. -/
def raising : State :=
  let s := onBattery 15 (homeIn .upLow)
  { s with bhu := { s.bhu with requests := [(.full, 0)] }, pending := [.modeRequestFull 0] }

/-- A QUIET state whose home no withdrawal waits for, and one with a raise sent, keep within the allowance, exactly. -/
theorem test_witness_spending :
    SpendingWithinAllowance raising ∧ RaisesAreSent raising ∧ raising.spending = 15 ∧ midway.spending = 56 ∧
      SpendingWithinAllowance midway ∧ RaisesAreSent midway ∧
      (∃ t, step raising = .next t ∧ NoWithdrawalOvertakenByQuiet t) ∧
      ∃ t, step midway = .next t ∧ NoWithdrawalOvertakenByQuiet t := by
  have r1 : RaisesAreSent raising := by
    intro h c hc; cases hc
    exact ⟨fun e => by cases e; decide +kernel, fun e => (by cases e), fun e => (by cases e)⟩
  have r2 : RaisesAreSent midway := by
    intro h c hc; cases hc; exact ⟨fun e => (by cases e), fun e => (by cases e), fun e => (by cases e)⟩
  refine ⟨⟨?_, ?_, ?_, fun _ => ⟨⟨15, ?_, ?_⟩, ?_, ?_, ?_⟩⟩, r1, ?_, ?_, ⟨?_, ?_, ?_, fun _ => ⟨⟨60, ?_, ?_⟩, ?_, ?_, ?_⟩⟩,
    r2, ⟨_, rfl, ?_⟩, _, rfl, ?_⟩
  all_goals first | rfl | decide +kernel | (unfold WakeQueueSleeps; decide +kernel) |
    (unfold NoWithdrawalOvertakenByQuiet; decide +kernel)

end Sys2Proof.Tests
end

section
/-! SUPPORT. The view of the lines: what the invariants of homes, test and relay read of a state, and the transitions of
that view that keep them. -/

namespace Sys2Proof

/-- What the invariants of the lines read of a home record. -/
@[ext] structure HomeView where
  service : Service
  ret : Option Mode
  resume : Bool
  rateUp : Nat
  rateDown : Nat
  learned : List Addr
  flaps : List Nat

/-- The view of a home record: no counter, no weight, no link state. -/
def Home.view (m : Home) : HomeView := ⟨m.service, m.ret, m.resume, m.rateUp, m.rateDown, m.learned, m.flaps⟩

@[simp] theorem Home.view_service (m : Home) : m.view.service = m.service := rfl

/-- A learned address list as R18 bounds it. -/
def LearnedFits (l : List Addr) : Prop := l.length ≤ 4 ∧ l.Nodup ∧ ∀ a ∈ l, groupBit a = false

theorem learnedFits_nil : LearnedFits [] := by simp [LearnedFits]

/-- One home's clause of `HomeFieldsFitState`. -/
structure HomeView.Fits (v : HomeView) : Prop where
  ret : v.ret.isSome = true ↔ v.service = .quiet
  resume : v.resume = true → v.service.isUp = true
  rates : Machine.ignoresRates v.service = true → v.rateUp = 0 ∧ v.rateDown = 0
  learned : LearnedFits v.learned
  flaps : v.flaps.length ≤ 3

/-- The view of a home torn down into a closed service state (R11, R13, R14). -/
def HomeView.closed (st : Service) (flaps : List Nat) : HomeView := ⟨st, none, false, 0, 0, [], flaps⟩

theorem HomeView.fits_closed {st : Service} {flaps : List Nat} (quiet : st ≠ .quiet) (few : flaps.length ≤ 3) :
    (HomeView.closed st flaps).Fits :=
  ⟨by simpa [HomeView.closed] using quiet, by simp [HomeView.closed], by simp [HomeView.closed], learnedFits_nil, few⟩

/-- A home in none of the states whose queues stay empty (R14): the three in which rate reports are ignored. -/
def Service.isOpen (st : Service) : Prop := Machine.ignoresRates st = false

/-- The home and the outcome of a test. -/
def CurrentTest.view (c : CurrentTest) : HomeId × Option TestOutcome := (c.home, c.outcome)

end Sys2Proof

namespace Sys2Proof.Machine

/-- The frames of an UPDATA burst in assembly (R35). -/
def Cqm.updataFrames (c : Cqm) : List Frame :=
  match c.assembly with
  | some ⟨.updata, fs⟩ => fs
  | _ => []

/-- What the invariants of homes, test and relay read of a state. -/
@[ext] structure LineView where
  homes : HomeId → HomeView
  relay : Option HomeId
  storm : Bool
  holds : Bool
  releases : Bool
  test : Option (HomeId × Option TestOutcome)
  up : Tab 8 (List Frame)
  down : Tab 8 (List Frame)
  burst : List Frame

/-- The view of the lines that a state shows. -/
def State.lines (s : State) : LineView :=
  { homes := fun h => (s.home h).view, relay := s.lpb.relay, storm := s.storm, holds := s.testHolding
    releases := s.ten.state == .releasing, test := s.ten.current.map CurrentTest.view, up := s.cqm.up, down := s.cqm.down
    burst := s.cqm.updataFrames }

/-- The home of the test in a view. -/
def LineView.testHome (L : LineView) : Option HomeId := L.test.map Prod.fst

/-- Homes, test and relay fit each other (R1, R2, R11, R18, R21, R22). -/
structure LineView.FitsTest (L : LineView) : Prop where
  fits : ∀ h, (L.homes h).Fits
  held : ∀ h, (L.homes h).service = .testHeld → (L.holds = true ∨ L.releases = true) ∧ L.testHome = some h
  admin : ∀ h, L.test = some (h, some .abortedAdmin) → (L.homes h).service ≠ .testHeld
  relay : ∀ h, L.relay = some h →
    L.holds = true ∧ L.storm = false ∧ (L.homes h).service = .testHeld ∧ L.testHome = some h

/-- Frames stand only for homes that may have them (R14). -/
structure LineView.ClosedEmpty (L : LineView) : Prop where
  empty : ∀ h, ¬(L.homes h).service.isOpen → L.up.at h = [] ∧ L.down.at h = []
  own : ∀ h, ∀ f ∈ L.up.at h, f.home = some h
  sent : ∀ f ∈ L.burst, ∃ h, f.home = some h ∧ (L.homes h).service ≠ .unequipped

/-- The second view keeps what the invariants say of the first. -/
structure LineView.Leads (L M : LineView) : Prop where
  fitsTest : L.FitsTest → M.FitsTest
  closedEmpty : L.ClosedEmpty → M.ClosedEmpty

theorem LineView.Leads.trans {L M N : LineView} (h : L.Leads M) (k : M.Leads N) : L.Leads N :=
  ⟨k.fitsTest ∘ h.fitsTest, k.closedEmpty ∘ h.closedEmpty⟩

/-- The second state keeps the invariants of the lines, if the first meets them. -/
def LinesKept (s t : State) : Prop := s.lines.Leads t.lines

theorem LinesKept.of_eq {s t : State} (h : t.lines = s.lines) : LinesKept s t := by
  unfold LinesKept
  rw [h]
  exact ⟨id, id⟩

theorem LinesKept.refl (s : State) : LinesKept s s := .of_eq rfl

theorem LinesKept.trans {s t u : State} (h : LinesKept s t) (k : LinesKept t u) : LinesKept s u :=
  LineView.Leads.trans h k

/-- A property that a first state has is at hand for what follows. -/
theorem LinesKept.of_fitsTest_of_closedEmpty {s t : State} (f : s.lines.FitsTest → t.lines.FitsTest)
    (c : s.lines.ClosedEmpty → t.lines.ClosedEmpty) : LinesKept s t := ⟨f, c⟩

/-- A fold of operations that keep the invariants keeps them. -/
theorem LinesKept.foldl {α : Type} (f : State → α → State) (h : ∀ s x, LinesKept s (f s x)) (l : List α) (s : State) :
    LinesKept s (l.foldl f s) := by
  induction l generalizing s with
  | nil => exact .refl s
  | cons x l ih => exact (h s x).trans (ih (f s x))

/-! ## The view and the invariants -/

theorem ignoresRates_iff (st : Service) :
    ignoresRates st = true ↔ st = .testHeld ∨ st = .adminDown ∨ st = .unequipped := by
  cases st <;> simp [ignoresRates]

theorem not_isOpen_iff (st : Service) : ¬st.isOpen ↔ st = .testHeld ∨ st = .adminDown ∨ st = .unequipped := by
  rw [← ignoresRates_iff, Service.isOpen, Bool.not_eq_false]

theorem State.mem_updataFrames (c : Cqm) (f : Frame) :
    f ∈ c.updataFrames ↔ ∃ fs, c.assembly = some ⟨.updata, fs⟩ ∧ f ∈ fs := by
  unfold Cqm.updataFrames
  split
  · rename_i fs h; simp [h]
  · rename_i h; simpa using fun fs e => absurd e (h fs)

theorem fitsTest_iff (s : State) :
    s.lines.FitsTest ↔ HomeFieldsFitState s ∧ HeldHomeIsUnderTest s ∧ RelayOnlyUnderTest s := by
  have home : s.lines.testHome = s.ten.currentHome := by
    simp only [LineView.testHome, State.lines, Ten.currentHome, Option.map_map]
    rfl
  constructor
  · intro F
    refine ⟨fun h => ?_, ⟨fun h e => ?_, fun c e o => ?_⟩, fun h e => ?_⟩
    · obtain ⟨ret, resume, rates, learned, flaps⟩ := F.fits h
      exact ⟨ret, resume, rates, learned, flaps⟩
    · obtain ⟨state, test⟩ := F.held h e
      exact ⟨state.imp id fun r => by simpa [State.lines] using r, home ▸ test⟩
    · exact F.admin c.home (by simp [State.lines, e, CurrentTest.view, o])
    · obtain ⟨holds, storm, held, test⟩ := F.relay h e
      exact ⟨holds, storm, held, home ▸ test⟩
  · rintro ⟨F, ⟨held, admin⟩, relay⟩
    refine ⟨fun h => ?_, fun h e => ?_, fun h e => ?_, fun h e => ?_⟩
    · obtain ⟨ret, resume, rates, learned, flaps⟩ := F h
      exact ⟨ret, resume, rates, learned, flaps⟩
    · obtain ⟨state, test⟩ := held h e
      exact ⟨state.imp id fun r => by simpa [State.lines] using r, home ▸ test⟩
    · obtain ⟨c, hc, hv⟩ := Option.map_eq_some_iff.mp (show s.ten.current.map CurrentTest.view = _ from e)
      obtain ⟨rfl, outcome⟩ := Prod.mk.inj hv
      exact admin c hc outcome
    · obtain ⟨holds, storm, atTest, test⟩ := relay h e
      exact ⟨holds, storm, atTest, home ▸ test⟩

theorem closedEmpty_iff (s : State) : s.lines.ClosedEmpty ↔ ClosedHomesHoldNoFrames s := by
  constructor
  · rintro ⟨empty, own, sent⟩
    refine ⟨fun h e => empty h ((not_isOpen_iff _).mpr e), own, fun fs e f m => ?_⟩
    exact sent f ((State.mem_updataFrames _ f).mpr ⟨fs, e, m⟩)
  · rintro ⟨empty, own, sent⟩
    refine ⟨fun h e => empty h ((not_isOpen_iff _).mp e), own, fun f m => ?_⟩
    obtain ⟨fs, e, m⟩ := (State.mem_updataFrames _ f).mp m
    exact sent fs e f m

end Sys2Proof.Machine
end

section
/-! SUPPORT. The transitions of the view of the lines, and what each shared operation does to it. -/

namespace Sys2Proof.Machine

/-! ## Transitions of the view -/

/-- One home's view replaced. -/
def LineView.setHome (h : HomeId) (v : HomeView) (L : LineView) : LineView :=
  { L with homes := Function.update L.homes h v }

@[simp] theorem LineView.setHome_homes_self (h : HomeId) (v : HomeView) (L : LineView) :
    (L.setHome h v).homes h = v := by
  simp [LineView.setHome]

theorem LineView.setHome_homes_of_ne {h k : HomeId} (v : HomeView) (L : LineView) (ne : k ≠ h) :
    (L.setHome h v).homes k = L.homes k := by
  simp [LineView.setHome, ne]

@[simp] theorem LineView.setHome_setHome (h : HomeId) (v w : HomeView) (L : LineView) :
    (L.setHome h v).setHome h w = L.setHome h w := by
  simp [LineView.setHome]

/-- A home's view changes within its service state: its fields go on fitting. -/
theorem LineView.leads_setHome_of_service {L : LineView} {h : HomeId} {v : HomeView}
    (service : v.service = (L.homes h).service) (fits : (L.homes h).Fits → v.Fits) : L.Leads (L.setHome h v) := by
  have same : ∀ k, ((L.setHome h v).homes k).service = (L.homes k).service := by
    intro k
    by_cases e : k = h
    · subst e; simpa using service
    · rw [LineView.setHome_homes_of_ne v L e]
  constructor
  · rintro ⟨fit, held, admin, relay⟩
    refine ⟨fun k => ?_, fun k e => held k (same k ▸ e), fun k e => same k ▸ admin k e, fun k e => same k ▸ relay k e⟩
    by_cases e : k = h
    · subst e; simpa using fits (fit k)
    · rw [LineView.setHome_homes_of_ne v L e]; exact fit k
  · rintro ⟨empty, own, sent⟩
    exact ⟨fun k e => empty k (same k ▸ e), own, fun f m => (sent f m).imp fun k ⟨hk, ne⟩ => ⟨hk, same k ▸ ne⟩⟩

/-- A home goes to an open service state: one that is not held, or that a test in RELEASING lets go. -/
theorem LineView.leads_setHome_of_open {L : LineView} {h : HomeId} {v : HomeView}
    (free : L.FitsTest → (L.homes h).service ≠ .testHeld ∨ L.holds = false) (isOpen : v.service.isOpen)
    (fits : (L.homes h).Fits → v.Fits) : L.Leads (L.setHome h v) := by
  have away : v.service ≠ .testHeld ∧ v.service ≠ .unequipped := by
    constructor <;> intro e <;> simp [Service.isOpen, e, ignoresRates] at isOpen
  constructor
  · intro F
    have mayGo := free F
    obtain ⟨fit, held, admin, relay⟩ := F
    have stays : ∀ k, ((L.setHome h v).homes k).service = .testHeld → (L.homes k).service = .testHeld := by
      intro k
      by_cases e : k = h
      · subst e; simp [away.1]
      · rw [LineView.setHome_homes_of_ne v L e]; exact id
    refine ⟨fun k => ?_, fun k e => held k (stays k e), fun k e => fun c => admin k e (stays k c), fun k e => ?_⟩
    · by_cases e : k = h
      · subst e; simpa using fits (fit k)
      · rw [LineView.setHome_homes_of_ne v L e]; exact fit k
    · obtain ⟨holds, storm, atTest, test⟩ := relay k e
      have other : k ≠ h := fun c => mayGo.elim (fun f => f (c ▸ atTest)) fun f => by simp [holds] at f
      exact ⟨holds, storm, (LineView.setHome_homes_of_ne v L other) ▸ atTest, test⟩
  · rintro ⟨empty, own, sent⟩
    refine ⟨fun k e => ?_, own, fun f m => (sent f m).imp fun k ⟨hk, ne⟩ => ⟨hk, ?_⟩⟩
    · by_cases c : k = h
      · subst c; exact absurd (by simpa using isOpen) e
      · rw [LineView.setHome_homes_of_ne v L c] at e; exact empty k e
    · by_cases c : k = h
      · subst c; simpa using away.2
      · rwa [LineView.setHome_homes_of_ne v L c]

/-! ## What the shared operations do to the view -/

@[simp] theorem State.fresh_lines (s : State) : s.fresh.lines = s.lines := rfl
@[simp] theorem State.emit_lines (ps : List Pulse) (s : State) : (s.emit ps).lines = s.lines := rfl
@[simp] theorem State.offer_lines (e : Event) (s : State) : (s.offer e).lines = s.lines := rfl
@[simp] theorem State.alloc_lines (n : Nat) (s : State) : (s.alloc n).lines = s.lines := rfl
@[simp] theorem State.release_lines (n : Nat) (s : State) : (s.release n).lines = s.lines := rfl
@[simp] theorem State.traffic_lines (h : HomeId) (s : State) : (s.traffic h).lines = s.lines := rfl
@[simp] theorem State.addVolume_lines (h : HomeId) (n : Nat) (s : State) : (s.addVolume h n).lines = s.lines := rfl

theorem State.updHome_lines (h : HomeId) (f : Home → Home) (s : State) :
    (s.updHome h f).lines = s.lines.setHome h (f (s.home h)).view := by
  have homes : (fun k => ((s.updHome h f).home k).view) = Function.update (fun k => (s.home k).view) h (f (s.home h)).view := by
    funext k
    by_cases e : k = h
    · subst e; simp
    · simp [State.home_updHome_of_ne h k f s e, e]
  exact LineView.ext homes rfl rfl rfl rfl rfl rfl rfl rfl

/-- A home record changed in what the view does not show. -/
theorem State.updHome_lines_of_view (h : HomeId) (f : Home → Home) (s : State) (same : ∀ m, (f m).view = m.view) :
    (s.updHome h f).lines = s.lines := by
  rw [State.updHome_lines, same]
  exact LineView.ext (Function.update_eq_self _ _) rfl rfl rfl rfl rfl rfl rfl rfl

@[simp] theorem State.count_lines (h : HomeId) (f : HomeCounters → HomeCounters) (s : State) :
    (s.count h f).lines = s.lines := State.updHome_lines_of_view h _ s fun _ => rfl

theorem State.moveTo_lines (st : Service) (h : HomeId) (s : State) :
    (s.moveTo st h).lines = s.lines.setHome h { s.lines.homes h with service := st } := by
  have homes : (s.moveTo st h).lines = (s.updHome h fun m => { m with service := st }).lines := rfl
  rw [homes, State.updHome_lines]
  rfl

theorem State.toSleep_lines (h : HomeId) (s : State) :
    (s.toSleep h).lines =
      s.lines.setHome h { s.lines.homes h with service := .sleep, ret := none, resume := false } := by
  simp only [State.toSleep, State.moveTo_lines, State.updHome_lines, LineView.setHome_setHome,
    LineView.setHome_homes_self]
  rfl

end Sys2Proof.Machine
end

section
/-! SUPPORT. More transitions: queues, closing a home, the test and the relay. -/

namespace Sys2Proof.Machine

/-! ## Transitions of queues, test and relay -/

/-- What fits goes on fitting whatever the queues hold. -/
theorem LineView.FitsTest.of_queues {L : LineView} (F : L.FitsTest) (up down : Tab 8 (List Frame)) (burst : List Frame) :
    LineView.FitsTest { L with up, down, burst } :=
  ⟨F.fits, F.held, F.admin, F.relay⟩

/-- Frames leave queues, or go from an upstream queue into the burst. -/
theorem LineView.leads_of_fewer {L : LineView} {up down : Tab 8 (List Frame)} {burst : List Frame}
    (hup : ∀ h, up.at h ⊆ L.up.at h) (hdown : ∀ h, down.at h ⊆ L.down.at h)
    (hburst : ∀ f ∈ burst, f ∈ L.burst ∨ ∃ h, f ∈ L.up.at h) : L.Leads { L with up, down, burst } := by
  refine ⟨fun F => F.of_queues up down burst, fun ⟨empty, own, sent⟩ => ⟨fun h e => ?_, fun h f m => own h f (hup h m), ?_⟩⟩
  · obtain ⟨noUp, noDown⟩ := empty h e
    exact ⟨List.subset_nil.mp (noUp ▸ hup h), List.subset_nil.mp (noDown ▸ hdown h)⟩
  · intro f m
    rcases hburst f m with b | ⟨h, u⟩
    · exact sent f b
    · refine ⟨h, own h f u, fun e => ?_⟩
      have : L.up.at h = [] := (empty h ((not_isOpen_iff _).mpr (Or.inr (Or.inr e)))).1
      rw [this] at u
      exact absurd u List.not_mem_nil

theorem LineView.leads_empty_down (L : LineView) (h : HomeId) : L.Leads { L with down := L.down.put h [] } := by
  refine LineView.leads_of_fewer (fun _ => List.Subset.refl _) (fun k => ?_) fun f m => Or.inl m
  rw [Tab.at_put]
  split <;> simp

theorem LineView.leads_empty_up (L : LineView) (h : HomeId) : L.Leads { L with up := L.up.put h [] } := by
  refine LineView.leads_of_fewer (fun k => ?_) (fun _ => List.Subset.refl _) fun f m => Or.inl m
  rw [Tab.at_put]
  split <;> simp

/-- The upstream queue of an open home takes a frame of that home. -/
theorem LineView.ClosedEmpty.put_up {L : LineView} (C : L.ClosedEmpty) {h : HomeId} {q : List Frame}
    (isOpen : (L.homes h).service.isOpen) (own : ∀ f ∈ q, f.home = some h) :
    LineView.ClosedEmpty { L with up := L.up.put h q } := by
  refine ⟨fun k e => ?_, fun k f m => ?_, C.sent⟩
  · have ne : k ≠ h := fun c => e (c ▸ isOpen)
    simpa [Tab.at_put_of_ne _ _ _ _ ne] using C.empty k e
  · by_cases c : k = h
    · subst c; exact own f (by simpa using m)
    · exact C.own k f (by simpa [Tab.at_put_of_ne _ _ _ _ c] using m)

/-- The downstream queue of an open home changes. -/
theorem LineView.ClosedEmpty.put_down {L : LineView} (C : L.ClosedEmpty) {h : HomeId} {q : List Frame}
    (isOpen : (L.homes h).service.isOpen) : LineView.ClosedEmpty { L with down := L.down.put h q } := by
  refine ⟨fun k e => ?_, C.own, C.sent⟩
  have ne : k ≠ h := fun c => e (c ▸ isOpen)
  simpa [Tab.at_put_of_ne _ _ _ _ ne] using C.empty k e

/-- A home torn down: its queues empty, its fields cleared. -/
def LineView.close (h : HomeId) (st : Service) (flaps : List Nat) (L : LineView) : LineView :=
  { L.setHome h (.closed st flaps) with up := L.up.put h [], down := L.down.put h [] }

theorem LineView.ClosedEmpty.close {L : LineView} (C : L.ClosedEmpty) (h : HomeId) {st : Service} (flaps : List Nat)
    (equipped : st ≠ .unequipped) : (L.close h st flaps).ClosedEmpty := by
  refine ⟨fun k e => ?_, fun k f m => ?_, fun f m => (C.sent f m).imp fun k ⟨hk, ne⟩ => ⟨hk, ?_⟩⟩
  · by_cases c : k = h
    · subst c; simp [LineView.close]
    · simp only [LineView.close, Tab.at_put_of_ne _ _ _ _ c]
      exact C.empty k (by simpa [LineView.close, LineView.setHome_homes_of_ne _ L c] using e)
  · by_cases c : k = h
    · subst c; simp [LineView.close] at m
    · exact C.own k f (by simpa [LineView.close, Tab.at_put_of_ne _ _ _ _ c] using m)
  · by_cases c : k = h
    · subst c; simpa [LineView.close, HomeView.closed] using equipped
    · simpa [LineView.close, LineView.setHome_homes_of_ne _ L c] using ne

/-- A test on its way into RELEASING: the relay opens, the outcome is entered. -/
def LineView.releasing (outcome : Option TestOutcome) (L : LineView) : LineView :=
  { L with relay := none, holds := false, releases := true, test := L.test.map fun t => (t.1, outcome) }

@[simp] theorem LineView.testHome_releasing (outcome : Option TestOutcome) (L : LineView) :
    (L.releasing outcome).testHome = L.testHome := by
  simp [LineView.releasing, LineView.testHome, Function.comp_def]

/-- An end other than by the operator's disable leaves the home held. -/
theorem LineView.leads_releasing {L : LineView} {outcome : Option TestOutcome} (other : outcome ≠ some .abortedAdmin) :
    L.Leads (L.releasing outcome) := by
  refine ⟨fun F => ⟨F.fits, fun h e => ⟨Or.inr rfl, ?_⟩, fun h e => ?_, fun h e => nomatch e⟩,
    fun C => ⟨C.empty, C.own, C.sent⟩⟩
  · rw [LineView.testHome_releasing]; exact (F.held h e).2
  · obtain ⟨t, _, ht⟩ := Option.map_eq_some_iff.mp (show L.test.map _ = _ from e)
    exact absurd (Prod.mk.inj ht).2 other

/-- STORM comes or goes with the relay open. -/
theorem LineView.leads_storm {L : LineView} {storm : Bool} (asserted : L.storm = true) : L.Leads { L with storm } := by
  refine ⟨fun F => ⟨F.fits, F.held, F.admin, fun h e => ?_⟩, fun C => ⟨C.empty, C.own, C.sent⟩⟩
  have := (F.relay h e).2.1
  simp [asserted] at this

/-- The relay opens, whatever STORM does. -/
theorem LineView.leads_open_relay {L : LineView} {storm : Bool} : L.Leads { L with storm, relay := none } :=
  ⟨fun F => ⟨F.fits, F.held, F.admin, fun _ e => nomatch e⟩, fun C => ⟨C.empty, C.own, C.sent⟩⟩

/-! ## The shared operations -/

/-- A home enters an open service state, with a return mode and resume pending that fit it: one that is not held, or that
a test in RELEASING lets go. -/
theorem LinesKept.enter {s t : State} {h : HomeId} {st : Service} {ret : Option Mode} {resume : Bool}
    (view : t.lines = s.lines.setHome h { s.lines.homes h with service := st, ret := ret, resume := resume })
    (isOpen : st.isOpen) (free : s.service h ≠ .testHeld ∨ s.testHolding = false)
    (fitsRet : (s.lines.homes h).Fits → (ret.isSome = true ↔ st = .quiet))
    (fitsResume : (s.lines.homes h).Fits → resume = true → st.isUp = true) : LinesKept s t := by
  unfold LinesKept
  rw [view]
  refine LineView.leads_setHome_of_open (fun _ => free) isOpen fun v => ?_
  exact ⟨fitsRet v, fitsResume v, fun e => absurd e (by simpa [Service.isOpen] using isOpen), v.learned, v.flaps⟩

/-- A move between open states, into QUIET or out of it excepted. -/
theorem State.moveTo_kept {st : Service} {h : HomeId} {s : State} (isOpen : st.isOpen)
    (free : s.service h ≠ .testHeld ∨ s.testHolding = false) (from_quiet : s.service h ≠ .quiet) (to_quiet : st ≠ .quiet)
    (up : (s.service h).isUp = true → st.isUp = true) : LinesKept s (s.moveTo st h) := by
  refine .enter (s.moveTo_lines st h) isOpen free (fun v => ?_) (fun v e => up (v.resume e))
  exact v.ret.trans (iff_of_false from_quiet to_quiet)

theorem State.toSleep_kept {h : HomeId} {s : State} (free : s.service h ≠ .testHeld) : LinesKept s (s.toSleep h) :=
  .enter (s.toSleep_lines h) rfl (.inl free) (fun _ => by simp) (fun _ e => nomatch e)

@[simp] theorem State.freeDown_lines (r : DownDrop) (h : HomeId) (s : State) :
    (s.freeDown r h).lines = { s.lines with down := s.lines.down.put h [] } := by
  have homes := congrArg LineView.homes
    (s.updHome_lines_of_view h (fun m => { m with ctr := countDownDrop r (s.cqm.down.at h).length m.ctr }) fun _ => rfl)
  exact LineView.ext homes rfl rfl rfl rfl rfl rfl rfl rfl

@[simp] theorem State.freeUp_lines (r : UpDrop) (h : HomeId) (s : State) :
    (s.freeUp r h).lines = { s.lines with up := s.lines.up.put h [] } := by
  have homes := congrArg LineView.homes
    (s.updHome_lines_of_view h (fun m => { m with ctr := countUpDrop r (s.cqm.up.at h).length m.ctr }) fun _ => rfl)
  exact LineView.ext homes rfl rfl rfl rfl rfl rfl rfl rfl

end Sys2Proof.Machine
end

section
/-! SUPPORT. Each shared operation of the lines keeps their invariants. -/

namespace Sys2Proof.Machine

/-! ## Homes -/

theorem State.enterDown_lines (h : HomeId) (s : State) :
    (s.enterDown h).lines =
      { s.lines.setHome h { s.lines.homes h with
          service := .down, ret := none, resume := false, rateUp := 0, rateDown := 0, learned := [] } with
        down := s.lines.down.put h [] } := by
  simp only [State.enterDown, State.moveTo_lines, State.freeDown_lines, State.updHome_lines, LineView.setHome,
    Function.update_self, Function.update_idem]
  rfl

theorem State.enterAdminDown_lines (h : HomeId) (s : State) :
    (s.enterAdminDown h).lines = s.lines.close h .adminDown [] := by
  simp only [State.enterAdminDown, State.teardown, State.moveTo_lines, State.freeDown_lines, State.freeUp_lines,
    State.updHome_lines, LineView.setHome, LineView.close, Function.update_self, Function.update_idem,
    State.home_updHome_self]
  rfl

theorem State.hold_lines (h : HomeId) (s : State) :
    (s.hold h).lines = s.lines.close h .testHeld (s.home h).flaps := by
  simp only [State.hold, State.teardown, State.moveTo_lines, State.freeDown_lines, State.freeUp_lines,
    State.updHome_lines, LineView.setHome, LineView.close, Function.update_self, Function.update_idem,
    State.home_updHome_self]
  rfl

theorem State.enterDown_kept {h : HomeId} {s : State} (free : s.lines.FitsTest → s.service h ≠ .testHeld) :
    LinesKept s (s.enterDown h) := by
  unfold LinesKept
  rw [State.enterDown_lines]
  refine LineView.Leads.trans (M := s.lines.setHome h _) ?_ (LineView.leads_empty_down _ h)
  exact LineView.leads_setHome_of_open (fun F => .inl (free F)) (by rfl) fun v =>
    ⟨by simp, by simp, by simp, learnedFits_nil, v.flaps⟩

/-! ## The test -/

/-- A test state that says as much of the bus as the present one shows the same view. -/
theorem State.lines_of_apartFromHead (s : State) (st : TestState) (c : Option ClaimCall) (o : Option OwnCall)
    (w : Option Withdrawal) (same : st.apartFromHead = s.ten.state.apartFromHead) :
    State.lines { s with cbi := { s.cbi with claim := c, call := o }, ten := { s.ten with state := st, withdrawal := w } } =
      s.lines := by
  have holds : (st == .connecting || st == .measuring) = s.testHolding := by
    unfold State.testHolding
    revert same
    cases st <;> cases s.ten.state <;> decide
  have releases : (st == .releasing) = (s.ten.state == .releasing) := by
    revert same
    cases st <;> cases s.ten.state <;> decide
  exact LineView.ext rfl rfl rfl holds releases rfl rfl rfl rfl

theorem State.stepBack_state (st : TestState) (s : State) : (s.stepBack st).ten.state = st := rfl

/-- The examination leaves a test that holds the bus, and none comes to hold it (R150). -/
theorem State.examine_apartFromHead (s : State) :
    s.examine.ten.state.apartFromHead = s.ten.state.apartFromHead := by
  unfold State.examine
  split
  · rfl
  · rename_i free
    have apart : s.ten.state.apartFromHead = .idle := by
      revert free
      cases s.ten.state <;> simp [TestState.apartFromHead]
    rw [apart]
    split
    · rfl
    · rename_i e _ _
      have table : (s.examTable e).apartFromHead = .idle := by
        unfold State.examTable State.examTableFree
        repeat' split
        all_goals rfl
      split
      · split
        · exact apart
        · split <;> rfl
      · exact table

@[simp] theorem State.examine_lines (s : State) : s.examine.lines = s.lines := by
  obtain ⟨st, c, o, w, h⟩ := s.examine_spec
  have same := s.examine_apartFromHead
  rw [h] at same ⊢
  exact s.lines_of_apartFromHead st c o w same

@[simp] theorem State.settle_lines (s0 s : State) : (State.settle s0 s).lines = s.lines := by
  have judged : (State.settle s0 s).lines = (State.examineOnChange s0 s).lines := rfl
  rw [judged, State.examineOnChange]
  split
  · exact s.examine_lines
  · rfl

theorem LinesKept.settle {s t : State} (h : LinesKept s t) (s0 : State) : LinesKept s (State.settle s0 t) :=
  h.trans (.of_eq (State.settle_lines s0 t))

@[simp] theorem State.withdrawClaim_lines (r : Option StationId) (s : State) : (s.withdrawClaim r).lines = s.lines := by
  obtain ⟨c, o, w, h⟩ := s.withdrawClaim_spec r
  rw [h]
  rfl

theorem State.enterReleasing_lines (o : Option TestOutcome) (k : Option SuspendCause) (s : State) :
    (s.enterReleasing o k).lines = s.lines.releasing o := by
  refine LineView.ext rfl rfl rfl rfl rfl ?_ rfl rfl rfl
  simp [State.lines, State.enterReleasing, LineView.releasing, CurrentTest.view, Function.comp_def]

theorem State.enterReleasing_kept {o : Option TestOutcome} (k : Option SuspendCause) (s : State)
    (other : o ≠ some .abortedAdmin) : LinesKept s (s.enterReleasing o k) := by
  unfold LinesKept
  rw [State.enterReleasing_lines]
  exact LineView.leads_releasing other

theorem State.suspend_kept (k : SuspendCause) (s : State) : LinesKept s (s.suspend k) := by
  unfold State.suspend
  split
  · exact s.enterReleasing_kept (some k) (by simp)
  · exact .refl s

theorem State.endTest_kept {o : TestOutcome} (s : State) (other : o ≠ .abortedAdmin) : LinesKept s (s.endTest o) := by
  unfold State.endTest
  split
  · exact s.enterReleasing_kept none (by simpa using other)
  · exact .refl s

theorem State.updTest_lines (f : CurrentTest → CurrentTest) (s : State) (same : ∀ c, (f c).view = c.view) :
    (s.updTest f).lines = s.lines := by
  refine LineView.ext rfl rfl rfl rfl rfl ?_ rfl rfl rfl
  simp [State.lines, State.updTest, Function.comp_def, same]

/-! ## The fitting, wakes, quiets -/

@[simp] theorem State.fit_lines (a : Nat) (s : State) : (s.fit a).lines = s.lines := rfl

theorem State.powerRound_kept (s : State) : LinesKept s s.powerRound := by
  have fitted : LinesKept s (s.powerCalc.fit (s.powerCalc.shc.a.getD 0)) := .of_eq rfl
  rcases s.powerRound_spec with h | h <;> rw [h]
  · exact fitted
  · exact fitted.trans (State.suspend_kept _ _)

/-- A home in DOWN, or one that a test in RELEASING lets go, enters TRAINING (R5, R12, R175). -/
theorem State.enterTraining_kept {h : HomeId} {s : State}
    (free : s.service h = .down ∨ s.service h = .testHeld ∧ s.testHolding = false) : LinesKept s (s.enterTraining h) := by
  have trained : LinesKept s (s.moveTo .training h) := by
    refine State.moveTo_kept rfl ?_ ?_ (by simp) fun e => ?_
    · exact free.imp (fun e => by simp [e]) And.right
    · rcases free with e | ⟨e, _⟩ <;> simp [e]
    · rcases free with f | ⟨f, _⟩ <;> simp [f, Service.isUp] at e
  have slept := trained.trans (State.toSleep_kept (h := h) (by simp))
  rcases s.enterTraining_spec h with e | e | e <;> rw [e]
  · exact trained
  · exact slept
  · exact slept.trans (State.powerRound_kept _)

theorem State.quietHome_kept (g : Group) (s : State) (h : HomeId) : LinesKept s (s.quietHome g h) := by
  have silenced (m : Mode) (up : (s.service h).isUp = true) :
      LinesKept s ((s.updHome h fun x => { x with ret := some m, resume := false }).moveTo .quiet h) := by
    refine .enter (h := h) (st := .quiet) (ret := some m) (resume := false) ?_ rfl ?_ (fun _ => by simp) (fun _ e => nomatch e)
    · rw [State.moveTo_lines, State.updHome_lines, LineView.setHome_setHome, LineView.setHome_homes_self]; rfl
    · exact .inl fun e => by simp [e, Service.isUp] at up
  unfold State.quietHome
  split
  · exact .refl s
  · split
    · rename_i e; exact silenced .full (by rw [e]; rfl)
    · rename_i e; exact silenced .low (by rw [e]; rfl)
    · rename_i e; exact State.toSleep_kept (by simp [e])
    · exact .refl s

theorem State.quietGroup_kept (g : Group) (s : State) : LinesKept s (s.quietGroup g) := by
  have silenced := LinesKept.foldl (State.quietHome g) (State.quietHome_kept g) homeIds s
  unfold State.quietGroup
  generalize homeIds.foldl (State.quietHome g) s = t at silenced ⊢
  exact silenced.trans (.of_eq rfl)

theorem State.hearQuiet_kept (g : Group) (ms : Nat) (s : State) : LinesKept s (s.hearQuiet g ms) :=
  (s.setQuietEnd g ms).quietGroup_kept g

theorem State.unquietHome_kept (g : Group) (s : State) (h : HomeId) : LinesKept s (s.unquietHome g h) := by
  have returned {st : Service} (up : st.isUp = true) (free : s.service h ≠ .testHeld) :
      LinesKept s ((s.updHome h fun x => { x with ret := none, resume := true }).moveTo st h) := by
    refine .enter (ret := none) (resume := true) ?_ ?_ (.inl free) (fun _ => ?_) (fun _ _ => up)
    · rw [State.moveTo_lines, State.updHome_lines, LineView.setHome_setHome, LineView.setHome_homes_self]; rfl
    · revert up; cases st <;> simp [Service.isUp, Service.isOpen, ignoresRates]
    · revert up; cases st <;> simp [Service.isUp]
  unfold State.unquietHome
  split
  · exact .refl s
  · rename_i silent
    have free : s.service h ≠ .testHeld := by
      intro e; simp [e] at silent
    split
    · exact returned rfl free
    · exact State.toSleep_kept free
    · exact returned rfl free

theorem State.wakeGroup_lines (g : Group) (s : State) : (s.wakeGroup g).lines = s.lines := by
  unfold State.wakeGroup
  split <;> rfl

theorem State.endQuiet_kept (s : State) (g : Group) : LinesKept s (s.endQuiet g) := by
  unfold State.endQuiet
  split
  · have returned := LinesKept.foldl (State.unquietHome g) (State.unquietHome_kept g) homeIds
      { s with ten := { s.ten with quietEnds := s.ten.quietEnds.put g none } }
    exact (returned : LinesKept s _).trans (.of_eq (State.wakeGroup_lines _ _))
  · exact .refl s

theorem State.tbusyFell_kept (s : State) : LinesKept s s.tbusyFell := by
  unfold State.tbusyFell
  refine LinesKept.trans ?_ (LinesKept.foldl State.endQuiet State.endQuiet_kept groupIds _)
  exact .of_eq rfl

theorem State.wakeFailed_kept {cause : WakeFailCause} {h : HomeId} {s : State} (free : s.service h ≠ .testHeld) :
    LinesKept s (s.wakeFailed cause h) := by
  have counted : LinesKept s (s.count h fun c => { c with wakeFailures := sat32 c.wakeFailures 1 }) :=
    .of_eq (State.count_lines ..)
  exact counted.trans (State.toSleep_kept (by simpa using free))
end Sys2Proof.Machine
end

section
/-! SUPPORT. Frames, bursts and link reports keep the invariants of the lines. -/

namespace Sys2Proof.Machine

/-! ## Folds that the view does not show -/

/-- A fold of operations that leave a part of the state alone. -/
theorem State.foldl_same {α β : Type} (part : State → β) (f : State → α → State) (h : ∀ s x, part (f s x) = part s)
    (l : List α) (s : State) : part (l.foldl f s) = part s := by
  induction l generalizing s with
  | nil => rfl
  | cons x l ih => exact (ih (f s x)).trans (h s x)

/-- A fold of operations that the view does not show. -/
theorem State.foldl_lines {α : Type} (f : State → α → State) (h : ∀ s x, (f s x).lines = s.lines) (l : List α)
    (s : State) : (l.foldl f s).lines = s.lines :=
  State.foldl_same State.lines f h l s

/-! ## Link reports -/

/-- A request for a test changes the queue of the Test Engine only (R149). -/
theorem Ten.request_spec {h : HomeId} {set : TestSet} {quiet : Bool} {origin : Origin} {t u : Ten}
    (e : t.request h set quiet origin = some u) : ∃ q, u = { t with queue := q } := by
  unfold Ten.request at e
  split at e
  · exact ⟨_, (Option.some.inj e).symm⟩
  · generalize (if t.current.isSome then 1 else 0) = taken at e
    split at e
    · cases e
    · exact ⟨_, (Option.some.inj e).symm⟩

@[simp] theorem State.flapRequest_lines (h : HomeId) (s : State) : (s.flapRequest h).lines = s.lines := by
  unfold State.flapRequest
  cases e : s.ten.request h ⟨true, true, true⟩ false .flap with
  | none => rfl
  | some u =>
    obtain ⟨q, rfl⟩ := Ten.request_spec e
    rfl

theorem length_pushFlap (t : Nat) {l : List Nat} (h : l.length ≤ 3) : (pushFlap t l).length ≤ 3 := by
  unfold pushFlap
  split <;> simp <;> omega

theorem State.countLoss_kept (h : HomeId) (s : State) : LinesKept s (s.countLoss h) := by
  have counted (flaps : List Nat) (few : (s.lines.homes h).Fits → flaps.length ≤ 3) :
      LinesKept s (s.updHome h fun m => { m with flaps := flaps, ctr := { m.ctr with flaps := sat32 m.ctr.flaps 1 } }) := by
    unfold LinesKept
    rw [State.updHome_lines]
    exact LineView.leads_setHome_of_service rfl fun v => ⟨v.ret, v.resume, v.rates, v.learned, few v⟩
  unfold State.countLoss
  dsimp only
  split
  · exact (counted [] fun _ => by simp).trans (.of_eq (State.flapRequest_lines ..))
  · exact counted _ fun v => length_pushFlap _ v.flaps

theorem State.linkLoss_kept {h : HomeId} {s : State} (free : s.service h ≠ .testHeld) : LinesKept s (s.linkLoss h) := by
  unfold State.linkLoss
  dsimp only
  split
  · exact State.enterDown_kept fun _ => free
  · exact (State.enterDown_kept fun _ => free).trans (State.countLoss_kept _ _)

theorem State.upFromDown_kept {h : HomeId} {s : State} (down : s.service h = .down) : LinesKept s (s.upFromDown h) := by
  unfold State.upFromDown
  dsimp only
  split
  · rename_i trains
    exact (State.enterTraining_kept (.inl down)).trans
      (State.moveTo_kept rfl (.inl (by simp [trains])) (by simp [trains]) (by simp) (fun _ => rfl))
  · exact State.enterTraining_kept (.inl down)

theorem State.clearResume_kept (h : HomeId) (s : State) : LinesKept s (s.updHome h fun m => { m with resume := false }) := by
  unfold LinesKept
  rw [State.updHome_lines]
  exact LineView.leads_setHome_of_service rfl fun v => ⟨v.ret, by simp [Home.view], v.rates, v.learned, v.flaps⟩

theorem State.applyLink_kept (h : HomeId) (st : LinkState) (s : State) : LinesKept s (s.applyLink h st) := by
  unfold State.applyLink
  split
  · rename_i e; exact State.enterTraining_kept (.inl e)
  · rename_i e; exact State.upFromDown_kept e
  · rename_i e; exact State.moveTo_kept rfl (.inl (by simp [e])) (by simp [e]) (by simp) (fun _ => rfl)
  · rename_i e; exact State.enterDown_kept fun _ => by simp [e]
  · rename_i e; exact State.enterDown_kept fun _ => by simp [e]
  · rename_i e; exact State.moveTo_kept rfl (.inl (by simp [e])) (by simp [e]) (by simp) (fun _ => rfl)
  · rename_i e; exact State.wakeFailed_kept (by simp [e])
  · exact s.clearResume_kept h
  · exact s.clearResume_kept h
  · rename_i e
    split
    · exact State.enterDown_kept fun _ => by simp [e]
    · exact State.linkLoss_kept (by simp [e])
  · rename_i e
    split
    · exact State.enterDown_kept fun _ => by simp [e]
    · exact State.linkLoss_kept (by simp [e])
  · rename_i e
    split
    · exact .refl s
    · exact State.linkLoss_kept (by simp [e])
  · rename_i e
    split
    · exact .refl s
    · exact State.linkLoss_kept (by simp [e])
  · exact .refl s

/-! ## Frames placed -/

@[simp] theorem State.wakeCause_lines (h : HomeId) (s : State) : (s.wakeCause h).lines = s.lines := rfl

/-- A home whose state does not refuse a downstream frame may have frames queued (R14, R16). -/
theorem isOpen_of_downRefusal {st : Service} (h : downRefusal st = none) : st.isOpen := by
  cases st <;> simp [downRefusal] at h <;> rfl

/-- A frame joins the upstream queue of its open home. -/
theorem State.joinUp_kept {h : HomeId} {f : Frame} {s : State} (isOpen : (s.service h).isOpen) (own : f.home = some h) :
    LinesKept s (s.joinUp h f) := by
  refine ⟨fun F => F.of_queues _ _ _, fun C => C.put_up (L := s.lines) (h := h) isOpen fun x m => ?_⟩
  rcases List.mem_append.mp m with m | m
  · exact C.own h x m
  · rw [List.mem_singleton.mp m]; exact own

/-- A frame joins the downstream queue of an open home. -/
theorem State.joinDown_kept {h : HomeId} {s : State} (f : Frame) (isOpen : (s.service h).isOpen) :
    LinesKept s (s.joinDown h f) :=
  ⟨fun F => F.of_queues _ _ _, fun C => C.put_down (L := s.lines) (h := h) isOpen⟩

theorem State.placeUp_kept {h : HomeId} {f : Frame} {s : State} (isOpen : (s.service h).isOpen)
    (own : f.home = some h) : LinesKept s (s.placeUp h f) := by
  unfold State.placeUp
  split
  · exact .of_eq (State.count_lines ..)
  · have joined : LinesKept s ((s.alloc f.cells).joinUp h f) :=
      State.joinUp_kept (s := s.alloc f.cells) isOpen own
    exact joined.trans (.of_eq (by simp))

theorem State.takeUpstream_kept {h : HomeId} {bytes : List Byte} {s : State} (isOpen : (s.service h).isOpen) :
    LinesKept s (s.takeUpstream h bytes) := by
  unfold State.takeUpstream
  dsimp only
  split
  · exact .of_eq (by simp)
  · split
    · exact .of_eq (by simp)
    · have learned : LinesKept s ((s.traffic h).updHome h fun m =>
          { m with learned := learnAddress (sourceOf bytes) m.learned }) := by
        unfold LinesKept
        rw [State.updHome_lines]
        exact LineView.leads_setHome_of_service rfl fun v =>
          ⟨v.ret, v.resume, v.rates, learnAddress_fits _ _ v.learned, v.flaps⟩
      refine learned.trans (State.placeUp_kept ?_ rfl)
      rw [State.service, State.home_updHome_self]
      exact isOpen

theorem State.placeChecked_kept {h : HomeId} {f : Frame} {s : State} (isOpen : (s.service h).isOpen) :
    LinesKept s (s.placeChecked h f) := by
  unfold State.placeChecked
  split
  · exact .of_eq (State.count_lines ..)
  · exact State.joinDown_kept (s := s.alloc f.cells) f isOpen

theorem State.placeDown_kept (bytes : List Byte) (s : State) (h : HomeId) : LinesKept s (s.placeDown h bytes) := by
  unfold State.placeDown
  dsimp only
  split
  · exact .of_eq (State.count_lines ..)
  · rename_i e
    have placed (f : Frame) : LinesKept s (s.placeChecked h f) := State.placeChecked_kept (isOpen_of_downRefusal e)
    split
    · split
      · exact .of_eq (State.count_lines ..)
      · split
        · exact (placed _).trans (.of_eq rfl)
        · exact (placed _).trans (.of_eq rfl)
    · exact placed _

@[simp] theorem State.placeStn_lines (i : StationId) (h : HomeId) (bytes : List Byte) (s : State) :
    (s.placeStn i h bytes).lines = s.lines := by
  unfold State.placeStn
  dsimp only
  split <;> rfl

@[simp] theorem State.placeFlood_lines (bytes : List Byte) (s : State) : (s.placeFlood bytes).lines = s.lines := by
  unfold State.placeFlood
  dsimp only
  split <;> rfl

theorem State.routeFrame_kept (bytes : List Byte) (s : State) : LinesKept s (s.routeFrame bytes) := by
  have flooded : LinesKept s (s.floodFrame bytes) :=
    (LinesKept.foldl _ (State.placeDown_kept bytes) _ s).trans (.of_eq (State.placeFlood_lines ..))
  unfold State.routeFrame
  dsimp only
  split
  · exact flooded
  · split
    · split
      · exact s.placeDown_kept bytes _
      · exact .of_eq (State.placeStn_lines ..)
    · exact flooded

/-! ## Bursts in reception -/

@[simp] theorem State.holdFrame_lines (x : Held) (s : State) : (s.holdFrame x).lines = s.lines := rfl

@[simp] theorem State.setRx_lines (r : Reception) (s : State) : (s.setRx r).lines = s.lines := rfl

@[simp] theorem State.holdDown_lines (reserve : Nat) (f : ArrivingFrame) (s : State) (h : HomeId) :
    (s.holdDown reserve f h).lines = s.lines := by
  unfold State.holdDown
  split
  · exact State.count_lines ..
  · rfl

@[simp] theorem State.holdUp_lines (f : ArrivingFrame) (s : State) : (s.holdUp f).lines = s.lines := by
  unfold State.holdUp
  split <;> rfl

@[simp] theorem State.openFrame_lines (r : Reception) (f : ArrivingFrame) (s : State) :
    (s.openFrame r f).lines = s.lines := by
  unfold State.openFrame
  split <;> simp

@[simp] theorem State.nameCopies_lines (f : ArrivingFrame) (s : State) : (s.nameCopies f).1.lines = s.lines := by
  unfold State.nameCopies
  split
  · rfl
  · exact State.foldl_lines _ (State.holdDown_lines 64 f) _ s

@[simp] theorem State.matchHome_lines (src : WakeSource) (f : ArrivingFrame) (ids : List FilterId) (s : State)
    (h : HomeId) : (s.matchHome src f ids h).lines = s.lines := by
  have freed : (s.freeUnmatched f h).lines = s.lines := by
    unfold State.freeUnmatched
    dsimp only
    split
    · exact State.count_lines h _ (s.release _)
    · rfl
  unfold State.matchHome
  split
  · exact freed
  · split <;> rfl

@[simp] theorem State.matchFrame_lines (k : CallKind) (f : ArrivingFrame) (s : State) :
    (s.matchFrame k f).lines = s.lines :=
  State.foldl_lines _ (State.matchHome_lines _ f _) _ s

@[simp] theorem State.fillHeld_lines (f : ArrivingFrame) (s : State) : (s.fillHeld f).lines = s.lines := rfl

@[simp] theorem State.dataWord_lines (r : Reception) (f : ArrivingFrame) (w : Word) (ok : Bool) (s : State) :
    (s.dataWord r f w ok).lines = s.lines := by
  unfold State.dataWord
  dsimp only
  repeat' split
  all_goals simp

@[simp] theorem State.takeWord_lines (r : Reception) (w : Word) (p : Bool) (s : State) :
    (s.takeWord r w p).lines = s.lines := by
  have staged (q : Reception) (ok : Bool) : (s.stageWord q w ok).lines = s.lines := by
    unfold State.stageWord
    split
    case h_4 => exact State.dataWord_lines ..
    case h_3 =>
      unfold State.lengthWord
      dsimp only
      split
      · rfl
      · exact State.openFrame_lines ..
    all_goals rfl
  unfold State.takeWord
  dsimp only
  split
  · rfl
  · exact staged _ _

theorem State.joinHeld_kept (caller : StationId) (s : State) (x : Held) : LinesKept s (s.joinHeld caller x) := by
  unfold State.joinHeld
  split
  · split <;> exact .of_eq rfl
  · split
    · exact .of_eq (by simp)
    · rename_i e
      exact State.joinDown_kept _ (isOpen_of_downRefusal e)

@[simp] theorem State.applyWake_lines (s : State) (w : PendingWake) : (s.applyWake w).lines = s.lines := by
  unfold State.applyWake
  split <;> rfl

theorem State.goodEnd_kept (caller : StationId) (s : State) : LinesKept s (s.goodEnd caller) := by
  unfold State.goodEnd
  dsimp only
  refine LinesKept.trans ?_ (.of_eq (State.foldl_lines _ State.applyWake_lines _ _))
  refine LinesKept.trans ?_ (LinesKept.foldl _ (State.joinHeld_kept caller) _ _)
  exact .of_eq rfl

@[simp] theorem State.badEnd_lines (s : State) : s.badEnd.lines = s.lines := rfl

theorem State.closeIfComplete_kept (s : State) : LinesKept s s.closeIfComplete := by
  have placed (r : Reception) : LinesKept s (s.closeGood r) := by
    unfold State.closeGood State.placeReceived
    split
    · exact .of_eq rfl
    · split <;> exact .of_eq rfl
    · have closed : LinesKept s (s.driveClose true) := .of_eq rfl
      exact closed.trans (State.goodEnd_kept _ _)
  unfold State.closeIfComplete
  split
  · split
    · split
      · exact .of_eq rfl
      · exact placed _
    · exact .refl s
  · exact .refl s

theorem State.endReception_kept (s : State) : LinesKept s s.endReception := by
  unfold State.endReception
  split
  · split
    · split
      · exact s.goodEnd_kept _
      · exact .of_eq rfl
    · split <;> exact .of_eq rfl
  · exact .of_eq rfl
  · exact .refl s

@[simp] theorem State.cutReception_lines (s : State) : s.cutReception.lines = s.lines := by
  unfold State.cutReception
  split
  · split <;> rfl
  · rfl
  · rfl

end Sys2Proof.Machine
end

section
/-! SUPPORT. The scheduler, own bursts, own calls, the test and the start keep the invariants of the lines. -/

namespace Sys2Proof.Machine

/-! ## The scheduler takes frames from the queues (R115) -/

theorem Sched.visitNext_up {x y : Sched} (h : x.visitNext = some y) : y.up = x.up := by
  unfold Sched.visitNext at h
  obtain ⟨k, _, rfl⟩ := Option.map_eq_some_iff.mp h
  rfl

theorem Sched.drrChoice_up {n : Nat} {x : Sched} {r : HomeId × Sched} (h : x.drrChoice n = some r) :
    r.2.up = x.up := by
  induction n generalizing x with
  | zero => cases h
  | succ n ih =>
    simp only [Sched.drrChoice] at h
    generalize (x.ups.visitOpen && _) = here at h
    split at h
    · cases h; rfl
    · split at h
      · cases h
      · rename_i y e
        exact (ih h).trans (Sched.visitNext_up e)

theorem Sched.choose_up {x : Sched} {r : ChoiceRule × HomeId × Sched} (h : x.choose = some r) : r.2.2.up = x.up := by
  unfold Sched.choose at h
  split at h
  · cases h; rfl
  · obtain ⟨q, e, rfl⟩ := Option.map_eq_some_iff.mp h
    exact Sched.drrChoice_up e

theorem Sched.take_up_subset (rule : ChoiceRule) (h k : HomeId) (x : Sched) : (x.take rule h).up.at k ⊆ x.up.at k := by
  unfold Sched.take
  split
  · exact List.Subset.refl _
  · rename_i f rest e
    by_cases c : k = h
    · subst c; simp [e]
    · simp [Tab.at_put_of_ne _ _ _ _ c]

/-- A burst is filled with frames of the upstream queues. -/
theorem Sched.fill_subset (n room : Nat) (x : Sched) (fs : List Frame) :
    (∀ h, (x.fill n room fs).1.up.at h ⊆ x.up.at h) ∧
      ∀ f ∈ (x.fill n room fs).2, f ∈ fs ∨ ∃ h, f ∈ x.up.at h := by
  have stay : (∀ h, x.up.at h ⊆ x.up.at h) ∧ ∀ f ∈ fs, f ∈ fs ∨ ∃ h, f ∈ x.up.at h :=
    ⟨fun _ => List.Subset.refl _, fun _ m => Or.inl m⟩
  induction n generalizing x fs with
  | zero => exact stay
  | succ n ih =>
    simp only [Sched.fill]
    split
    · exact stay
    · rename_i rule h y chosen
      have sameUp : y.up = x.up := Sched.choose_up chosen
      split
      · exact stay
      · rename_i f head
        split
        · obtain ⟨queues, frames⟩ := ih (y.take rule h) (fs ++ [f])
            ⟨fun _ => List.Subset.refl _, fun _ m => Or.inl m⟩
          have taken (k : HomeId) : (y.take rule h).up.at k ⊆ x.up.at k :=
            sameUp ▸ Sched.take_up_subset rule h k y
          refine ⟨fun k => List.Subset.trans (queues k) (taken k), fun g m => ?_⟩
          rcases frames g m with m | ⟨k, m⟩
          · rcases List.mem_append.mp m with m | m
            · exact Or.inl m
            · refine Or.inr ⟨h, ?_⟩
              rw [List.mem_singleton.mp m, ← sameUp]
              exact List.mem_of_mem_head? head
          · exact Or.inr ⟨k, taken k m⟩
        · exact stay

theorem State.fillUpdata_kept (room : Nat) (s : State) : LinesKept s (s.fillUpdata room).1 := by
  obtain ⟨queues, frames⟩ := Sched.fill_subset 9 room s.sched []
  refine LineView.leads_of_fewer queues (fun _ => List.Subset.refl _) fun f m => ?_
  exact Or.inr ((frames f m).resolve_left List.not_mem_nil)

theorem State.moveOnce_kept (s : State) : LinesKept s s.moveOnce := by
  unfold State.moveOnce
  split
  · exact .refl s
  · rename_i rule h y chosen
    have sameUp : y.up = s.cqm.up := Sched.choose_up chosen
    split
    · exact .refl s
    · split
      · have taken (k : HomeId) : (y.take rule h).up.at k ⊆ s.cqm.up.at k := sameUp ▸ Sched.take_up_subset rule h k y
        exact LineView.leads_of_fewer taken
          (fun _ => List.Subset.refl _) fun _ m => Or.inl m
      · exact .of_eq rfl

/-! ## The end of an own burst (R36) -/

/-- A frame returned or dropped leaves everything but the upstream queues as the view shows it. -/
theorem State.returnUp_spec (f : Frame) (s : State) :
    ∃ up, (s.returnUp f).lines = { s.lines with up } ∧
      (s.lines.ClosedEmpty → (∃ h, f.home = some h ∧ (s.lines.homes h).service ≠ .unequipped) →
        LineView.ClosedEmpty { s.lines with up }) := by
  unfold State.returnUp
  dsimp only
  split
  · exact ⟨s.lines.up, by simp, fun C _ => C⟩
  · rename_i kept
    refine ⟨_, rfl, fun C ⟨h, own, equipped⟩ => ?_⟩
    have isOpen : (s.service h).isOpen := by
      simp only [State.returnRefusal, own, Option.getD_some] at kept
      have equipped' : s.service h ≠ .unequipped := equipped
      revert kept equipped'
      cases s.service h <;> simp [Service.isOpen, ignoresRates]
    rw [own]
    refine C.put_up isOpen fun g m => ?_
    rcases List.mem_cons.mp m with rfl | m
    · simpa using own
    · exact C.own h g m

theorem State.returnUps_spec (fs : List Frame) (s : State) :
    ∃ up, (fs.foldr State.returnUp s).lines = { s.lines with up } ∧
      (s.lines.ClosedEmpty → (∀ f ∈ fs, ∃ h, f.home = some h ∧ (s.lines.homes h).service ≠ .unequipped) →
        LineView.ClosedEmpty { s.lines with up }) := by
  induction fs with
  | nil => exact ⟨s.lines.up, rfl, fun C _ => C⟩
  | cons f fs ih =>
    obtain ⟨up, lines, closed⟩ := ih
    obtain ⟨up', lines', closed'⟩ := State.returnUp_spec f (fs.foldr State.returnUp s)
    rw [lines] at lines' closed'
    refine ⟨up', lines', fun C sent => ?_⟩
    exact closed' (closed C fun g m => sent g (List.mem_cons_of_mem f m)) (sent f List.mem_cons_self)

theorem State.foldr_lines {α : Type} (f : α → State → State) (h : ∀ x s, (f x s).lines = s.lines) (l : List α)
    (s : State) : (l.foldr f s).lines = s.lines := by
  induction l with
  | nil => rfl
  | cons x l ih => exact (h x _).trans ih

@[simp] theorem State.returnStn_lines (i : StationId) (f : Frame) (s : State) : (s.returnStn i f).lines = s.lines := by
  unfold State.returnStn
  dsimp only
  split <;> rfl

@[simp] theorem State.returnFlood_lines (f : Frame) (s : State) : (s.returnFlood f).lines = s.lines := by
  unfold State.returnFlood
  dsimp only
  split <;> rfl

/-- The burst in assembly given up. -/
theorem State.dropAssembly_kept (s : State) : LinesKept s { s with cqm := { s.cqm with assembly := none } } :=
  LineView.leads_of_fewer (fun _ => List.Subset.refl _) (fun _ => List.Subset.refl _) fun _ m => nomatch m

theorem State.failBurst_kept (s : State) : LinesKept s s.failBurst := by
  unfold State.failBurst
  split
  · exact .refl s
  · rename_i a burst
    have dropped := s.dropAssembly_kept
    dsimp only
    split
    · rename_i source
      obtain ⟨up, lines, closed⟩ :=
        State.returnUps_spec a.frames { s with cqm := { s.cqm with assembly := none } }
      unfold LinesKept
      rw [lines]
      refine ⟨fun F => (dropped.fitsTest F).of_queues up _ _, fun C => closed (dropped.closedEmpty C) fun f m => ?_⟩
      exact C.sent f ((State.mem_updataFrames _ f).mpr ⟨a.frames, by rw [burst, ← source], m⟩)
    · exact dropped.trans (.of_eq (State.foldr_lines _ (State.returnStn_lines _) _ _))
    · exact dropped.trans (.of_eq (State.foldr_lines _ State.returnFlood_lines _ _))

theorem State.sendBurst_kept (s : State) : LinesKept s s.sendBurst := by
  unfold State.sendBurst
  split
  · exact .refl s
  · rename_i a _
    have dropped := s.dropAssembly_kept
    dsimp only
    split <;> exact dropped.trans (.of_eq rfl)

end Sys2Proof.Machine
end

section
/-! SUPPORT. The test, the start of the station and own calls keep the invariants of the lines. -/

namespace Sys2Proof.Machine

/-! ## The test takes its home (R11, R22, R154) -/

/-- While no test holds the bus and none is in RELEASING, no home is held and no relay closed. -/
theorem LineView.FitsTest.none_held {L : LineView} (F : L.FitsTest) (holds : L.holds = false)
    (releases : L.releases = false) : (∀ h, (L.homes h).service ≠ .testHeld) ∧ L.relay = none := by
  refine ⟨fun h e => by simpa [holds, releases] using (F.held h e).1, ?_⟩
  cases r : L.relay with
  | none => rfl
  | some h => simpa [holds] using (F.relay h r).1

/-- A test that connects: its home torn down and held, the bus held for it, its relay open. -/
def LineView.connected (h : HomeId) (flaps : List Nat) (L : LineView) : LineView :=
  { L.close h .testHeld flaps with holds := true, releases := false, test := some (h, none) }

theorem LineView.leads_connected {L : LineView} (h : HomeId) (holds : L.holds = false) (releases : L.releases = false) :
    L.Leads (L.connected h (L.homes h).flaps) := by
  constructor
  · intro F
    obtain ⟨noneHeld, noRelay⟩ := F.none_held holds releases
    refine ⟨fun k => ?_, fun k e => ⟨Or.inl rfl, ?_⟩, fun k e => by simp [LineView.connected] at e, fun k e => ?_⟩
    · by_cases c : k = h
      · subst c
        simpa [LineView.connected, LineView.close] using HomeView.fits_closed (by simp) (F.fits k).flaps
      · simpa [LineView.connected, LineView.close, LineView.setHome_homes_of_ne _ _ c] using F.fits k
    · by_cases c : k = h
      · subst c; rfl
      · exact absurd (by simpa [LineView.connected, LineView.close, LineView.setHome_homes_of_ne _ _ c] using e) (noneHeld k)
    · exact absurd (noRelay.symm.trans e) (by simp)
  · intro C
    have closed := C.close h (L.homes h).flaps (st := .testHeld) (by simp)
    exact ⟨closed.empty, closed.own, closed.sent⟩

/-- The relay of the held home of a test that holds the bus closes while STORM is not asserted. -/
theorem LineView.leads_close_relay {L : LineView} {h : HomeId} (holds : L.holds = true) (storm : L.storm = false)
    (atTest : (L.homes h).service = .testHeld) (test : L.testHome = some h) : L.Leads { L with relay := some h } :=
  ⟨fun F => ⟨F.fits, F.held, F.admin, fun _ e => Option.some.inj e ▸ ⟨holds, storm, atTest, test⟩⟩,
    fun C => ⟨C.empty, C.own, C.sent⟩⟩

/-- A test whose hold is refused goes into RELEASING with no home held. -/
theorem LineView.leads_refused {L : LineView} (test : Option (HomeId × Option TestOutcome)) (holds : L.holds = false)
    (releases : L.releases = false) : L.Leads { L with relay := none, holds := false, releases := true, test := test } := by
  refine ⟨fun F => ?_, fun C => ⟨C.empty, C.own, C.sent⟩⟩
  obtain ⟨noneHeld, _⟩ := F.none_held holds releases
  exact ⟨F.fits, fun h e => absurd e (noneHeld h), fun h _ => noneHeld h, fun _ e => nomatch e⟩

theorem State.closeRelay_kept {h : HomeId} {s : State} (holds : s.testHolding = true)
    (test : s.lines.testHome = some h) : LinesKept s (s.closeRelay h) := by
  unfold State.closeRelay
  split
  · rename_i taken
    obtain ⟨atTest, storm, _⟩ := taken
    exact LineView.leads_close_relay holds storm atTest test
  · exact s.enterReleasing_kept _ (by simp)

theorem State.connect_kept {s : State} (holds : s.testHolding = false) (releases : s.ten.state ≠ .releasing) :
    LinesKept s s.connect := by
  have releases' : s.lines.releases = false := by simpa [State.lines] using releases
  unfold State.connect
  split
  · exact .refl s
  · rename_i e rest _
    dsimp only
    split
    · unfold LinesKept
      rw [State.enterReleasing_lines]
      exact LineView.leads_refused (some (e.home, some .abortedAdmin)) holds releases'
    · refine LinesKept.trans ?_ (State.closeRelay_kept ?_ ?_)
      · unfold LinesKept
        rw [State.emit_lines, State.hold_lines]
        exact LineView.leads_connected e.home holds releases'
      · rfl
      · rfl

/-! ## The steps of a test (R154, R157) -/

@[simp] theorem State.startStep_lines (st : TestStep) (s : State) : (s.startStep st).lines = s.lines := by
  cases st <;> exact State.updTest_lines _ s fun _ => rfl

theorem State.nextStep_kept (s : State) : LinesKept s s.nextStep := by
  unfold State.nextStep
  split
  · exact .refl s
  · split
    · exact .of_eq (State.startStep_lines ..)
    · exact s.endTest_kept (by split <;> simp)

theorem State.measure_kept {s : State} (connecting : s.ten.state = .connecting) : LinesKept s s.measure := by
  have measuring : LinesKept s { s with ten := { s.ten with state := .measuring } } := by
    refine .of_eq (LineView.ext rfl rfl rfl ?_ ?_ rfl rfl rfl rfl)
    · simp [State.lines, State.testHolding, connecting]
    · simp [State.lines, connecting]
  exact measuring.trans (State.nextStep_kept _)

theorem State.completeStep_kept (st : TestStep) (ms : List Measurement) (s : State) :
    LinesKept s (s.completeStep st ms) := by
  refine LinesKept.trans (.of_eq (State.updTest_lines _ s fun c => ?_)) (State.nextStep_kept _)
  unfold finishStep
  dsimp only
  split <;> rfl

theorem State.takeReading_kept (st : TestStep) (n : Nat) (v i ac : Word) (s : State) :
    LinesKept s (s.takeReading st n v i ac) := by
  unfold State.takeReading
  dsimp only
  split
  · exact .of_eq (State.updTest_lines _ s fun _ => rfl)
  · split
    · exact LinesKept.trans (.of_eq rfl) (State.completeStep_kept _ _ (s.emit _))
    · exact s.completeStep_kept _ _

/-! ## A disable (R13) -/

/-- A home that no relay is closed for goes to ADMIN_DOWN; what the others show is as it was. -/
theorem LineView.FitsTest.close_admin {L : LineView} {h : HomeId} (fits : ∀ k, (L.homes k).Fits)
    (held : ∀ k, k ≠ h → (L.homes k).service = .testHeld → (L.holds = true ∨ L.releases = true) ∧ L.testHome = some k)
    (admin : ∀ k, k ≠ h → L.test = some (k, some .abortedAdmin) → (L.homes k).service ≠ .testHeld)
    (relay : ∀ k, L.relay = some k → k ≠ h ∧
      L.holds = true ∧ L.storm = false ∧ (L.homes k).service = .testHeld ∧ L.testHome = some k) :
    (L.close h .adminDown []).FitsTest := by
  have away (k : HomeId) (c : k ≠ h) : (L.close h .adminDown []).homes k = L.homes k :=
    LineView.setHome_homes_of_ne _ L c
  have down : (L.close h .adminDown []).homes h = .closed .adminDown [] := LineView.setHome_homes_self ..
  refine ⟨fun k => ?_, fun k e => ?_, fun k e => ?_, fun k e => ?_⟩
  · by_cases c : k = h
    · rw [c, down]; exact HomeView.fits_closed (by simp) (by simp)
    · rw [away k c]; exact fits k
  · by_cases c : k = h
    · rw [c, down] at e; cases e
    · rw [away k c] at e; exact held k c e
  · by_cases c : k = h
    · rw [c, down]; simp [HomeView.closed]
    · rw [away k c]; exact admin k c e
  · obtain ⟨c, holds, storm, atTest, test⟩ := relay k e
    exact ⟨holds, storm, by rw [away k c]; exact atTest, test⟩

theorem State.lines_testHome (s : State) : s.lines.testHome = s.ten.currentHome := by
  simp only [LineView.testHome, State.lines, Ten.currentHome, Option.map_map]
  rfl

/-- The test of a home that is disabled ends: homes and queues stand, and no relay is closed for the home. -/
theorem State.abortForAdmin_spec (h : HomeId) (s : State) (F : s.lines.FitsTest) :
    (s.abortForAdmin h).lines = s.lines ∧ s.ten.currentHome ≠ some h ∨
      s.ten.currentHome = some h ∧ (s.abortForAdmin h).lines.homes = s.lines.homes ∧
        (s.abortForAdmin h).lines.relay = none := by
  unfold State.abortForAdmin
  split
  · rename_i current
    refine Or.inr ⟨current, ?_⟩
    have idle : s.testHolding = false → s.lpb.relay = none := by
      intro e
      cases r : s.lpb.relay with
      | none => rfl
      | some k => exact absurd (F.relay k r).1 (by simp [State.lines, e])
    split
    · rename_i releasing
      exact ⟨rfl, idle (by simp [State.testHolding, releasing])⟩
    · unfold State.endTest
      split
      · exact ⟨rfl, rfl⟩
      · rename_i e
        exact ⟨rfl, idle (by simpa using e)⟩
  · rename_i other
    exact Or.inl ⟨rfl, other⟩

/-- The queues and the burst are as they were. -/
theorem State.abortForAdmin_queues (h : HomeId) (s : State) :
    (s.abortForAdmin h).lines.homes = s.lines.homes ∧ (s.abortForAdmin h).lines.up = s.lines.up ∧
      (s.abortForAdmin h).lines.down = s.lines.down ∧ (s.abortForAdmin h).lines.burst = s.lines.burst := by
  unfold State.abortForAdmin
  split
  · split
    · exact ⟨rfl, rfl, rfl, rfl⟩
    · unfold State.endTest
      split <;> exact ⟨rfl, rfl, rfl, rfl⟩
  · exact ⟨rfl, rfl, rfl, rfl⟩

theorem State.disableHome_kept (h : HomeId) (s : State) : LinesKept s (s.disableHome h) := by
  unfold State.disableHome
  split
  · exact .refl s
  · unfold LinesKept
    rw [State.enterAdminDown_lines]
    constructor
    · intro F
      rcases s.abortForAdmin_spec h F with ⟨same, other⟩ | ⟨current, homes, noRelay⟩
      · rw [same]
        refine .close_admin F.fits (fun k _ => F.held k) (fun k _ => F.admin k) fun k e => ⟨fun c => ?_, F.relay k e⟩
        rw [← State.lines_testHome] at other
        exact other (c ▸ (F.relay k e).2.2.2)
      · have single (k : HomeId) (c : k ≠ h) : ((s.abortForAdmin h).lines.homes k).service ≠ .testHeld := by
          rw [homes]
          intro e
          have test := (F.held k e).2
          rw [State.lines_testHome, current] at test
          exact c (Option.some.inj test).symm
        exact .close_admin (homes ▸ F.fits) (fun k c e => absurd e (single k c)) (fun k c _ => single k c)
          fun k e => absurd (noRelay.symm.trans e) (by simp)
    · intro C
      obtain ⟨homes, up, down, burst⟩ := s.abortForAdmin_queues h
      refine LineView.ClosedEmpty.close ⟨?_, ?_, ?_⟩ h [] (by simp)
      · rw [homes, up, down]; exact C.empty
      · rw [up]; exact C.own
      · rw [homes, burst]; exact C.sent

theorem State.enableHome_kept (h : HomeId) (s : State) : LinesKept s (s.enableHome h) := by
  unfold State.enableHome
  split
  · rename_i e; exact State.enterDown_kept fun _ => by simp [e]
  · exact .refl s

/-! ## The end of RELEASING (R12, R163) -/

/-- No home is held by a test. -/
def State.noneHeld (s : State) : Prop := ∀ h, s.service h ≠ .testHeld

theorem State.noneHeld_moveTo {s : State} (free : s.noneHeld) {st : Service} (away : st ≠ .testHeld) (h : HomeId) :
    (s.moveTo st h).noneHeld := by
  intro k
  by_cases c : k = h
  · subst c; simpa using away
  · rw [State.service_moveTo_of_ne st h k s c]; exact free k

theorem State.service_updHome {h k : HomeId} {f : Home → Home} (s : State) (same : ∀ m, (f m).service = m.service) :
    (s.updHome h f).service k = s.service k := by
  by_cases c : k = h
  · subst c; simp [State.service, same]
  · simp [State.service, State.home_updHome_of_ne h k f s c]

theorem State.noneHeld_unquietHome {s : State} (free : s.noneHeld) (g : Group) (h : HomeId) :
    (s.unquietHome g h).noneHeld := by
  have returned {st : Service} (ret : Option Mode) (resume : Bool) (away : st ≠ .testHeld) :
      ((s.updHome h fun x => { x with ret := ret, resume := resume }).moveTo st h).noneHeld := by
    refine State.noneHeld_moveTo (fun k => ?_) away h
    rw [State.service_updHome s (by simp)]
    exact free k
  unfold State.unquietHome
  split
  · exact free
  · split
    · exact returned none true (by simp)
    · exact returned none false (by simp)
    · exact returned none true (by simp)

theorem State.noneHeld_foldl {α : Type} {f : State → α → State} (h : ∀ s x, State.noneHeld s → (f s x).noneHeld)
    (l : List α) {s : State} (free : s.noneHeld) : (l.foldl f s).noneHeld := by
  induction l generalizing s with
  | nil => exact free
  | cons x l ih => exact ih (h s x free)

theorem State.noneHeld_of_lines {s t : State} (free : s.noneHeld) (same : t.lines.homes = s.lines.homes) : t.noneHeld :=
  fun h e => free h ((congrArg HomeView.service (congrFun same h)).symm.trans e)

theorem State.noneHeld_endQuiet (s : State) (g : Group) (free : s.noneHeld) : (s.endQuiet g).noneHeld := by
  unfold State.endQuiet
  split
  · refine State.noneHeld_of_lines (State.noneHeld_foldl (fun t h free => State.noneHeld_unquietHome free g h) homeIds ?_)
      (congrArg LineView.homes (State.wakeGroup_lines g _))
    exact free
  · exact free

theorem State.noneHeld_tbusyFell {s : State} (free : s.noneHeld) : s.tbusyFell.noneHeld := by
  unfold State.tbusyFell
  refine State.noneHeld_foldl State.noneHeld_endQuiet groupIds ?_
  exact free

/-- The home of a test in RELEASING enters TRAINING or SLEEP (R12, R175). -/
theorem State.noneHeld_enterTraining {h : HomeId} {s : State} (free : ∀ k, k ≠ h → s.service k ≠ .testHeld) :
    (s.enterTraining h).noneHeld := by
  have trained : (s.moveTo .training h).noneHeld := by
    intro k
    by_cases c : k = h
    · subst c; simp
    · rw [State.service_moveTo_of_ne _ h k s c]; exact free k c
  have slept : ((s.moveTo .training h).toSleep h).noneHeld := by
    refine State.noneHeld_moveTo (fun k => ?_) (by simp) h
    rw [State.service_updHome _ (by simp)]
    exact trained k
  rcases s.enterTraining_spec h with e | e | e <;> rw [e]
  · exact trained
  · exact slept
  · rcases State.powerRound_spec ((s.moveTo .training h).toSleep h) with e | e <;> rw [e]
    · exact State.noneHeld_of_lines slept rfl
    · refine State.noneHeld_of_lines slept ?_
      unfold State.suspend
      split <;> rfl

theorem State.writeRecord_lines (h : HomeId) (origin : Origin) (outcome : TestOutcome) (split : Bool)
    (meas : List Measurement) (s : State) : (s.writeRecord h origin outcome split meas).lines = s.lines := by
  have room : ∃ log lost, s.ten.makeRoom.1 = { s.ten with log, lost } := by
    unfold Ten.makeRoom
    split
    · exact ⟨s.ten.log, s.ten.lost, rfl⟩
    · split
      · exact ⟨_, s.ten.lost, rfl⟩
      · split
        · exact ⟨s.ten.log, s.ten.lost, rfl⟩
        · exact ⟨_, _, rfl⟩
  obtain ⟨log, lost, e⟩ := room
  unfold State.writeRecord
  simp only [e]
  rfl

theorem State.writeCancelled_lines (h : HomeId) (origin : Origin) (cause : SuspendCause) (meas : List Measurement)
    (s : State) : (s.writeCancelled h origin cause meas).lines = s.lines := by
  unfold State.writeCancelled
  split
  · rfl
  · exact State.writeRecord_lines ..

theorem State.fileTest_lines (c : CurrentTest) (s : State) : (s.fileTest c).lines = s.lines := by
  unfold State.fileTest
  split
  · exact State.writeRecord_lines ..
  · split
    · exact State.writeCancelled_lines ..
    · unfold Ten.requeue
      dsimp only
      split <;> rfl
  · rfl

theorem State.releaseBus_kept (s : State) : LinesKept s s.releaseBus := by
  unfold State.releaseBus
  dsimp only
  split
  · refine LinesKept.trans ?_ (State.tbusyFell_kept _)
    exact .of_eq rfl
  · exact .of_eq rfl

theorem State.noneHeld_releaseBus {s : State} (free : s.noneHeld) : s.releaseBus.noneHeld := by
  unfold State.releaseBus
  dsimp only
  split
  · refine State.noneHeld_tbusyFell ?_
    exact free
  · exact free

/-- The home of a test in RELEASING goes free, and the view without the test fits. -/
theorem State.released_kept {s v : State} (kept : LinesKept s v) (free : s.lines.FitsTest → v.noneHeld) :
    LinesKept s { v with ten := { v.ten with state := .idle, current := none } } := by
  constructor
  · intro F
    have V := kept.fitsTest F
    have none_held := free F
    refine ⟨V.fits, fun h e => absurd e (none_held h), fun h e => (nomatch e), fun h e => ?_⟩
    exact absurd (V.relay h e).2.2.1 (none_held h)
  · intro C
    have V := kept.closedEmpty C
    exact ⟨V.empty, V.own, V.sent⟩

/-! ## The start of the station (R186, R188) -/

theorem startUp_lines (pins : Pins) (k : Kept) (pending : List Instr) :
    (startUp pins k pending).lines = (startState pins k pending).lines := by
  have powered : (startState pins k pending).startPower.lines = (startState pins k pending).lines := by
    unfold State.startPower
    split <;> rfl
  exact powered

/-- A station that starts meets the invariants of the lines. -/
theorem startUp_fits (pins : Pins) (k : Kept) (pending : List Instr) :
    (startUp pins k pending).lines.FitsTest ∧ (startUp pins k pending).lines.ClosedEmpty := by
  rw [startUp_lines]
  have home (h : HomeId) : ∃ st, (startState pins k pending).lines.homes h = .closed st [] ∧
      (st = .down ∨ st = .adminDown ∨ st = .unequipped) := by
    refine ⟨((startState pins k pending).home h).service, ?_, ?_⟩
    · simp [State.lines, State.home, startState, startHome, Home.start, Home.view, HomeView.closed]
    · simp only [State.home, startState, Tab.at_make, startHome]
      split
      · split
        · exact .inr (.inl rfl)
        · exact .inl rfl
      · exact .inr (.inr rfl)
  refine ⟨⟨fun h => ?_, fun h e => ?_, fun h e => (nomatch e), fun h e => (nomatch e)⟩,
    ⟨fun h _ => ?_, fun h f m => ?_, fun f m => (nomatch m)⟩⟩
  · obtain ⟨st, view, which⟩ := home h
    rw [view]
    exact HomeView.fits_closed (by rcases which with e | e | e <;> simp [e]) (by simp)
  · obtain ⟨st, view, which⟩ := home h
    rw [view] at e
    rcases which with c | c | c <;> cases c.symm.trans e
  · simp [State.lines, startState]
  · simp [State.lines, startState] at m

theorem State.softRestart_kept (s t : State) : LinesKept t s.softRestart := by
  obtain ⟨fits, closed⟩ := startUp_fits s.restartTest.pins.reread s.restartTest.kept s.restartTest.pending
  exact ⟨fun _ => fits, fun _ => closed⟩

theorem State.restartIfLeft_kept (left : Bool) (s : State) : LinesKept s (s.restartIfLeft left) := by
  unfold State.restartIfLeft
  split
  · exact s.softRestart_kept s
  · exact .refl s

/-! ## STORM (R19, R22) -/

theorem State.stormRose_kept {s t : State} (same : t.lines = { s.lines with storm := true }) :
    LinesKept s t.stormRose := by
  refine LinesKept.trans (t := { t with lpb := { t.lpb with relay := none } }) ?_ (State.suspend_kept _ _)
  have opened : State.lines { t with lpb := { t.lpb with relay := none } } = { t.lines with relay := none } := rfl
  unfold LinesKept
  rw [opened, same]
  exact LineView.leads_open_relay

/-! ## Own calls (R61, R71, R79) -/

@[simp] theorem State.observeBus_lines (s : State) : s.observeBus.lines = s.lines := rfl

@[simp] theorem State.loseContention_lines (s : State) : s.loseContention.lines = s.lines := by
  obtain ⟨c, q, w, e, _⟩ := s.withdrawContended_spec
  have lost : s.loseContention.lines = s.withdrawContended.lines := rfl
  rw [lost, e]
  rfl

@[simp] theorem State.handlerReport_lines (tag : Word) (station code : Byte) (result : Result) (s : State) :
    (s.handlerReport tag station code result).lines = s.lines := rfl

/-- A burst of another kind than UPDATA in assembly. -/
theorem State.assemble_kept (s t : State) (queues : t.lines = { s.lines with burst := [] }) : LinesKept s t := by
  unfold LinesKept
  rw [queues]
  exact LineView.leads_of_fewer (fun _ => List.Subset.refl _) (fun _ => List.Subset.refl _) fun _ m => (nomatch m)

theorem State.callFlood_kept (s : State) : LinesKept s s.callFlood := s.assemble_kept _ rfl

theorem State.win_kept (k : Contending) (s : State) : LinesKept s (s.win k) := by
  have nothing : LinesKept s s.winNothing := .of_eq s.loseContention_lines
  unfold State.win
  split
  · split
    · exact .of_eq rfl
    · exact nothing
  · split
    · exact .of_eq rfl
    · exact nothing
  · split
    · exact .of_eq rfl
    · exact nothing
  · split
    · exact .of_eq rfl
    · exact nothing
  · split
    · exact .of_eq rfl
    · exact nothing
  · exact .of_eq rfl
  · unfold State.callGateway
    split
    · dsimp only
      split
      · exact State.assemble_kept _ _ rfl
      · exact .of_eq rfl
    · exact State.assemble_kept _ _ rfl

theorem State.actOn_kept (o : CallOutcome) (c : OwnCall) (s : State) : LinesKept s (s.actOn o c) := by
  unfold State.actOn
  split
  · exact s.sendBurst_kept
  · exact s.sendBurst_kept
  · exact s.failBurst_kept
  · exact s.failBurst_kept
  · exact .of_eq rfl
  · unfold State.orderOutcome
    split
    · dsimp only
      split <;> exact .of_eq rfl
    · exact .refl s
  · unfold State.reportOutcome
    split
    · refine LinesKept.trans ?_ (State.restartIfLeft_kept _ _)
      exact .of_eq rfl
    · exact .refl s
  · exact .refl s

theorem State.endCall_kept (o : CallOutcome) (c : OwnCall) (s : State) : LinesKept s (s.endCall o c) := by
  unfold State.endCall
  refine LinesKept.trans ?_ (State.actOn_kept _ _ _)
  exact .of_eq rfl

theorem State.startTransfer_kept (c : OwnCall) (room : Nat) (s : State) : LinesKept s (s.startTransfer c room) := by
  unfold State.startTransfer
  dsimp only
  split
  · exact (s.fillUpdata_kept room).trans (.of_eq rfl)
  · exact s.assemble_kept _ rfl
  · exact .of_eq rfl
  · exact .of_eq rfl
  · exact .refl s

theorem State.claimOut_kept (withdrawn : Bool) (s : State) : LinesKept s (s.claimOut withdrawn) := by
  unfold State.claimOut
  split
  · exact .of_eq rfl
  · split
    · rename_i claiming
      exact State.connect_kept (by simp [State.testHolding, claiming]) (by simp [claiming])
    · exact .refl s

theorem State.quietOut_kept (q : QuietCall) (s : State) : LinesKept s (s.quietOut q) := by
  have heard := s.hearQuiet_kept q.group q.ms
  unfold State.quietOut
  dsimp only
  split
  · exact heard.trans (.of_eq (State.updTest_lines _ _ fun _ => rfl))
  · exact heard

theorem State.wentOut_kept (b : CallBody) (s : State) : LinesKept s (s.wentOut b) := by
  have left : LinesKept s s.leaveCall := .of_eq rfl
  unfold State.wentOut
  dsimp only
  split
  · exact left.trans (State.claimOut_kept _ _)
  · exact left.trans (State.quietOut_kept _ _)
  · exact left.trans (State.sendBurst_kept _)
  · exact left

theorem State.lastWordSent_kept (c : OwnCall) (s : State) : LinesKept s (s.lastWordSent c) := by
  unfold State.lastWordSent
  split
  · exact .of_eq rfl
  · exact s.wentOut_kept _

theorem State.cutOwn_kept (reset : Bool) (s : State) : LinesKept s (s.cutOwn reset) := by
  have left : LinesKept s s.leaveCall := .of_eq rfl
  unfold State.cutOwn
  split
  · unfold State.cutCall
    dsimp only
    split
    · exact .of_eq rfl
    · exact .of_eq rfl
    · exact .of_eq rfl
    · exact left.trans (State.failBurst_kept _)
    · split
      · exact left.trans (State.failBurst_kept _)
      · exact s.endCall_kept _ _
    · split
      · exact left.trans (State.failBurst_kept _)
      · exact s.endCall_kept _ _
    · exact s.endCall_kept _ _
    · exact s.endCall_kept _ _
  · exact .of_eq s.loseContention_lines
  · exact .refl s

end Sys2Proof.Machine
end

section
/-! SUPPORT. Every command keeps the invariants of the lines. -/

namespace Sys2Proof.Machine

/-- A command's answer keeps the invariants of the lines. -/
def OutcomeKept (s : State) : Host.Outcome State Fault Refusal → Prop
  | .next t => LinesKept s t
  | .fault _ | .refused _ => True

/-- A command that ends in the examination and the standing requests. -/
theorem OutcomeKept.settled {s t : State} (h : LinesKept s t) : OutcomeKept s (.next (State.settle s t)) := h.settle s

/-- A command that shows no change in the view. -/
theorem OutcomeKept.unseen {s t : State} (h : t.lines = s.lines) : OutcomeKept s (.next (State.settle s t)) :=
  .settled (.of_eq h)

/-! ## Line ports -/

theorem execLinkStateReport_kept (h : HomeId) (st : LinkState) (s : State) :
    OutcomeKept s (execLinkStateReport h st s) := by
  have recorded : LinesKept s (s.fresh.updHome h fun m => { m with link := st }) :=
    .of_eq (State.updHome_lines_of_view h _ s.fresh fun _ => rfl)
  exact .settled (recorded.trans (State.applyLink_kept h st _))

theorem execRateReport_kept (h : HomeId) (up down : Word) (s : State) : OutcomeKept s (execRateReport h up down s) := by
  unfold execRateReport OutcomeKept
  dsimp only
  split
  · exact .of_eq rfl
  · rename_i hears
    unfold LinesKept
    rw [State.updHome_lines]
    exact LineView.leads_setHome_of_service rfl fun v => ⟨v.ret, v.resume, fun e => absurd e hears, v.learned, v.flaps⟩

theorem execWakeFailure_kept (h : HomeId) (s : State) : OutcomeKept s (execWakeFailure h s) := by
  refine .settled ?_
  split
  · rename_i e
    exact State.wakeFailed_kept (s := s.fresh) (by rw [show s.fresh.service h = _ from e]; simp)
  · split
    · rename_i e
      refine State.enterDown_kept (s := s.fresh) fun F held => ?_
      have up := (F.fits h).resume e
      rw [show (s.fresh.lines.homes h).service = .testHeld from held] at up
      cases up
    · exact .of_eq rfl

theorem execUpstreamFrame_kept (h : HomeId) (bytes : List Byte) (s : State) :
    OutcomeKept s (execUpstreamFrame h bytes s) := by
  refine .settled ?_
  split
  · exact .of_eq rfl
  · exact .of_eq (State.count_lines ..)
  · exact .of_eq (State.count_lines ..)
  · rename_i equipped held admin
    refine State.takeUpstream_kept (s := s.fresh) ?_
    show (s.service h).isOpen
    revert equipped held admin
    cases s.service h <;> simp [Service.isOpen, ignoresRates]

theorem execDownstreamGiveStart_kept (h : HomeId) (ready : Bool) (s : State) :
    OutcomeKept s (execDownstreamGiveStart h ready s) := by
  unfold execDownstreamGiveStart OutcomeKept
  dsimp only
  split
  · rename_i f rest _ queue
    refine LineView.leads_of_fewer (fun _ => List.Subset.refl _) (fun k => ?_) fun _ m => Or.inl m
    by_cases c : k = h
    · subst c; simp [State.lines, queue]
    · simp [State.lines, Tab.at_put_of_ne _ _ _ _ c]
  · exact .of_eq rfl

theorem execDownstreamFrameTaken_kept (h : HomeId) (s : State) : OutcomeKept s (execDownstreamFrameTaken h s) := by
  refine .unseen ?_
  split
  · rfl
  · rw [State.addVolume_lines, State.traffic_lines, State.count_lines]
    rfl

/-! ## Mode requests (R7, R8, R173) -/

/-- A return mode written for a home in QUIET (R7). -/
theorem State.setRet_kept {h : HomeId} {s : State} (m : Mode) (quiet : s.service h = .quiet) :
    LinesKept s (s.updHome h fun x => { x with ret := some m }) := by
  unfold LinesKept
  rw [State.updHome_lines]
  exact LineView.leads_setHome_of_service rfl fun v =>
    ⟨⟨fun _ => quiet, fun _ => rfl⟩, v.resume, v.rates, v.learned, v.flaps⟩

@[simp] theorem State.service_fresh_takeRequest (r : ModeRequest) (h k : HomeId) (s : State) :
    (s.fresh.takeRequest r h).service k = s.service k := rfl

/-- A mode request taken, and what follows it. -/
theorem OutcomeKept.taken (r : ModeRequest) (h : HomeId) {s t : State} (kept : LinesKept (s.fresh.takeRequest r h) t) :
    OutcomeKept s (.next (State.settle s t)) :=
  .settled (LinesKept.trans (.of_eq rfl) kept)

theorem execModeRequestFull_kept (h : HomeId) (s : State) : OutcomeKept s (execModeRequestFull h s) := by
  refine .taken .full h ?_
  split
  · rename_i e
    exact State.moveTo_kept rfl (.inl (by simp [e])) (by simp [e]) (by simp) fun _ => rfl
  · rename_i e
    exact State.setRet_kept .full e
  · exact .refl _

theorem execModeRequestLow_kept (h : HomeId) (s : State) : OutcomeKept s (execModeRequestLow h s) := by
  refine .taken .low h ?_
  split
  · rename_i e
    exact State.moveTo_kept rfl (.inl (by simp [e])) (by simp [e]) (by simp) fun _ => rfl
  · rename_i e
    exact State.setRet_kept .low e
  · exact .refl _

theorem execModeRequestSleep_kept (h : HomeId) (s : State) : OutcomeKept s (execModeRequestSleep h s) := by
  refine .taken .sleep h ?_
  split
  · rename_i e; exact State.toSleep_kept (by simp [e])
  · rename_i e; exact State.toSleep_kept (by simp [e])
  · rename_i e; exact State.toSleep_kept (by simp [e])
  · rename_i e; exact State.setRet_kept .sleep e
  · exact .refl _

theorem execModeRequestWake_kept (h : HomeId) (s : State) : OutcomeKept s (execModeRequestWake h s) := by
  refine .taken .wake h ?_
  split
  · rename_i e
    refine LinesKept.trans (.of_eq (State.count_lines ..)) (State.moveTo_kept rfl (.inl ?_) ?_ (by simp) ?_) <;>
      simp [e, Service.isUp]
  · exact .refl _

theorem execWakeWithdrawRequest_kept (h : HomeId) (s : State) : OutcomeKept s (execWakeWithdrawRequest h s) := by
  refine .taken .withdraw h ?_
  split
  · rename_i e; exact (State.toSleep_kept (by simp [e])).trans (.of_eq rfl)
  · rename_i e; exact (State.toSleep_kept (by simp [e])).trans (.of_eq rfl)
  · exact .refl _

theorem execWakeAbandonRequest_kept (h : HomeId) (s : State) : OutcomeKept s (execWakeAbandonRequest h s) := by
  refine .taken .abandon h ?_
  split
  · rename_i e; exact State.wakeFailed_kept (by simp [e])
  · exact .refl _

/-! ## STORM (R19, R20, R22) -/

theorem execSurge_kept (h : HomeId) (s : State) : OutcomeKept s (execSurge h s) := by
  have held : ((s.fresh.count h fun c => { c with surges := sat32 c.surges 1 }).startHold h).lines =
      { s.lines with storm := true } := by
    have counted := State.count_lines h (fun c => { c with surges := sat32 c.surges 1 }) s.fresh
    exact congrArg (fun L : LineView => { L with storm := true }) counted
  refine .settled ?_
  split
  · exact .of_eq rfl
  · dsimp only
    split
    · rename_i asserted
      unfold LinesKept
      rw [held]
      exact LineView.leads_storm asserted
    · exact State.stormRose_kept held

theorem execStormHoldExpiry_kept (s : State) : OutcomeKept s (execStormHoldExpiry s) := by
  refine .settled ?_
  split
  · rename_i driven
    have asserted : s.lines.storm = true := by
      have driven' : s.stormDriven = true := driven
      simp [State.lines, State.storm, driven']
    dsimp only
    split <;> exact LineView.leads_storm asserted
  · exact .of_eq rfl

theorem execStormRise_kept (s : State) : OutcomeKept s (execStormRise s) := by
  have rises : State.lines { s.fresh with pins := { s.fresh.pins with stormOthers := true } } =
      { s.lines with storm := true } := by
    refine LineView.ext rfl rfl ?_ rfl rfl rfl rfl rfl rfl
    simp [State.lines, State.storm]
  refine .settled ?_
  split
  · rename_i asserted
    unfold LinesKept
    rw [rises]
    exact LineView.leads_storm asserted
  · exact State.stormRose_kept rises

theorem execStormFall_kept (s : State) : OutcomeKept s (execStormFall s) := by
  have falls : LinesKept s { s.fresh with pins := { s.fresh.pins with stormOthers := false } } := by
    cases e : s.storm with
    | true => exact LineView.leads_storm (L := s.lines) e
    | false =>
      refine .of_eq (LineView.ext rfl rfl ?_ rfl rfl rfl rfl rfl rfl)
      have quiet : s.stormDriven = false := by
        unfold State.storm at e
        exact (Bool.or_eq_false_iff.mp e).1
      have level : (s.stormDriven || false) = s.storm := by rw [quiet, e]; rfl
      exact level
  refine .settled ?_
  split
  · exact falls.trans (.of_eq rfl)
  · exact falls

/-! ## The cabinet bus -/

theorem execCbBsyRise_kept (s : State) : OutcomeKept s (execCbBsyRise s) := by
  unfold execCbBsyRise OutcomeKept
  dsimp only
  split <;> exact .of_eq rfl

theorem execContendStart_kept (s : State) : OutcomeKept s (execContendStart s) := by
  unfold execContendStart OutcomeKept
  dsimp only
  split <;> exact .of_eq rfl

theorem execContendMidpoint_kept (d8 : Bool) (s : State) : OutcomeKept s (execContendMidpoint d8 s) := by
  refine .unseen ?_
  split
  · exact State.loseContention_lines _
  · rfl

theorem execContendWindowEnd_kept (ids : Byte) (s : State) : OutcomeKept s (execContendWindowEnd ids s) := by
  refine .settled ?_
  split
  · split
    · exact .of_eq (State.loseContention_lines _)
    · exact .of_eq rfl
    · split
      · exact State.win_kept _ s.fresh
      · exact .of_eq (State.loseContention_lines s.fresh)
    · exact .of_eq rfl
  · exact .of_eq rfl

theorem execCallWord_kept (w : Word) (parity : Bool) (s : State) : OutcomeKept s (execCallWord w parity s) := by
  have taken : (s.fresh.takeCall w).lines = s.lines := by
    unfold State.takeCall
    dsimp only
    split
    · split <;> rfl
    · rfl
  refine .unseen ?_
  split
  · split
    · rfl
    · split
      · rfl
      · exact taken
  · rfl

theorem execAnswerWord_kept (w : Word) (parity : Bool) (s : State) : OutcomeKept s (execAnswerWord w parity s) := by
  refine .settled ?_
  split
  · split
    · split
      · split
        · exact State.startTransfer_kept _ _ s.fresh
        · split <;> exact State.endCall_kept _ _ s.fresh
      · exact State.endCall_kept _ _ s.fresh
    · split <;> exact .of_eq rfl
    · exact .of_eq rfl
  · exact .of_eq rfl

theorem execAnswerWindowExpiry_kept (s : State) : OutcomeKept s (execAnswerWindowExpiry s) := by
  refine .settled ?_
  split
  · exact State.endCall_kept _ _ s.fresh
  · exact .of_eq rfl

theorem execCloseWord_kept (w : Word) (parity : Bool) (s : State) : OutcomeKept s (execCloseWord w parity s) := by
  refine .settled ?_
  split
  · split <;> exact State.endCall_kept _ _ s.fresh
  · split <;> exact .of_eq rfl
  · exact .of_eq rfl

theorem execCloseWindowExpiry_kept (s : State) : OutcomeKept s (execCloseWindowExpiry s) := by
  refine .settled ?_
  split
  · exact State.endCall_kept _ _ s.fresh
  · exact .of_eq rfl

theorem execTransferWordSent_kept (s : State) : OutcomeKept s (execTransferWordSent s) := by
  refine .settled ?_
  split
  · split
    · exact .of_eq rfl
    · dsimp only
      split
      · refine LinesKept.trans ?_ (State.lastWordSent_kept _ _)
        exact .of_eq rfl
      · exact .of_eq rfl
  · exact .of_eq rfl

theorem execTransferWordReceived_kept (w : Word) (parity : Bool) (s : State) :
    OutcomeKept s (execTransferWordReceived w parity s) := by
  refine .settled ?_
  split
  · refine LinesKept.trans (.of_eq ?_) (State.closeIfComplete_kept _)
    rw [State.takeWord_lines]
    rfl
  · exact .of_eq rfl

theorem execBadCloseTimeout_kept (s : State) : OutcomeKept s (execBadCloseTimeout s) := by
  refine .unseen ?_
  split
  · split <;> rfl
  · rfl

theorem execCbBsyFall_kept (s : State) : OutcomeKept s (execCbBsyFall s) := by
  refine .settled ?_
  split
  · exact .of_eq rfl
  · refine LinesKept.trans (LinesKept.trans ?_ (State.endReception_kept _)) ((State.cutOwn_kept false _).trans (.of_eq rfl))
    exact .of_eq rfl

theorem execBusReset_kept (s : State) : OutcomeKept s (execBusReset s) := by
  refine .settled ?_
  split
  · exact .of_eq rfl
  · refine LinesKept.trans ?_ ((State.cutOwn_kept true _).trans (.of_eq rfl))
    exact .of_eq (State.cutReception_lines s.fresh)

theorem execBusWatchdogExpiry_kept (s : State) : OutcomeKept s (execBusWatchdogExpiry s) := by
  unfold execBusWatchdogExpiry OutcomeKept
  dsimp only
  split <;> exact .of_eq rfl

theorem execQuietGap_kept (s : State) : OutcomeKept s (execQuietGap s) := by
  unfold execQuietGap OutcomeKept
  dsimp only
  split <;> exact .of_eq rfl

theorem execSelfCheckStart_kept (s : State) : OutcomeKept s (execSelfCheckStart s) := by
  unfold execSelfCheckStart OutcomeKept
  dsimp only
  split <;> exact .of_eq rfl

@[simp] theorem State.reply_lines (r : Result) (d : ReplyData) (s : State) : (s.reply r d).lines = s.lines := by
  obtain ⟨o, e, _⟩ := s.reply_spec r d
  rw [e]
  rfl

theorem execSelfCheckEnd_kept (readBack : List (Word × Bool)) (s : State) :
    OutcomeKept s (execSelfCheckEnd readBack s) := by
  refine .unseen ?_
  split
  · rw [State.observeBus_lines, State.reply_lines]
    rfl
  · rfl

/-! ## Peers, claims, quiets -/

/-- A CLAIM withdrawn, its test back in WAITING (R151). -/
theorem State.claimGivenUp_lines (r : Option StationId) {s : State} (claiming : s.ten.state = .claiming) :
    State.lines { s.withdrawClaim r with ten := { (s.withdrawClaim r).ten with state := .waiting } } = s.lines := by
  obtain ⟨c, o, w, e⟩ := s.withdrawClaim_spec r
  rw [e]
  exact s.lines_of_apartFromHead .waiting c o w (by rw [claiming]; rfl)

theorem execNoticeHeard_kept (caller : StationId) (n : Notice) (s : State) :
    OutcomeKept s (execNoticeHeard caller n s) := by
  refine .unseen ?_
  split <;> rfl

theorem execClaimHeard_kept (caller : StationId) (h : HomeId) (g : Group) (s : State) :
    OutcomeKept s (execClaimHeard caller h g s) := by
  refine .settled ?_
  split
  · rename_i claiming
    exact .of_eq (State.claimGivenUp_lines (some caller) (s := { s.fresh with
      cbi := { s.fresh.cbi with heard := s.fresh.cbi.heard.erase (.claim caller h g) } }) claiming)
  · split
    · refine LinesKept.trans ?_ (State.endTest_kept _ (by simp))
      exact .of_eq rfl
    · exact .of_eq rfl

theorem execQuietHeard_kept (g : Group) (ms : Word) (s : State) : OutcomeKept s (execQuietHeard g ms s) := by
  refine .settled (LinesKept.trans ?_ (State.hearQuiet_kept _ _ _))
  exact .of_eq rfl

theorem execClaimWithdrawalSettled_kept (s : State) : OutcomeKept s (execClaimWithdrawalSettled s) := by
  refine .settled ?_
  split
  · rename_i w _
    split
    · exact .of_eq rfl
    · dsimp only
      split
      · rename_i anyway
        have waiting : s.ten.state = .waiting := by
          simp only [State.claimsAnyway, Bool.and_eq_true, beq_iff_eq] at anyway
          obtain ⟨⟨⟨-, waiting⟩, -⟩, -⟩ := anyway
          exact waiting
        refine LinesKept.trans ?_ (State.connect_kept ?_ ?_)
        · exact .of_eq rfl
        · simp [State.testHolding, waiting]
        · simp [waiting]
      · split
        · exact .of_eq (State.examine_lines _)
        · exact .of_eq rfl
  · exact .of_eq rfl

theorem execTbusyRise_kept (s : State) : OutcomeKept s (execTbusyRise s) := by
  refine .unseen ?_
  split
  · rename_i claiming
    exact State.claimGivenUp_lines none (s := { s.fresh with pins := { s.fresh.pins with tbusyOthers := true } })
      claiming.2
  · rfl

theorem execTbusyFall_kept (s : State) : OutcomeKept s (execTbusyFall s) := by
  refine .settled ?_
  split
  · refine LinesKept.trans ?_ (State.tbusyFell_kept _)
    exact .of_eq rfl
  · exact .of_eq rfl

/-! ## The round boundary, moves, the gateway -/

theorem State.upsBoundary_lines (s : State) : s.upsBoundary.lines = s.lines := by
  refine LineView.ext ?_ rfl rfl rfl rfl rfl rfl rfl rfl
  funext h
  simp [State.lines, State.home, State.upsBoundary, Home.view]

theorem State.lostRounds_kept (s : State) : LinesKept s s.lostRounds := by
  unfold State.lostRounds
  split
  · exact .of_eq rfl
  · split
    · refine LinesKept.trans ?_ (LinesKept.foldl _ (fun t h => ?_) homeIds _)
      · exact .of_eq rfl
      · unfold LinesKept
        rw [State.freeUp_lines]
        exact LineView.leads_empty_up _ h
    · exact .of_eq rfl

theorem State.roleChange_lines (wasWorking : Bool) (s : State) : (s.roleChange wasWorking).lines = s.lines := by
  unfold State.roleChange
  split
  · rfl
  · split <;> rfl

theorem State.shareBoundary_kept (s : State) : LinesKept s s.shareBoundary := by
  unfold State.shareBoundary
  dsimp only
  split
  · exact .of_eq rfl
  · refine LinesKept.trans ?_ (State.powerRound_kept _)
    exact .of_eq rfl

theorem execRoundBoundary_kept (s : State) : OutcomeKept s (execRoundBoundary s) := by
  have aged : LinesKept s s.fresh.upsBoundary.choose.watches := .of_eq s.fresh.upsBoundary_lines
  have latched (t : State) : LinesKept t (t.roleChange s.working).latch := .of_eq (t.roleChange_lines _)
  have shared := (aged.trans (State.lostRounds_kept _)).trans ((latched _).trans (State.shareBoundary_kept _))
  exact .settled (shared.trans (.of_eq (State.examine_lines _)))

theorem execMove_kept (s : State) : OutcomeKept s (execMove s) := by
  refine .settled ?_
  split
  · exact State.moveOnce_kept s.fresh
  · exact .of_eq rfl

theorem execUplinkStateChange_kept (up : Bool) (s : State) : OutcomeKept s (execUplinkStateChange up s) := by
  have dropped (t : State) : t.dropGiven.lines = t.lines := by
    unfold State.dropGiven
    split <;> rfl
  have cut (t : State) : t.cutGiving.lines = t.lines := by
    unfold State.cutGiving
    split
    · rfl
    · rfl
    · exact dropped t
  refine .unseen ?_
  split
  · exact cut _
  · rfl

theorem execTransmitterStart_kept (s : State) : OutcomeKept s (execTransmitterStart s) := by
  unfold execTransmitterStart OutcomeKept
  dsimp only
  split
  · split
    · split <;> exact .of_eq rfl
    · exact .of_eq rfl
  · exact .of_eq rfl

theorem execUplinkFrameTaken_kept (s : State) : OutcomeKept s (execUplinkFrameTaken s) := by
  refine .settled ?_
  split
  · exact .of_eq rfl
  · unfold State.queueFrameSent State.dropGiven
    split <;> exact .of_eq rfl
  · refine LinesKept.trans ?_ (State.restartIfLeft_kept _ _)
    exact .of_eq rfl

theorem execUplinkFrameReceived_kept (bytes : List Byte) (err : Bool) (s : State) :
    OutcomeKept s (execUplinkFrameReceived bytes err s) := by
  have managed (t : State) : (t.manage bytes).lines = t.lines := by
    unfold State.manage
    split
    · rfl
    · dsimp only
      split
      · rfl
      · split
        · rfl
        · unfold State.offerOrder
          split <;> rfl
  refine .settled ?_
  split
  · exact .of_eq rfl
  · split
    · exact .of_eq rfl
    · dsimp only
      split
      · exact .of_eq (managed _)
      · refine LinesKept.trans ?_ (State.routeFrame_kept _ _)
        exact .of_eq rfl

theorem execAddressAgeTick_kept (s : State) : OutcomeKept s (execAddressAgeTick s) := by
  unfold execAddressAgeTick OutcomeKept
  dsimp only
  split <;> exact .of_eq rfl

theorem execManagementOrderHandoff_kept (s : State) : OutcomeKept s (execManagementOrderHandoff s) := by
  refine .unseen ?_
  split
  · split <;> rfl
  · rfl

theorem execOwnReportPass_kept (s : State) : OutcomeKept s (execOwnReportPass s) := by
  refine .unseen ?_
  split
  · dsimp only
    split <;> rfl
  · rfl

end Sys2Proof.Machine
end

section
/-! SUPPORT. Orders, tests and power lines keep the invariants of the lines; the statement on them. -/

namespace Sys2Proof.Machine

/-! ## Orders -/

/-- An order carried out: what it does past the checks of its form (R182). -/
theorem State.execute_kept {code args : Nat} {homeArg : Bool} {f : Order → State → State} {s : State}
    (carried : ∀ o, LinesKept s.fresh (f o s.fresh)) : OutcomeKept s (.next (State.settle s (s.execute code args homeArg f))) := by
  refine .settled ?_
  unfold State.execute
  dsimp only
  split
  · split
    · exact .of_eq (State.reply_lines _ _ s.fresh)
    · exact LinesKept.trans (.of_eq rfl) (carried _)
  · exact .of_eq rfl

theorem LinesKept.replied {s t : State} (h : LinesKept s t) (r : Result) (d : ReplyData) : LinesKept s (t.reply r d) :=
  h.trans (.of_eq (State.reply_lines r d t))

theorem execOrderStart_kept (s : State) : OutcomeKept s (execOrderStart s) := by
  refine .unseen ?_
  split
  · split <;> rfl
  · rfl

theorem execLineStatus_kept (s : State) : OutcomeKept s (execLineStatus s) := by
  refine State.execute_kept fun o => ?_
  split <;> exact .of_eq (State.reply_lines ..)

theorem execReadCounters_kept (s : State) : OutcomeKept s (execReadCounters s) := by
  refine State.execute_kept fun o => ?_
  split
  · exact .of_eq (State.reply_lines ..)
  · have replied := (LinesKept.refl s.fresh).replied .done (.counters (s.fresh.home (octal (o.arg 0))).ctr)
    dsimp only
    split
    · exact replied.trans (.of_eq (State.updHome_lines_of_view _ _ _ fun _ => rfl))
    · exact replied

theorem execSetTier_kept (s : State) : OutcomeKept s (execSetTier s) :=
  State.execute_kept fun _ => .of_eq (State.reply_lines ..)

theorem execLineAdmin_kept (s : State) : OutcomeKept s (execLineAdmin s) := by
  refine State.execute_kept fun o => ?_
  dsimp only
  split
  · exact .of_eq (State.reply_lines ..)
  · split
    · exact .of_eq (State.reply_lines ..)
    · refine LinesKept.replied ?_ _ _
      split
      · exact State.disableHome_kept _ _
      · exact State.enableHome_kept _ _

theorem execTestLine_kept (s : State) : OutcomeKept s (execTestLine s) := by
  refine State.execute_kept fun o => ?_
  dsimp only
  split
  · exact .of_eq (State.reply_lines ..)
  · split
    · exact .of_eq (State.reply_lines ..)
    · split
      · exact .of_eq (State.reply_lines ..)
      · rename_i t e
        obtain ⟨q, rfl⟩ := Ten.request_spec e
        exact .of_eq (State.reply_lines ..)

theorem State.cancelEntry_lines (e : TestEntry) (s : State) : (s.cancelEntry e).lines = s.lines := by
  have removed (t : State) : (t.removedRecord e).lines = t.lines := by
    unfold State.removedRecord
    split
    · exact State.writeCancelled_lines ..
    · rfl
  unfold State.cancelEntry
  dsimp only
  rw [removed]
  split
  · exact State.withdrawClaim_lines none s
  · rfl

theorem State.cancelCurrent_kept (h : HomeId) (s : State) : LinesKept s (s.cancelCurrent h) := by
  unfold State.cancelCurrent
  split
  · split
    · exact s.endTest_kept (by simp)
    · split
      · exact .of_eq (State.updTest_lines _ s fun _ => rfl)
      · exact .refl s
  · exact .refl s

theorem execCancelTest_kept (s : State) : OutcomeKept s (execCancelTest s) := by
  refine State.execute_kept fun o => ?_
  dsimp only
  refine LinesKept.replied (LinesKept.trans (.of_eq ?_) (State.cancelCurrent_kept _ _)) _ _
  split
  · exact State.cancelEntry_lines ..
  · rfl

theorem execReadResults_kept (s : State) : OutcomeKept s (execReadResults s) :=
  State.execute_kept fun _ => .of_eq (State.reply_lines ..)

theorem execStageVolumeStep_kept (s : State) : OutcomeKept s (execStageVolumeStep s) := by
  refine State.execute_kept fun o => ?_
  dsimp only
  split
  · exact .of_eq (State.reply_lines ..)
  · exact .of_eq (State.reply_lines ..)

theorem execClearVolumeSteps_kept (s : State) : OutcomeKept s (execClearVolumeSteps s) :=
  State.execute_kept fun _ => .of_eq (State.reply_lines ..)

theorem execNewAccountingPeriod_kept (s : State) : OutcomeKept s (execNewAccountingPeriod s) :=
  State.execute_kept fun _ => .of_eq (State.reply_lines ..)

theorem execWriteFilter_kept (s : State) : OutcomeKept s (execWriteFilter s) := by
  refine State.execute_kept fun o => ?_
  dsimp only
  split
  · exact .of_eq (State.reply_lines ..)
  · split
    · exact .of_eq (State.reply_lines ..)
    · split
      · exact .of_eq (State.reply_lines ..)
      · exact .of_eq (State.reply_lines ..)

theorem execFilterEnable_kept (s : State) : OutcomeKept s (execFilterEnable s) := by
  refine State.execute_kept fun o => ?_
  dsimp only
  split
  · exact .of_eq (State.reply_lines ..)
  · exact .of_eq (State.reply_lines ..)

theorem execReadPeers_kept (s : State) : OutcomeKept s (execReadPeers s) :=
  State.execute_kept fun _ => .of_eq (State.reply_lines ..)

theorem execBusSelfCheck_kept (s : State) : OutcomeKept s (execBusSelfCheck s) := by
  refine State.execute_kept fun o => ?_
  split <;> exact .of_eq rfl

theorem execRestart_kept (s : State) : OutcomeKept s (execRestart s) :=
  State.execute_kept fun _ => LinesKept.trans (.of_eq (State.reply_lines .done .restarting s.fresh)) (.of_eq rfl)

theorem execUnknownOrder_kept (s : State) : OutcomeKept s (execUnknownOrder s) :=
  State.execute_kept fun _ => .of_eq (State.reply_lines ..)

theorem execRestartLimitExpiry_kept (s : State) : OutcomeKept s (execRestartLimitExpiry s) := by
  refine .settled ?_
  split
  · exact State.softRestart_kept _ s
  · exact .of_eq rfl

/-! ## Tests -/

theorem execRelaySettleEnd_kept (s : State) : OutcomeKept s (execRelaySettleEnd s) := by
  refine .settled ?_
  split
  · rename_i connecting _
    split
    · exact .of_eq (State.updTest_lines _ s.fresh fun _ => rfl)
    · exact State.measure_kept (s := s.fresh) connecting
  · exact .of_eq rfl

theorem execQuietSettleEnd_kept (s : State) : OutcomeKept s (execQuietSettleEnd s) := by
  refine .settled ?_
  split
  · rename_i connecting _
    exact State.measure_kept (s := s.fresh) connecting
  · exact .of_eq rfl

theorem execStepSettleEnd_kept (s : State) : OutcomeKept s (execStepSettleEnd s) := by
  unfold execStepSettleEnd OutcomeKept
  dsimp only
  split
  · exact .of_eq (State.updTest_lines _ s.fresh fun _ => rfl)
  · exact .of_eq rfl

theorem execHeadReadResponse_kept (v i ac : Word) (ready : Bool) (s : State) :
    OutcomeKept s (execHeadReadResponse v i ac ready s) := by
  refine .settled ?_
  split
  · split
    · exact State.takeReading_kept _ _ _ _ _ s.fresh
    · exact .of_eq rfl
  · exact .of_eq rfl

theorem execHeadReadTimeout_kept (s : State) : OutcomeKept s (execHeadReadTimeout s) := by
  refine .settled ?_
  split
  · exact State.endTest_kept s.fresh (by simp)
  · exact .of_eq rfl

theorem execCrossRise_kept (s : State) : OutcomeKept s (execCrossRise s) := by
  unfold execCrossRise OutcomeKept
  dsimp only
  split
  · exact .of_eq (State.updTest_lines _ s.fresh fun _ => rfl)
  · exact .of_eq rfl

theorem State.capEnd_kept (ms : List Measurement) (s : State) :
    LinesKept s ((s.fresh.emit [.headSource .off]).completeStep .cap ms) := by
  refine LinesKept.trans ?_ (State.completeStep_kept _ _ _)
  exact .of_eq rfl

theorem execCrossFall_kept (s : State) : OutcomeKept s (execCrossFall s) := by
  refine .settled ?_
  split
  · exact State.capEnd_kept _ s
  · exact .of_eq rfl

theorem execCapTimeout_kept (s : State) : OutcomeKept s (execCapTimeout s) := by
  refine .settled ?_
  split
  · exact State.capEnd_kept _ s
  · exact State.capEnd_kept _ s
  · exact .of_eq rfl

theorem execReleaseSettleEnd_kept (s : State) : OutcomeKept s (execReleaseSettleEnd s) := by
  refine .settled ?_
  split
  · rename_i c releasing current
    have held (F : s.lines.FitsTest) (k : HomeId) (e : s.service k = .testHeld) : k = c.home := by
      have test := (F.held k e).2
      rw [State.lines_testHome, Ten.currentHome, current] at test
      exact (Option.some.inj test).symm
    have bus {u : State} (kept : LinesKept s u) (free : s.lines.FitsTest → u.noneHeld) :
        LinesKept s { (u.releaseBus).fileTest c with
          ten := { ((u.releaseBus).fileTest c).ten with state := .idle, current := none } } := by
      have filed := State.fileTest_lines c u.releaseBus
      refine State.released_kept ((kept.trans (State.releaseBus_kept u)).trans (.of_eq filed)) fun F => ?_
      exact State.noneHeld_of_lines (State.noneHeld_releaseBus (free F)) (congrArg LineView.homes filed)
    dsimp only
    split
    · rename_i admin
      refine bus (u := s.fresh) (.of_eq rfl) fun F k e => F.admin k ?_ e
      have home := held F k e
      simp [State.lines, current, CurrentTest.view, admin, home]
    · refine bus ?_ ?_
      · unfold State.releaseHome
        split
        · rename_i atTest
          refine LinesKept.trans ?_ (State.enterTraining_kept (.inr ⟨atTest, ?_⟩))
          · exact .of_eq rfl
          · simp [State.testHolding, releasing]
        · exact .of_eq rfl
      · intro F
        unfold State.releaseHome
        split
        · exact State.noneHeld_enterTraining fun k c e => c (held F k e)
        · rename_i away
          exact fun k e => away (held F k e ▸ e)
  · exact .of_eq rfl

/-! ## Power lines and timers -/

theorem State.enterLow_kept (s : State) : LinesKept s s.enterLow := by
  unfold State.enterLow
  split
  · exact s.suspend_kept _
  · exact .refl s

theorem execMainsOkFall_kept (s : State) : OutcomeKept s (execMainsOkFall s) := by
  refine .settled ?_
  split
  · refine LinesKept.trans ?_ ((State.enterLow_kept _).trans (State.powerRound_kept _))
    exact .of_eq rfl
  · exact .of_eq rfl

theorem execBattLowRise_kept (s : State) : OutcomeKept s (execBattLowRise s) := by
  refine .settled ?_
  split
  · exact .of_eq rfl
  · refine LinesKept.trans ?_ ((State.enterLow_kept _).trans (State.powerRound_kept _))
    exact .of_eq rfl

theorem execMainsOkRise_kept (s : State) : OutcomeKept s (execMainsOkRise s) := by
  refine .unseen ?_
  split <;> rfl

theorem execWakeTimeLimit_kept (h : HomeId) (s : State) : OutcomeKept s (execWakeTimeLimit h s) := by
  refine .unseen ?_
  split <;> rfl

/-! ## Every command, every step -/

theorem exec_kept (c : Instr) (s : State) : OutcomeKept s (exec c s) := by
  cases c with
  | powerOn pins =>
    obtain ⟨fits, closed⟩ := startUp_fits (pinsOf pins s.pins.restarts) (Kept.none pins.uplLink pins.bsy) s.pending
    exact ⟨fun _ => fits, fun _ => closed⟩
  | linkStateReport h st => exact execLinkStateReport_kept h st s
  | rateReport h up down => exact execRateReport_kept h up down s
  | activity h => exact .unseen rfl
  | wakeFailure h => exact execWakeFailure_kept h s
  | upstreamFrame h bytes => exact execUpstreamFrame_kept h bytes s
  | downstreamGiveStart h ready => exact execDownstreamGiveStart_kept h ready s
  | downstreamFrameTaken h => exact execDownstreamFrameTaken_kept h s
  | modeRequestFull h => exact execModeRequestFull_kept h s
  | modeRequestLow h => exact execModeRequestLow_kept h s
  | modeRequestSleep h => exact execModeRequestSleep_kept h s
  | modeRequestWake h => exact execModeRequestWake_kept h s
  | wakeWithdrawRequest h => exact execWakeWithdrawRequest_kept h s
  | wakeAbandonRequest h => exact execWakeAbandonRequest_kept h s
  | surge h => exact execSurge_kept h s
  | stormHoldExpiry => exact execStormHoldExpiry_kept s
  | stormRise => exact execStormRise_kept s
  | stormFall => exact execStormFall_kept s
  | excuseWindowExpiry => exact .of_eq rfl
  | cbBsyRise => exact execCbBsyRise_kept s
  | contendStart => exact execContendStart_kept s
  | contendMidpoint d8 => exact execContendMidpoint_kept d8 s
  | contendWindowEnd ids => exact execContendWindowEnd_kept ids s
  | callWord w parity => exact execCallWord_kept w parity s
  | answerWord w parity => exact execAnswerWord_kept w parity s
  | answerWindowExpiry => exact execAnswerWindowExpiry_kept s
  | transferWordSent => exact execTransferWordSent_kept s
  | transferWordReceived w parity => exact execTransferWordReceived_kept w parity s
  | badCloseTimeout => exact execBadCloseTimeout_kept s
  | closeWord w parity => exact execCloseWord_kept w parity s
  | closeWindowExpiry => exact execCloseWindowExpiry_kept s
  | cbBsyFall => exact execCbBsyFall_kept s
  | noticeHeard caller n => exact execNoticeHeard_kept caller n s
  | claimHeard caller h g => exact execClaimHeard_kept caller h g s
  | quietHeard g ms => exact execQuietHeard_kept g ms s
  | claimWithdrawalSettled => exact execClaimWithdrawalSettled_kept s
  | quietGap => exact execQuietGap_kept s
  | busWatchdogExpiry => exact execBusWatchdogExpiry_kept s
  | busReset => exact execBusReset_kept s
  | selfCheckStart => exact execSelfCheckStart_kept s
  | selfCheckEnd readBack => exact execSelfCheckEnd_kept readBack s
  | roundBoundary => exact execRoundBoundary_kept s
  | creditIntervalEnd => exact .unseen rfl
  | move => exact execMove_kept s
  | uplinkStateChange up => exact execUplinkStateChange_kept up s
  | transmitterStart => exact execTransmitterStart_kept s
  | uplinkFrameTaken => exact execUplinkFrameTaken_kept s
  | uplinkFrameReceived bytes err => exact execUplinkFrameReceived_kept bytes err s
  | addressAgeTick => exact execAddressAgeTick_kept s
  | managementOrderHandoff => exact execManagementOrderHandoff_kept s
  | ownReportPass => exact execOwnReportPass_kept s
  | orderStart => exact execOrderStart_kept s
  | lineStatus => exact execLineStatus_kept s
  | readCounters => exact execReadCounters_kept s
  | setTier => exact execSetTier_kept s
  | lineAdmin => exact execLineAdmin_kept s
  | testLine => exact execTestLine_kept s
  | cancelTest => exact execCancelTest_kept s
  | readResults => exact execReadResults_kept s
  | stageVolumeStep => exact execStageVolumeStep_kept s
  | clearVolumeSteps => exact execClearVolumeSteps_kept s
  | newAccountingPeriod => exact execNewAccountingPeriod_kept s
  | writeFilter => exact execWriteFilter_kept s
  | filterEnable => exact execFilterEnable_kept s
  | readPeers => exact execReadPeers_kept s
  | busSelfCheck => exact execBusSelfCheck_kept s
  | restart => exact execRestart_kept s
  | unknownOrder => exact execUnknownOrder_kept s
  | restartLimitExpiry => exact execRestartLimitExpiry_kept s
  | relaySettleEnd => exact execRelaySettleEnd_kept s
  | quietSettleEnd => exact execQuietSettleEnd_kept s
  | quietEndExpiry g => exact .settled (LinesKept.trans (.of_eq rfl) (State.endQuiet_kept s.fresh g))
  | stepSettleEnd => exact execStepSettleEnd_kept s
  | headReadResponse v i ac ready => exact execHeadReadResponse_kept v i ac ready s
  | headReadTimeout => exact execHeadReadTimeout_kept s
  | crossRise => exact execCrossRise_kept s
  | crossFall => exact execCrossFall_kept s
  | capTimeout => exact execCapTimeout_kept s
  | holdTimeLimit => exact .settled (State.endTest_kept s.fresh (by simp))
  | releaseSettleEnd => exact execReleaseSettleEnd_kept s
  | tbusyRise => exact execTbusyRise_kept s
  | tbusyFall => exact execTbusyFall_kept s
  | mainsOkFall => exact execMainsOkFall_kept s
  | mainsOkRise => exact execMainsOkRise_kept s
  | battLowRise => exact execBattLowRise_kept s
  | battLowFall => exact .unseen rfl
  | wakeTimeLimit h => exact execWakeTimeLimit_kept h s
  | idleTimerExpiry h => exact .unseen rfl

theorem step_kept {s t : State} (h : step s = .next t) : LinesKept s t := by
  unfold step at h
  split at h
  · cases h
    exact .of_eq rfl
  · rename_i c rest _
    have kept := exec_kept c { s with pending := rest }
    rw [h] at kept
    exact kept

/-- Settles O57: every command and the tick lead from a fitting view of the lines to a fitting one. -/
theorem homesFitTheirStates : Obligations.HomesFitTheirStates := by
  refine ⟨fun s t fits h => ?_, fun s t closed h => ?_⟩
  · exact (fitsTest_iff t).mp ((step_kept h).fitsTest ((fitsTest_iff s).mpr fits))
  · exact (closedEmpty_iff t).mp ((step_kept h).closedEmpty ((closedEmpty_iff s).mpr closed))

end Sys2Proof.Machine
end

section
/-! SUPPORT. Line ports: what the entries to service states, link reports, signals, mode requests, frames and surges
write. -/

namespace Sys2Proof.Machine

/-! ## Homes -/

theorem isUp_iff (st : Service) : st.isUp = true ↔ st = .upFull ∨ st = .upLow := by
  cases st <;> simp [Service.isUp]

/-- A home record changed, written out. -/
theorem State.updHome_eq (h : HomeId) (f : Home → Home) (s : State) :
    s.updHome h f = { s with lpb := { s.lpb with homes := s.lpb.homes.put h (f (s.home h)) } } := rfl

theorem State.freeDown_updHome (r : DownDrop) (h : HomeId) (f : Home → Home) (s : State) :
    (s.updHome h f).freeDown r h = { s with
      lpb := { s.lpb with homes := s.lpb.homes.put h { f (s.home h) with
        ctr := countDownDrop r (s.cqm.down.at h).length (f (s.home h)).ctr } }
      cqm := { s.cqm.setFree (s.cqm.free + cellCount (s.cqm.down.at h)) with down := s.cqm.down.put h [] } } := by
  simp only [State.freeDown, State.updHome, Tab.upd, Tab.at_put_self, Tab.put_put]
  rfl

theorem State.enterDown_eq (h : HomeId) (s : State) :
    s.enterDown h = State.moveTo .down h { s with
      lpb := { s.lpb with
        homes := s.lpb.homes.put h { s.home h with
          rateUp := 0, rateDown := 0, learned := [], resume := false, ret := none
          ctr := countDownDrop .lineDown (s.cqm.down.at h).length (s.home h).ctr } }
      cqm := { s.cqm.setFree (s.cqm.free + cellCount (s.cqm.down.at h)) with down := s.cqm.down.put h [] } } :=
  congrArg (State.moveTo .down h) (State.freeDown_updHome ..)

/-- A home record changed and the home torn down, written out (R14, R118). -/
theorem State.teardown_updHome (ru : UpDrop) (rd : DownDrop) (h : HomeId) (f : Home → Home) (s : State) :
    (s.updHome h f).teardown ru rd h = { s with
      lpb := { s.lpb with homes := s.lpb.homes.put h { f (s.home h) with
        learned := []
        ctr := countDownDrop rd (s.cqm.down.at h).length (countUpDrop ru (s.cqm.up.at h).length (f (s.home h)).ctr) } }
      cqm := { (s.cqm.setFree (s.cqm.free + cellCount (s.cqm.up.at h))).setFree
          (s.cqm.free + cellCount (s.cqm.up.at h) + cellCount (s.cqm.down.at h)) with
        up := s.cqm.up.put h [], down := s.cqm.down.put h [] }
      ups := { s.ups with
        homes := s.ups.homes.put h { s.ups.homes.at h with deficit := 0 }
        visitOpen := s.ups.visitOpen && s.ups.drrPos != h } } := by
  simp only [State.teardown, State.freeUp, State.freeDown, State.updHome, Tab.upd, Tab.at_put_self, Tab.put_put]
  rfl

/-- Settles O8: each entry is a record written and the queues freed, then a move. -/
theorem homeStateEntriesWriteTheirFields : Obligations.HomeStateEntriesWriteTheirFields := by
  refine ⟨fun st h s => ?_, State.enterDown_eq, fun h s => ⟨?_, ?_⟩, fun cause h s => ?_⟩
  · simp only [State.moveTo, isUp_iff]
    rfl
  · exact congrArg (State.moveTo .testHeld h) (State.teardown_updHome ..)
  · exact congrArg (State.moveTo .adminDown h) (State.teardown_updHome ..)
  · simp only [State.wakeFailed, State.toSleep, State.count, State.updHome, Tab.upd, Tab.at_put_self, Tab.put_put]
    rfl

end Sys2Proof.Machine
end

section
namespace Sys2Proof.Machine

/-! ## Link reports (R2, R5, R6, R20, R21) -/

/-- The flap list fires with three times within 900 seconds of each other, the last one just entered (R21). -/
theorem flapsTrigger_pushFlap (t : Nat) (old : List Nat) :
    flapsTrigger (pushFlap t old) = true ↔ (pushFlap t old).length = 3 ∧ t - (pushFlap t old).headD 0 ≤ 900 := by
  have grown (l : List Nat) : flapsTrigger (l ++ [t]) = true ↔ (l ++ [t]).length = 3 ∧ t - (l ++ [t]).headD 0 ≤ 900 := by
    rcases l with _ | ⟨a, _ | ⟨b, _ | ⟨c, l⟩⟩⟩ <;> simp [flapsTrigger]
  exact grown _

/-- An unexpected loss: counted, its time pushed, and the flap test asked for when the list fires (R21). -/
theorem State.countLoss_eq (h : HomeId) (s : State) :
    s.countLoss h =
      if flapsTrigger (pushFlap s.seconds (s.home h).flaps) = true ∧ s.cfg.autoTests = true then
        (s.updHome h fun m => { m with flaps := [], ctr := { m.ctr with flaps := sat32 m.ctr.flaps 1 } }).flapRequest h
      else s.updHome h fun m =>
        { m with flaps := pushFlap s.seconds (s.home h).flaps, ctr := { m.ctr with flaps := sat32 m.ctr.flaps 1 } } := by
  unfold State.countLoss
  dsimp only
  simp only [← Bool.and_eq_true]
  cases flapsTrigger (pushFlap s.seconds (s.home h).flaps) && s.cfg.autoTests <;> rfl

/-- A home entering DOWN keeps its drop times (R6). -/
theorem State.flaps_enterDown (h : HomeId) (s : State) : ((s.enterDown h).home h).flaps = (s.home h).flaps := by
  rw [State.enterDown_eq, State.home_moveTo_self]
  simp [State.home]

/-- Settles O10: the report recorded, then one case of `State.applyLink` for each service state and report; a loss by
`State.countLoss_eq`. -/
theorem linkReportsAndLossesMoveHome : Obligations.LinkReportsAndLossesMoveHome := by
  refine ⟨fun h st s => ?_, fun h s => ?_⟩
  · intro seen ends m
    have home : seen.home h = { m with link := st } := by simp [seen, m, State.home]
    have service : seen.service h = m.service := by rw [State.service, home]
    have resume : (seen.home h).resume = m.resume := by rw [home]
    have moved {u : State} (e : seen.applyLink h st = u) : ends u := e ▸ rfl
    unfold State.applyLink at moved
    rw [service, resume] at moved
    refine ⟨?_, ?_, ?_, ?_, ?_, ?_, ?_, ?_, ?_, ?_, ?_, ?_, ?_, ?_, ?_, ?_⟩
    · rintro e rfl
      exact moved (by rw [e])
    · rintro e rfl trains
      exact moved (by rw [e]; simp [State.upFromDown, trains])
    · rintro e rfl stays
      exact moved (by rw [e]; simp [State.upFromDown, stays])
    · rintro e (rfl | rfl) <;> exact moved (by rw [e])
    · rintro e rfl
      exact moved (by rw [e])
    · rintro e (rfl | rfl) <;> exact moved (by rw [e])
    · rintro e rfl
      exact moved (by rw [e])
    · rintro e rfl
      exact moved (by rw [e])
    · rintro e rfl
      exact moved (by rw [e])
    · rintro e (rfl | rfl) <;> exact moved (by rw [e])
    · rintro up rfl
      have cleared : seen.updHome h (fun x => { x with resume := false }) = { seen with
          lpb := { seen.lpb with homes := seen.lpb.homes.put h { m with link := .up, resume := false } } } := by
        rw [State.updHome_eq, home]
      rcases (isUp_iff _).mp up with e | e <;> exact moved (by rw [← cleared, e])
    · rintro up r rfl
      rcases (isUp_iff _).mp up with e | e <;> exact moved (by rw [e, r]; rfl)
    · rintro up r rfl
      rcases (isUp_iff _).mp up with e | e <;> exact moved (by rw [e, r]; rfl)
    · rintro up r (rfl | rfl) <;> rcases (isUp_iff _).mp up with e | e <;> exact moved (by rw [e, r]; rfl)
    · rintro up rfl
      rcases (isUp_iff _).mp up with e | e <;> exact moved (by rw [e])
    · rintro (e | e | e | e | e) <;> exact moved (by rw [e])
  · intro d now old l counted fires
    have expected : s.lossExpected = true ↔ s.storm = true ∨ s.lpb.excuseEnd.isSome = true := by
      simp [State.lossExpected]
    have times : pushFlap d.seconds (d.home h).flaps = l := by
      rw [State.flaps_enterDown]
      rfl
    have fired : (flapsTrigger l = true ∧ d.cfg.autoTests = true) ↔ fires := by
      have pushed := flapsTrigger_pushFlap now old
      change flapsTrigger l = true ↔ l.length = 3 ∧ now - l.headD 0 ≤ 900 at pushed
      rw [pushed, and_assoc]
      rfl
    have loss (calm : s.storm = false) (past : s.lpb.excuseEnd = none) : s.linkLoss h = d.countLoss h := by
      unfold State.linkLoss
      rw [if_neg (by simp [expected, calm, past])]
    refine ⟨fun e => ?_, fun calm past e => ?_, fun calm past e => ?_⟩
    · unfold State.linkLoss
      rw [if_pos (expected.mpr e)]
    · rw [loss calm past, State.countLoss_eq, times, if_neg (mt fired.mp e)]
      rfl
    · rw [loss calm past, State.countLoss_eq, times, if_pos (fired.mpr e)]
      rfl

end Sys2Proof.Machine
end

section
namespace Sys2Proof.Machine

/-! ## Signals and mode requests (R2, R7, R8, R173, R176) -/

/-- A home put to SLEEP, written out (R7, R8). -/
theorem State.toSleep_eq (h : HomeId) (s : State) :
    s.toSleep h = State.moveTo .sleep h
      { s with lpb := { s.lpb with homes := s.lpb.homes.put h { s.home h with resume := false, ret := none } } } := rfl

/-- On mains, with no quiet running for its group, a home is sent WAKE at once (R179). -/
theorem State.wakesAtOnce_iff (s : State) (h : HomeId) :
    s.wakesAtOnce h = true ↔ s.power = .mains ∧ s.ten.quietEnds.at (s.home h).group = none := by
  simp [State.wakesAtOnce, State.quietRunning]

/-- A rate report is ignored in three states, and writes both rates in the others (R2). -/
theorem execRateReport_eq (h : HomeId) (up down : Word) (s : State) :
    exec (.rateReport h up down) s = .next (
      if ignoresRates (s.service h) then s.fresh
      else { s with
        out := []
        lpb := { s.lpb with
          homes := s.lpb.homes.put h { s.home h with rateUp := up.toNat, rateDown := down.toNat } } }) := rfl

/-- A wake cause queues a home in SLEEP that is not queued, or sends it WAKE (R176, R179). -/
theorem State.wakeCause_of_sleep {h : HomeId} {s : State} (asleep : s.service h = .sleep) (new : h ∉ s.bhu.wakeQ) :
    s.wakeCause h = if s.wakesAtOnce h then { s with bhu := { s.bhu with requests := s.bhu.requests ++ [(.wake, h)] } }
      else { s with bhu := { s.bhu with wakeQ := s.bhu.wakeQ ++ [h] } } := by
  unfold State.wakeCause
  rw [if_pos ⟨asleep, new⟩]
  split <;> rfl

theorem State.wakeCause_of_not {h : HomeId} {s : State} (not : s.service h ≠ .sleep ∨ h ∈ s.bhu.wakeQ) :
    s.wakeCause h = s := by
  unfold State.wakeCause
  rw [if_neg fun ⟨asleep, new⟩ => not.elim (· asleep) new]

/-- A home withdrawn goes to SLEEP, then is sent WAKE or takes its place at the head of the wake queue (R173). -/
theorem State.wakeHead_eq (h : HomeId) (s : State) :
    s.wakeHead h =
      if s.power = .mains ∧ s.ten.quietEnds.at (s.home h).group = none then
        { s with bhu := { s.bhu with requests := s.bhu.requests ++ [(.wake, h)] } }
      else { s with bhu := s.bhu.joinHead h } := by
  unfold State.wakeHead
  simp only [State.wakesAtOnce_iff]
  split <;> rfl

/-- Settles O11: for each signal and request, the cases of the home's service state. -/
theorem homeSignalsAndModeRequestsByState : Obligations.HomeSignalsAndModeRequestsByState := by
  refine ⟨⟨fun h up down s => ?_, fun h s => ?_, fun h s => ?_⟩, fun h s => ?_, fun h s => ?_⟩
  · refine ⟨fun ignored => ?_, fun equipped enabled free => ?_⟩
    · rw [execRateReport_eq, if_pos ((ignoresRates_iff _).mpr (by tauto))]
      rfl
    · rw [execRateReport_eq, if_neg (mt (ignoresRates_iff _).mp (by tauto))]
  · intro f taken
    have failed : exec (.wakeFailure h) s = .next (State.settle s (
        if s.service h = .waking then f.wakeFailed .failure h
        else if (s.home h).resume then f.enterDown h else f)) := rfl
    have abandoned : exec (.wakeAbandonRequest h) s = .next (State.settle s (match s.service h with
        | .waking => taken.wakeFailed .timeLimit h
        | _ => taken)) := rfl
    refine ⟨fun e => ⟨?_, ?_⟩, fun e r => ?_, fun e r => ?_, fun e => ?_⟩
    · rw [failed, if_pos e]
    · rw [abandoned, e]
    · rw [failed, if_neg e, if_pos r]
    · rw [failed, if_neg e, if_neg (by simp [r])]
    · rw [abandoned]
      split
      · exact absurd ‹_› e
      · rfl
  · intro quiet
    have caused : exec (.activity h) s = .next (State.settle s (s.fresh.wakeCause h)) := rfl
    have atOnce : s.fresh.wakesAtOnce h = true ↔ s.power = .mains ∧ ¬quiet := by
      rw [State.wakesAtOnce_iff]
      show s.power = .mains ∧ s.ten.quietEnds.at (s.home h).group = none ↔ _
      simp [quiet]
    refine ⟨fun asleep new mains loud => ?_, fun asleep new waits => ?_, fun not => ?_⟩
    · rw [caused, State.wakeCause_of_sleep (s := s.fresh) asleep new, if_pos (atOnce.mpr ⟨mains, loud⟩)]
      rfl
    · rw [caused, State.wakeCause_of_sleep (s := s.fresh) asleep new, if_neg (mt atOnce.mp (by tauto))]
      rfl
    · rw [caused, State.wakeCause_of_not (s := s.fresh) not]
      rfl
  · intro m f put
    refine ⟨?_, ?_, ?_, ?_⟩
    · have taken : exec (.modeRequestFull h) s = .next (State.settle s (match m.service with
          | .upLow => (f .full).moveTo .upFull h
          | .quiet => put { m with ret := some .full } (f .full)
          | _ => f .full)) := rfl
      rw [taken]
      cases m.service <;> rfl
    · have taken : exec (.modeRequestLow h) s = .next (State.settle s (match m.service with
          | .upFull => (f .low).moveTo .upLow h
          | .quiet => put { m with ret := some .low } (f .low)
          | _ => f .low)) := rfl
      rw [taken]
      cases m.service <;> rfl
    · have taken : exec (.modeRequestSleep h) s = .next (State.settle s (match m.service with
          | .upFull | .upLow | .training => (put { m with resume := false, ret := none } (f .sleep)).moveTo .sleep h
          | .quiet => put { m with ret := some .sleep } (f .sleep)
          | _ => f .sleep)) := rfl
      rw [taken]
      cases m.service <;> rfl
    · have taken : exec (.modeRequestWake h) s = .next (State.settle s (match m.service with
          | .sleep => (put { m with ctr := { m.ctr with wakes := sat32 m.ctr.wakes 1 } } (f .wake)).moveTo .waking h
          | _ => f .wake)) := rfl
      rw [taken]
      cases m.service <;> rfl
  · intro f slept q
    have taken : exec (.wakeWithdrawRequest h) s = .next (State.settle s (match s.service h with
        | .waking | .upFull => slept.wakeHead h
        | _ => f)) := rfl
    have group : (slept.home h).group = (s.home h).group := by
      simp only [slept, State.home_moveTo_self]
      simp [State.home]
    have placed : slept.wakeHead h = (
        if s.power = .mains ∧ s.ten.quietEnds.at (s.home h).group = none then
          { slept with bhu := { slept.bhu with requests := s.bhu.requests.erase (.withdraw, h) ++ [(.wake, h)] } }
        else { slept with
          bhu := { slept.bhu with
            wakeQ := q.takeWhile (· ∈ s.bhu.batch) ++ h :: q.dropWhile (· ∈ s.bhu.batch)
            batch := s.bhu.batch ++ [h] } }) := by
      rw [State.wakeHead_eq, group]
      rfl
    rw [taken, ← placed]
    cases s.service h <;> rfl

end Sys2Proof.Machine
end

section
namespace Sys2Proof.Machine

/-! ## Frames (R15, R16, R18, R27, R45, R46) -/

/-- An upstream frame in each service state (R4, R14, R15). -/
theorem execUpstreamFrame_eq (h : HomeId) (bytes : List Byte) (s : State) :
    exec (.upstreamFrame h bytes) s = .next (State.settle s (
      if s.service h = .unequipped then s.fresh
      else if s.service h = .testHeld then s.fresh.count h (countUpDrop .test 1)
      else if s.service h = .adminDown then s.fresh.count h (countUpDrop .admin 1)
      else s.fresh.takeUpstream h bytes)) := by
  show Host.Outcome.next (State.settle s (match s.service h with
    | .unequipped => s.fresh
    | .testHeld => s.fresh.count h (countUpDrop .test 1)
    | .adminDown => s.fresh.count h (countUpDrop .admin 1)
    | _ => s.fresh.takeUpstream h bytes)) = _
  cases s.service h <;> rfl

/-- An upstream frame past its filters is refused for the flush, the free count or the limit, in this order (R27). -/
theorem State.placeUp_eq (h : HomeId) (f : Frame) (s : State) :
    s.placeUp h f =
      if s.cqm.flush = true then s.count h (countUpDrop .gatewayLost 1)
      else if s.cqm.free < 64 then s.count h (countUpDrop .critical 1)
      else if s.cfg.upLimits.at h < cellCount (s.cqm.up.at h) + cellsOf f.length then s.count h (countUpDrop .limit 1)
      else (((s.alloc f.cells).joinUp h f).count h (countUpFrame f.length)).addVolume h f.length := by
  have critical : s.critical = true ↔ s.cqm.free < 64 := decide_eq_true_iff
  unfold State.placeUp State.upRefusal
  simp only [critical]
  by_cases flush : s.cqm.flush = true
  · simp only [if_pos flush]
  · simp only [if_neg flush]
    by_cases short : s.cqm.free < 64
    · simp only [if_pos short]
    · simp only [if_neg short]
      by_cases full : s.cfg.upLimits.at h < cellCount (s.cqm.up.at h) + cellsOf f.length
      · simp only [if_pos full]
      · simp only [if_neg full]

/-- Settles O13: the service state, the length, the class, then the checks of R27. -/
theorem upstreamFramePassesChecks : Obligations.UpstreamFramePassesChecks := by
  intro h bytes s n cells count f heard learned placed
  have taken : f.takeUpstream h bytes =
      if n < 14 ∨ 1536 < n then count (fun c => { c with upLength := sat32 c.upLength 1 }) heard
      else match upstreamClass s.ffu.filters bytes with
      | none => count (fun c => { c with upFilter := sat32 c.upFilter 1 }) heard
      | some cls => learned.placeUp h ⟨some h, cls, false, n, bytes⟩ := rfl
  rw [execUpstreamFrame_eq]
  refine congrArg (fun u => Host.Outcome.next (State.settle s u)) ?_
  by_cases unequipped : s.service h = .unequipped
  · rw [if_pos unequipped, if_pos unequipped]; rfl
  by_cases held : s.service h = .testHeld
  · rw [if_neg unequipped, if_neg unequipped, if_pos held, if_pos held]; rfl
  by_cases disabled : s.service h = .adminDown
  · rw [if_neg unequipped, if_neg unequipped, if_neg held, if_neg held, if_pos disabled, if_pos disabled]; rfl
  rw [if_neg unequipped, if_neg unequipped, if_neg held, if_neg held, if_neg disabled, if_neg disabled]
  refine taken.trans ?_
  by_cases length : n < 14 ∨ 1536 < n
  · rw [if_pos length, if_pos length]
  rw [if_neg length, if_neg length]
  cases upstreamClass s.ffu.filters bytes with
  | none => rfl
  | some cls => exact State.placeUp_eq h _ learned

/-- A filter takes part in the tests of its own direction, or of both (R44). -/
theorem Filter.takesPart_iff (f : Filter) (upward : Bool) :
    f.takesPart upward = true ↔ f.enabled = true ∧ (f.dir = .both ∨ f.dir = (if upward then .up else .down)) := by
  unfold Filter.takesPart
  cases f.dir <;> cases upward <;> simp

/-- A frame matches a filter of its length whose compared and read bytes agree (R45). -/
theorem Filter.matchesFrame_iff (f : Filter) (len : Nat) (bytes : List Byte) (unread : List Nat) :
    f.matchesFrame len bytes unread = true ↔ f.minLen ≤ len ∧
      ∀ p : Fin 64, f.mask.at p = true → p.val < len → p.val ∉ unread → bytes[p.val]? = some (f.value.at p) := by
  have position (p : Fin 64) : f.positionOk len bytes unread p = true ↔
      (f.mask.at p = true → p.val < len → p.val ∉ unread → bytes[p.val]? = some (f.value.at p)) := by
    simp only [Filter.positionOk, Bool.or_eq_true, Bool.not_eq_true', decide_eq_true_eq, List.contains_iff_mem,
      beq_iff_eq]
    by_cases masked : f.mask.at p = true
    · simp only [masked, Bool.true_eq_false, false_or, true_implies, ← not_lt]
      tauto
    · simp [masked]
  simp only [Filter.matchesFrame, Bool.and_eq_true, decide_eq_true_eq, List.all_eq_true, List.mem_finRange, true_implies,
    position]

/-- Settles O14: membership in the match set, the outcome of classing, the cases of learning. -/
theorem filtersClassAndAddressesAreLearned : Obligations.FiltersClassAndAddressesAreLearned := by
  refine ⟨⟨fun fs upward len bytes unread i => ?_, fun fs bytes => ?_⟩, fun a l => ?_⟩
  · simp only [matchSet, List.mem_filter, mem_homeIds, true_and, Bool.and_eq_true, Filter.takesPart_iff,
      Filter.matchesFrame_iff, and_assoc]
  · intro m
    have drops : (m.any fun i => (fs.at i).acts.drop) = true ↔ ∃ i ∈ m, (fs.at i).acts.drop = true := List.any_eq_true
    have expedites : (m.any fun i => (fs.at i).acts.expedite) = true ↔ ∃ i ∈ m, (fs.at i).acts.expedite = true :=
      List.any_eq_true
    have classed : upstreamClass fs bytes = if m.any fun i => (fs.at i).acts.drop then none
        else if m.any fun i => (fs.at i).acts.expedite then some .expedited else some .ordinary := rfl
    rw [classed]
    refine ⟨fun dropped => ?_, fun kept expedited => ?_, fun plain => ?_⟩
    · rw [if_pos (drops.mpr dropped)]
    · rw [if_neg (mt drops.mp ?_), if_pos (expedites.mpr expedited)]
      rintro ⟨i, hi, e⟩
      simp [kept i hi] at e
    · rw [if_neg (mt drops.mp ?_), if_neg (mt expedites.mp ?_)]
      · rintro ⟨i, hi, e⟩
        simp [plain i hi] at e
      · rintro ⟨i, hi, e⟩
        simp [plain i hi] at e
  · unfold learnAddress groupBit
    refine ⟨fun group => if_pos (.inl group), fun known => if_pos (.inr known), fun single new few => ?_,
      fun single new full => ?_⟩
    · rw [if_neg (not_or.mpr ⟨ne_true_of_eq_false single, new⟩), if_neg (by omega)]
    · rw [if_neg (not_or.mpr ⟨ne_true_of_eq_false single, new⟩), if_pos full, List.drop_one]

/-- A frame may be given to a transceiver (R16). -/
theorem State.mayGive_iff (s : State) (h : HomeId) (ready : Bool) :
    s.mayGive h ready = true ↔ ready = true ∧ ((s.home h).service = .upFull ∨ (s.home h).service = .upLow) ∧
      (s.home h).resume = false ∧ (s.home h).link = .up ∧ s.lpb.giving.at h = none := by
  simp [State.mayGive, State.service, isUp_iff, and_assoc]

/-- The head frame is given when it may be; else nothing is (R16). -/
theorem execDownstreamGiveStart_eq (h : HomeId) (ready : Bool) (s : State) :
    exec (.downstreamGiveStart h ready) s = .next (match s.mayGive h ready, s.cqm.down.at h with
      | true, x :: q => { s with
          out := [.downFrame h x.bytes]
          lpb := { s.lpb with giving := s.lpb.giving.put h (some x) }
          cqm := { s.cqm with down := s.cqm.down.put h q } }
      | _, _ => s.fresh) := rfl

/-- The frame that a transceiver has taken whole is freed, counted, and reported as traffic (R16, R31, R123). -/
theorem execDownstreamFrameTaken_eq (h : HomeId) (s : State) :
    exec (.downstreamFrameTaken h) s = .next (State.settle s (match s.lpb.giving.at h with
      | none => s.fresh
      | some x => State.addVolume h x.length (State.traffic h (State.count h (countDownFrame x.length)
          (State.release x.cells
            { s.fresh with lpb := { s.lpb with giving := s.lpb.giving.put h none } }))))) := rfl

/-- Settles O15: the give with its conditions, and the frame taken whole or not there. -/
theorem downstreamFrameGivenAndFreed : Obligations.DownstreamFrameGivenAndFreed := by
  intro h ready s f m may
  have given := s.mayGive_iff h ready
  refine ⟨fun x q queue ok => ?_, fun not => ?_, fun noFrame => ?_, fun x frame => ?_⟩
  · rw [execDownstreamGiveStart_eq, given.mpr ok, queue]
  · rw [execDownstreamGiveStart_eq]
    rcases not with empty | not
    · rw [empty]
      cases s.mayGive h ready <;> rfl
    · rw [Bool.eq_false_iff.mpr (mt given.mp not)]
      rfl
  · rw [execDownstreamFrameTaken_eq, noFrame]
    rfl
  · rw [execDownstreamFrameTaken_eq, frame]
    rfl

/-! ## Surges and STORM (R19, R20, R22) -/

theorem State.stormDriven_eq_false_iff (s : State) : s.stormDriven = false ↔ s.lpb.stormEnd = none := by
  simp [State.stormDriven]

/-- The storm hold started, or restarted without a new event (R19). -/
theorem State.startHold_eq (h : HomeId) (s : State) :
    s.startHold h = { s with
      lpb := { s.lpb with stormEnd := some (s.now + s.cfg.stormHold * 1000000) }
      orh := if s.lpb.stormEnd = none then s.orh.offer (.stormBegin h) else s.orh } := by
  unfold State.startHold State.stormDriven
  cases s.lpb.stormEnd <;> rfl

/-- The storm hold expires: the line falls unless another station drives it (R19, R20). -/
theorem execStormHoldExpiry_eq (s : State) :
    exec .stormHoldExpiry s = .next (State.settle s (
      if s.lpb.stormEnd = none then s.fresh
      else { s.fresh with
        lpb := { s.lpb with
          stormEnd := none
          excuseEnd := if s.pins.stormOthers = true then s.lpb.excuseEnd
            else some (s.now + s.cfg.stormHold * 1000000) }
        orh := s.orh.offer .stormEnd })) := by
  have expired : exec .stormHoldExpiry s = .next (State.settle s (
      if s.stormDriven then
        if s.pins.stormOthers then
          { s.fresh with lpb := { s.lpb with stormEnd := none }, orh := s.orh.offer .stormEnd }
        else State.stormFell { s.fresh with lpb := { s.lpb with stormEnd := none }, orh := s.orh.offer .stormEnd }
      else s.fresh)) := rfl
  rw [expired]
  cases e : s.lpb.stormEnd with
  | none => rw [(s.stormDriven_eq_false_iff).mpr e]; rfl
  | some x =>
    have driven : s.stormDriven = true := by simp [State.stormDriven, e]
    rw [if_pos driven, if_neg (show some x ≠ none by simp)]
    cases s.pins.stormOthers <;> rfl

/-- The others' drive ends: the line falls with it unless the own hold drives it (R19, R20). -/
theorem execStormFall_eq (s : State) :
    exec .stormFall s = .next (State.settle s { s.fresh with
      pins := { s.pins with stormOthers := false }
      lpb := { s.lpb with
        excuseEnd := if s.pins.stormOthers = true ∧ s.lpb.stormEnd = none
          then some (s.now + s.cfg.stormHold * 1000000) else s.lpb.excuseEnd } }) := by
  have fell : exec .stormFall s = .next (State.settle s (
      if (s.stormDriven || s.pins.stormOthers) && !(s.stormDriven || false) then
        State.stormFell { s.fresh with pins := { s.pins with stormOthers := false } }
      else { s.fresh with pins := { s.pins with stormOthers := false } })) := rfl
  have edge : ((s.stormDriven || s.pins.stormOthers) && !(s.stormDriven || false)) = true ↔
      s.pins.stormOthers = true ∧ s.lpb.stormEnd = none := by
    rw [← s.stormDriven_eq_false_iff]
    cases s.stormDriven <;> simp
  rw [fell]
  simp only [edge]
  split <;> rfl

/-- Settles O16: each edge of STORM by the level before it. -/
theorem surgesDriveStormAndItsEdges : Obligations.SurgesDriveStormAndItsEdges := by
  refine ⟨fun h s => ?_, fun s => ⟨?_, execStormFall_eq s, rfl⟩⟩
  · intro f hold m held
    refine ⟨?_, execStormHoldExpiry_eq s⟩
    have started : (f.count h fun c => { c with surges := sat32 c.surges 1 }).startHold h = held := State.startHold_eq ..
    have surged : exec (.surge h) s = .next (State.settle s (
        if s.service h = .unequipped then f
        else if s.storm then (f.count h fun c => { c with surges := sat32 c.surges 1 }).startHold h
        else ((f.count h fun c => { c with surges := sat32 c.surges 1 }).startHold h).stormRose)) := rfl
    rw [surged, started]
    rfl
  · rfl

end Sys2Proof.Machine
end

section
/-! SUPPORT. Quiets and TBUSY: what silences a group, what ends its quiet, and the edges of the line. -/

namespace Sys2Proof.Machine

/-! ## Quiets (R9, R10, R95, R151, R154, R155) -/

theorem State.tbusy_eq_false_iff (s : State) :
    s.tbusy = false ↔ s.ten.tbusyDrive = false ∧ s.pins.tbusyOthers = false := by
  simp [State.tbusy]

/-- TBUSY rises for the part only if nobody drove it, and withdraws the own CLAIM (R151). -/
theorem execTbusyRise_eq (s : State) :
    exec .tbusyRise s = .next (State.settle s (
      if s.ten.tbusyDrive = false ∧ s.pins.tbusyOthers = false ∧ s.ten.state = .claiming then
        { State.withdrawClaim none { s.fresh with pins := { s.pins with tbusyOthers := true } } with
          ten := { (State.withdrawClaim none { s.fresh with pins := { s.pins with tbusyOthers := true } }).ten with
            state := .waiting } }
      else { s.fresh with pins := { s.pins with tbusyOthers := true } })) := by
  simp only [← and_assoc, ← s.tbusy_eq_false_iff]
  rfl

/-- TBUSY falls for the part only with the last drive (R95, R155). -/
theorem execTbusyFall_eq (s : State) :
    exec .tbusyFall s = .next (State.settle s (
      if s.pins.tbusyOthers = true ∧ s.ten.tbusyDrive = false then
        State.tbusyFell { s.fresh with pins := { s.pins with tbusyOthers := false } }
      else { s.fresh with pins := { s.pins with tbusyOthers := false } })) := by
  have fell : exec .tbusyFall s = .next (State.settle s (
      if (s.ten.tbusyDrive || s.pins.tbusyOthers) && !(s.ten.tbusyDrive || false) then
        State.tbusyFell { s.fresh with pins := { s.pins with tbusyOthers := false } }
      else { s.fresh with pins := { s.pins with tbusyOthers := false } })) := rfl
  have edge : ((s.ten.tbusyDrive || s.pins.tbusyOthers) && !(s.ten.tbusyDrive || false)) = true ↔
      s.pins.tbusyOthers = true ∧ s.ten.tbusyDrive = false := by
    cases s.ten.tbusyDrive <;> simp
  rw [fell]
  simp only [edge]

/-- One home at a QUIET of a group (R9). -/
theorem State.quietHome_eq (g : Group) (h : HomeId) (s : State) :
    s.quietHome g h =
      if (s.home h).group ≠ g then s
      else if (s.home h).service = .upFull then
        (s.updHome h fun m => { m with ret := some .full, resume := false }).moveTo .quiet h
      else if (s.home h).service = .upLow then
        (s.updHome h fun m => { m with ret := some .low, resume := false }).moveTo .quiet h
      else if (s.home h).service = .waking then s.toSleep h
      else s := by
  unfold State.quietHome State.service
  by_cases other : (s.home h).group ≠ g
  · rw [if_pos other, if_pos other]
  · rw [if_neg other, if_neg other]
    cases (s.home h).service <;> rfl

/-- One home at the end of its group's quiet (R10). -/
theorem State.unquietHome_eq (g : Group) (h : HomeId) (s : State) :
    s.unquietHome g h =
      if (s.home h).group ≠ g ∨ (s.home h).service ≠ .quiet then s
      else if (s.home h).ret = some .low then
        (s.updHome h fun m => { m with ret := none, resume := true }).moveTo .upLow h
      else if (s.home h).ret = some .sleep then s.toSleep h
      else (s.updHome h fun m => { m with ret := none, resume := true }).moveTo .upFull h := by
  unfold State.unquietHome State.service
  by_cases other : (s.home h).group ≠ g ∨ (s.home h).service ≠ .quiet
  · rw [if_pos other, if_pos other]
  · rw [if_neg other, if_neg other]
    rcases (s.home h).ret with _ | _ | _ | _ <;> rfl

/-- The end of a group's quiet, if one was running (R10, R155). -/
theorem State.endQuiet_eq (g : Group) (s : State) :
    s.endQuiet g =
      if s.ten.quietEnds.at g = none then s
      else (homeIds.foldl (State.unquietHome g)
        { s with ten := { s.ten with quietEnds := s.ten.quietEnds.put g none } }).wakeGroup g := by
  unfold State.endQuiet State.quietRunning
  cases s.ten.quietEnds.at g <;> rfl

/-- The homes whose wake a QUIET ends go to the head of the wake queue (R8, R176). -/
theorem State.quietGroup_eq (g : Group) (s : State) :
    s.quietGroup g =
      { homeIds.foldl (State.quietHome g) s with
        bhu := { (homeIds.foldl (State.quietHome g) s).bhu with
          wakeQ := (homeIds.filter fun k => decide (s.service k = .waking ∧ (s.home k).group = g)) ++
            (homeIds.foldl (State.quietHome g) s).bhu.wakeQ.filter fun k =>
              decide (k ∉ homeIds.filter fun k => decide (s.service k = .waking ∧ (s.home k).group = g)) } } := by
  have woken : ((s.homesIn .waking).filter fun h => (s.home h).group = g) =
      homeIds.filter fun k => decide (s.service k = .waking ∧ (s.home k).group = g) := by
    rw [State.homesIn, List.filter_filter]
    refine List.filter_congr fun k _ => ?_
    rw [Bool.eq_iff_iff]
    simp [and_comm]
  have queued : (fun h : HomeId => !(homeIds.filter fun k => decide (s.service k = .waking ∧ (s.home k).group = g)).contains h) =
      fun h => decide (h ∉ homeIds.filter fun k => decide (s.service k = .waking ∧ (s.home k).group = g)) := by
    funext h
    rw [Bool.eq_iff_iff]
    simp
  unfold State.quietGroup
  simp only [woken, queued]

/-- The queued homes of a group are sent WAKE on mains (R179). -/
theorem State.wakeGroup_eq (g : Group) (s : State) :
    s.wakeGroup g =
      if s.power = .mains then { s with bhu := { s.bhu with
        requests := s.bhu.requests ++ (s.bhu.wakeQ.filter fun k => decide ((s.home k).group = g)).map fun k => (.wake, k)
        wakeQ := s.bhu.wakeQ.filter fun k => decide ((s.home k).group ≠ g) } }
      else s := by
  have left : (s.bhu.wakeQ.filter fun h => !(s.bhu.wakeQ.filter fun k => decide ((s.home k).group = g)).contains h) =
      s.bhu.wakeQ.filter fun k => decide ((s.home k).group ≠ g) := by
    refine List.filter_congr fun k queued => ?_
    rw [Bool.eq_iff_iff]
    simp [queued]
  unfold State.wakeGroup
  simp only [left]

/-- A QUIET heard takes no time. -/
theorem State.hearQuiet_now (g : Group) (ms : Nat) (s : State) : (s.hearQuiet g ms).now = s.now := by
  have unmoved (t : State) (h : HomeId) : (t.quietHome g h).now = t.now := by
    unfold State.quietHome
    split
    · rfl
    · split <;> rfl
  have folded := State.foldl_same State.now (State.quietHome g) unmoved homeIds (s.setQuietEnd g ms)
  unfold State.hearQuiet State.quietGroup
  generalize homeIds.foldl (State.quietHome g) (s.setQuietEnd g ms) = t at folded ⊢
  exact folded

/-- The own QUIET gone out silences its group, and the test that waits for it settles (R154, R155). -/
theorem State.quietOut_eq (q : QuietCall) (s : State) :
    s.quietOut q =
      if q.withdrawn = false ∧ s.ten.state = .connecting ∧ s.ten.current.map CurrentTest.phase = some .quietCall then
        (s.hearQuiet q.group q.ms).updTest fun c => { c with phase := .quietSettle (s.hearQuiet q.group q.ms).now }
      else s.hearQuiet q.group q.ms := by
  rw [State.hearQuiet_now]
  unfold State.quietOut
  dsimp only
  split
  · rename_i sent connecting waits
    rw [if_pos ⟨sent, connecting, waits⟩]
  · rename_i other
    rw [if_neg fun ⟨sent, connecting, waits⟩ => other sent connecting waits]

/-- What the fall of TBUSY does: the stuck condition over, every running quiet ended in group order (R95, R155). -/
theorem State.tbusyFell_eq (s : State) : s.tbusyFell = groupIds.foldl State.endQuiet { s with
    pvw := { s.pvw with stuckCount := 0, stuck := false }
    orh := if s.pvw.stuck = true then s.orh.offer .tbusyClear else s.orh } := rfl

/-- Settles O32: each clause by the operation's own equation. -/
theorem quietSilencesGroupUntilItsEnd : Obligations.QuietSilencesGroupUntilItsEnd := by
  refine ⟨fun g ms s => ⟨rfl, rfl⟩, fun s => ⟨execTbusyRise_eq s, ?_⟩, fun g h s =>
    ⟨State.quietHome_eq g h s, State.unquietHome_eq g h s, State.endQuiet_eq g s, State.quietGroup_eq g s,
      State.wakeGroup_eq g s, fun q => ?_⟩⟩
  · rw [execTbusyFall_eq, State.tbusyFell_eq]
    rfl
  · intro ended heard
    have hears : heard = s.hearQuiet q.group q.ms := congrArg (State.quietGroup q.group) rfl
    clear_value heard
    rw [State.quietOut_eq, ← hears]
    rfl

end Sys2Proof.Machine
end

section
/-! SUPPORT. Orders: when a command carries an order out, and the reply that ends it. -/

namespace Sys2Proof.Machine

/-! ## Orders under execution (R182) -/

/-- The order that a command of its code carries out: its form is checked first, then its home (R182, R183). -/
theorem State.execute_of_executing {code : Nat} (args : Nat) (homeArg : Bool) (f : Order → State → State) {s : State}
    {o : Order} (runs : s.orh.executing = some o) (known : o.code.toNat = code) :
    s.execute code args homeArg f =
      if o.args.length < args ∨ (homeArg = true ∧ 7 < o.arg 0) then s.fresh.reply .refusedRange .none
      else f o s.fresh := by
  have running : s.running code = some o := by simp [State.running, runs, known]
  unfold State.execute
  rw [running]

/-- A command whose order is not under execution changes nothing (log 5). -/
theorem State.execute_of_other {code : Nat} (args : Nat) (homeArg : Bool) (f : Order → State → State) {s : State}
    (other : s.orh.executing = none ∨ s.orh.executing.any (fun o => o.code.toNat != code) = true) :
    s.execute code args homeArg f = s.fresh := by
  have idle : s.running code = none := by
    unfold State.running
    rcases executing : s.orh.executing with _ | o
    · rfl
    · rw [executing] at other
      have differs : o.code.toNat ≠ code := by simpa using other
      simp [differs]
  unfold State.execute
  rw [idle]

/-- The reply on the state that an order's command starts from (R182). -/
theorem State.reply_fresh (result : Result) (data : ReplyData) {s : State} {o : Order} (runs : s.orh.executing = some o) :
    s.fresh.reply result data = { s.fresh with orh := { s.orh with
      queue := s.orh.queue ++ [⟨o.tag, .reply o.code result data⟩], executing := none } } :=
  State.reply_of_executing result data s.fresh o runs

/-- A reply does not depend on the homes. -/
theorem State.updHome_reply (h : HomeId) (f : Home → Home) (result : Result) (data : ReplyData) (s : State) :
    (s.reply result data).updHome h f = (s.updHome h f).reply result data := by
  have same : (s.updHome h f).orh.executing = s.orh.executing := rfl
  unfold State.reply
  rw [same]
  cases s.orh.executing <;> rfl

/-! ## The orders that read -/

/-- The idle timer of a home in seconds, 30 while none runs (R168). -/
theorem State.idleSeconds_eq (s : State) (h : HomeId) :
    s.idleSeconds h = (s.bhu.lastTraffic.at h).elim 30 fun since => min 30 ((s.now - since) / 1000000) := by
  unfold State.idleSeconds
  cases s.bhu.lastTraffic.at h <;> rfl

/-- The home part of a LINE_STATUS reply (R183). -/
theorem State.homeStatus_eq (s : State) (h : HomeId) :
    s.homeStatus h = {
      home := h, service := s.service h, ret := (s.home h).ret, rateUp := (s.home h).rateUp
      rateDown := (s.home h).rateDown, learned := (s.home h).learned, flaps := (s.home h).flaps
      upCells := cellCount (s.cqm.up.at h), upFrames := (s.cqm.up.at h).length
      downCells := cellCount (s.cqm.down.at h), downFrames := (s.cqm.down.at h).length
      wake := s.ffu.wake.at h, tier := (s.home h).tier, ups := s.ups.homes.at h, outcome := s.bhu.outcome.at h
      wakeTimer := s.wakeTimer h
      idleTimer := (s.bhu.lastTraffic.at h).elim 30 fun since => min 30 ((s.now - since) / 1000000) } := by
  rw [← State.idleSeconds_eq]
  rfl

/-- Each command of an order without its order under execution (R182, log 5). -/
theorem exec_of_other_order {c : Instr} {code : Nat} {s : State}
    (known : (c, code) ∈ [(Instr.lineStatus, 1), (.readCounters, 2), (.setTier, 3), (.lineAdmin, 4), (.testLine, 5),
      (.cancelTest, 6), (.readResults, 7), (.stageVolumeStep, 8), (.clearVolumeSteps, 9), (.newAccountingPeriod, 10),
      (.writeFilter, 11), (.filterEnable, 12), (.readPeers, 13), (.busSelfCheck, 14), (.restart, 15),
      (.unknownOrder, 0)])
    (other : s.orh.executing = none ∨ s.orh.executing.any (fun o => o.code.toNat != code) = true) :
    exec c s = .next (State.settle s s.fresh) := by
  have executes (args : Nat) (homeArg : Bool) (f : Order → State → State) :
      (.next (State.settle s (s.execute code args homeArg f)) : Host.Outcome State Fault Refusal) =
        .next (State.settle s s.fresh) := by
    rw [State.execute_of_other args homeArg f other]
  simp only [List.mem_cons, Prod.mk.injEq, List.not_mem_nil, or_false] at known
  rcases known with ⟨rfl, rfl⟩ | ⟨rfl, rfl⟩ | ⟨rfl, rfl⟩ | ⟨rfl, rfl⟩ | ⟨rfl, rfl⟩ | ⟨rfl, rfl⟩ | ⟨rfl, rfl⟩ |
    ⟨rfl, rfl⟩ | ⟨rfl, rfl⟩ | ⟨rfl, rfl⟩ | ⟨rfl, rfl⟩ | ⟨rfl, rfl⟩ | ⟨rfl, rfl⟩ | ⟨rfl, rfl⟩ | ⟨rfl, rfl⟩ | ⟨rfl, rfl⟩ <;>
  exact executes _ _ _

/-- LINE_STATUS carried out (R183). -/
theorem execLineStatus_eq {s : State} {o : Order} (runs : s.orh.executing = some o) (code : o.code = 1) :
    exec .lineStatus s = .next (State.settle s (
      if o.args.length < 1 ∨ 8 < o.arg 0 then s.fresh.reply .refusedRange .none
      else s.fresh.reply .done (.lineStatus s.fresh.stationStatus ((statusHomes (o.arg 0)).map s.fresh.homeStatus)))) := by
  rw [exec, execLineStatus, State.execute_of_executing (code := 1) 1 false _ runs (congrArg BitVec.toNat code)]
  simp [ite_or]

/-- READ_COUNTERS carried out: the counters of the reply are those before the reset (R23, R183). -/
theorem execReadCounters_eq {s : State} {o : Order} (runs : s.orh.executing = some o) (code : o.code = 2) :
    exec .readCounters s = .next (State.settle s (
      if o.args.length < 2 ∨ 7 < o.arg 0 ∨ 1 < o.arg 1 then s.fresh.reply .refusedRange .none
      else State.reply .done (.counters (s.home (octal (o.arg 0))).ctr) (
        if o.arg 1 = 0 then s.fresh
        else s.fresh.updHome (octal (o.arg 0)) fun m => { m with ctr := HomeCounters.zero }))) := by
  rw [exec, execReadCounters, State.execute_of_executing (code := 2) 2 true _ runs (congrArg BitVec.toNat code)]
  simp only [true_and, ← ite_or, or_assoc]
  split
  · rfl
  next fits =>
    have flag : o.arg 1 = 0 ∨ o.arg 1 = 1 := by omega
    rcases flag with keeps | resets
    · rw [if_pos keeps, keeps]
      rfl
    · rw [if_pos resets, if_neg (by omega), State.updHome_reply]
      rfl

/-- READ_RESULTS carried out (R167). -/
theorem execReadResults_eq {s : State} {o : Order} (runs : s.orh.executing = some o) (code : o.code = 7) :
    exec .readResults s = .next (State.settle s (
      if o.args.length < 1 then s.fresh.reply .refusedRange .none
      else
        State.reply .done (.results ((s.ten.log.filter fun r => !r.read).take (min (o.arg 0) 16))
          ((s.ten.log.filter fun r => !r.read).length -
            ((s.ten.log.filter fun r => !r.read).take (min (o.arg 0) 16)).length))
          { s.fresh with ten := { s.ten with log := s.ten.log.map fun r =>
            if r ∈ (s.ten.log.filter fun r => !r.read).take (min (o.arg 0) 16) then { r with read := true }
            else r } })) := by
  rw [exec, execReadResults, State.execute_of_executing (code := 7) 1 false _ runs (congrArg BitVec.toNat code)]
  simp

/-- READ_PEERS carried out (R96). -/
theorem execReadPeers_eq {s : State} {o : Order} (runs : s.orh.executing = some o) (code : o.code = 13) :
    exec .readPeers s = .next (State.settle s (s.fresh.reply .done (.peers
      { role := s.pvw.role, active := s.pvw.active, lost := s.pvw.active.isNone, stuck := s.pvw.stuck, dup := s.pvw.dup
        latched := s.pvw.latched, peers := s.pvw.peers }))) := by
  rw [exec, execReadPeers, State.execute_of_executing (code := 13) 0 false _ runs (congrArg BitVec.toNat code)]
  simp

/-- UNKNOWN_ORDER carried out (R182). -/
theorem execUnknownOrder_eq {s : State} {o : Order} (runs : s.orh.executing = some o) (code : o.code = 0) :
    exec .unknownOrder s = .next (State.settle s (s.fresh.reply .unknownOrder .none)) := by
  rw [exec, execUnknownOrder, State.execute_of_executing (code := 0) 0 false _ runs (congrArg BitVec.toNat code)]
  simp

/-- Settles O44: the status items by their definitions, each reading order by `State.execute_of_executing`. -/
theorem readingOrdersReply : Obligations.ReadingOrdersReply := by
  refine ⟨fun s => ⟨rfl, fun h => State.homeStatus_eq s h⟩, fun s => ⟨fun c code => exec_of_other_order, fun o runs => ?_⟩⟩
  refine ⟨fun code => ?_, fun code => ?_, fun code => ?_, fun code => ?_, fun code => ?_⟩
  · refine (execLineStatus_eq runs code).trans ?_
    rw [State.reply_fresh _ _ runs, State.reply_fresh _ _ runs]
    rfl
  · refine (execReadCounters_eq runs code).trans ?_
    rw [State.reply_fresh _ _ runs, State.reply_of_executing _ _ _ o (by split <;> exact runs)]
    rfl
  · refine (execReadResults_eq runs code).trans ?_
    rw [State.reply_fresh _ _ runs, State.reply_of_executing _ _ _ o (by exact runs)]
    rfl
  · refine (execReadPeers_eq runs code).trans ?_
    rw [State.reply_fresh _ _ runs]
    rfl
  · refine (execUnknownOrder_eq runs code).trans ?_
    rw [State.reply_fresh _ _ runs]
    rfl

end Sys2Proof.Machine
end

section
/-! SUPPORT. The orders that set: the fields of a filter's words, and what each order writes. -/

namespace Sys2Proof

/-! ## Words of a filter (section 4.10) -/

theorem maskFlag_eq (words : List Word) {i j : Nat} (small : j < 16) :
    maskFlag words (16 * i + j) = (words.getD i 0).getLsbD (15 - j) := by
  have word : (16 * i + j) / 16 = i := by omega
  have place : (16 * i + j) % 16 = j := by omega
  rw [maskFlag, word, place]

/-- A byte's field as the bits it takes. -/
theorem ofNat_field (w : Word) (lo : Nat) : BitVec.ofNat 8 (field w lo 8) = w.extractLsb' lo 8 := by
  refine BitVec.eq_of_toNat_eq ?_
  simp [field, Nat.shiftRight_eq_div_pow]

theorem valueByte_even (words : List Word) (i : Nat) : valueByte words (2 * i) = (words.getD i 0).extractLsb' 8 8 := by
  have word : 2 * i / 2 = i := by omega
  have high : 2 * i % 2 = 0 := by omega
  rw [valueByte, word, if_pos high, ofNat_field]

theorem valueByte_odd (words : List Word) (i : Nat) :
    valueByte words (2 * i + 1) = (words.getD i 0).extractLsb' 0 8 := by
  have word : (2 * i + 1) / 2 = i := by omega
  have low : ¬(2 * i + 1) % 2 = 0 := by omega
  rw [valueByte, word, if_neg low, ofNat_field]

/-- The direction codes of an order (R183). -/
theorem directionOf_eq (n : Nat) :
    directionOf n = if 2 < n then none else some (if n = 0 then .up else if n = 1 then .down else .both) := by
  match n with
  | 0 | 1 | 2 => rfl
  | n + 3 => rw [if_pos (by omega)]; rfl

/-- Where a threshold goes (R124). -/
theorem UpsHome.stage_eq (t : Threshold) (m : UpsHome) :
    m.stage t =
      if m.threshold = none then some { m with threshold := some t }
      else if m.staged.length < 2 then some { m with staged := m.staged ++ [t] }
      else none := by
  unfold UpsHome.stage
  cases m.threshold <;> rfl

end Sys2Proof

namespace Sys2Proof.Machine

/-! ## The execution goes on -/

/-- Events offered leave the order under execution. -/
theorem Orh.executing_offers (es : List Event) (o : Orh) :
    (es.foldl (fun o e => o.offer e) o).executing = o.executing := by
  induction es generalizing o with
  | nil => rfl
  | cons e es ih => exact (ih (o.offer e)).trans (Orh.offer_spec e o).1

/-- An operator's abort of a test leaves the Order Handler as it is. -/
theorem State.abortForAdmin_orh (h : HomeId) (s : State) : (s.abortForAdmin h).orh = s.orh := by
  unfold State.abortForAdmin State.endTest
  split
  · split
    · rfl
    · split <;> rfl
  · rfl

/-- A home disabled or enabled leaves the Order Handler as it is. -/
theorem State.disableHome_orh (h : HomeId) (s : State) : (s.disableHome h).orh = s.orh := by
  unfold State.disableHome
  split
  · rfl
  · exact s.abortForAdmin_orh h

theorem State.enableHome_orh (h : HomeId) (s : State) : (s.enableHome h).orh = s.orh := by
  unfold State.enableHome
  split <;> rfl

/-! ## The orders that set -/

/-- SET_TIER carried out (R127). -/
theorem execSetTier_eq {s : State} {o : Order} (runs : s.orh.executing = some o) (code : o.code = 3) :
    exec .setTier s = .next (State.settle s (
      if o.args.length < 2 ∨ 7 < o.arg 0 then s.fresh.reply .refusedRange .none
      else (s.fresh.updUps (octal (o.arg 0)) fun m => { m with stagedTier := some (clamp 1 15 (o.arg 1)) }).reply
        .done .none)) := by
  rw [exec, execSetTier, State.execute_of_executing (code := 3) 2 true _ runs (congrArg BitVec.toNat code)]
  simp only [true_and]

/-- LINE_ADMIN carried out (R13, R183). -/
theorem execLineAdmin_eq {s : State} {o : Order} (runs : s.orh.executing = some o) (code : o.code = 4) :
    exec .lineAdmin s = .next (State.settle s (
      if o.args.length < 2 ∨ 7 < o.arg 0 ∨ 1 < o.arg 1 then s.fresh.reply .refusedRange .none
      else if s.service (octal (o.arg 0)) = .unequipped then s.fresh.reply .refusedState .none
      else
        State.reply .done (.service ((if o.arg 1 = 0 then s.fresh.disableHome (octal (o.arg 0))
            else s.fresh.enableHome (octal (o.arg 0))).service (octal (o.arg 0))))
          (if o.arg 1 = 0 then s.fresh.disableHome (octal (o.arg 0)) else s.fresh.enableHome (octal (o.arg 0))))) := by
  rw [exec, execLineAdmin, State.execute_of_executing (code := 4) 2 true _ runs (congrArg BitVec.toNat code)]
  simp only [true_and, ← ite_or, or_assoc]
  rfl

/-- A step staged leaves the order under execution. -/
theorem State.stageStep_executing (h : HomeId) (m : UpsHome) (s : State) :
    (s.stageStep h m).orh.executing = s.orh.executing :=
  Orh.executing_offers _ _

/-- A step placed, and the reply with the thresholds that it leaves (R124). -/
def State.replyStaged (h : HomeId) (m : UpsHome) (s : State) : State :=
  (s.stageStep h m).reply .done ((s.stageStep h m).thresholds h)

/-- The reply to a step placed: the thresholds as the comparison leaves them (R124, R125). -/
theorem State.replyStaged_eq (h : HomeId) (m : UpsHome) {s : State} {o : Order} (runs : s.orh.executing = some o) :
    s.fresh.replyStaged h m = { s.fresh.stageStep h m with orh := { (s.fresh.stageStep h m).orh with
      queue := (s.fresh.stageStep h m).orh.queue ++ [⟨o.tag, .reply o.code .done
        (.thresholds (compareThresholds h m).1.threshold (compareThresholds h m).1.staged)⟩]
      executing := none } } := by
  have thresholds : (s.fresh.stageStep h m).thresholds h =
      .thresholds (compareThresholds h m).1.threshold (compareThresholds h m).1.staged := by
    simp [State.thresholds, State.stageStep]
  rw [State.replyStaged, thresholds, State.reply_of_executing _ _ _ o ((State.stageStep_executing h m s.fresh).trans runs)]

/-- STAGE_VOLUME_STEP carried out (R124). -/
theorem execStageVolumeStep_eq {s : State} {o : Order} (runs : s.orh.executing = some o) (code : o.code = 8) :
    exec .stageVolumeStep s = .next (State.settle s (
      if o.args.length < 5 ∨ 7 < o.arg 0 then s.fresh.reply .refusedRange .none
      else if (s.ups.homes.at (octal (o.arg 0))).threshold = none then
        s.fresh.replyStaged (octal (o.arg 0)) { s.ups.homes.at (octal (o.arg 0)) with threshold := some (thresholdOf o) }
      else if (s.ups.homes.at (octal (o.arg 0))).staged.length < 2 then
        s.fresh.replyStaged (octal (o.arg 0)) { s.ups.homes.at (octal (o.arg 0)) with
          staged := (s.ups.homes.at (octal (o.arg 0))).staged ++ [thresholdOf o] }
      else s.fresh.reply .refusedFull (s.thresholds (octal (o.arg 0))))) := by
  rw [exec, execStageVolumeStep, State.execute_of_executing (code := 8) 5 true _ runs (congrArg BitVec.toNat code)]
  simp only [true_and, UpsHome.stage_eq]
  by_cases unset : (s.ups.homes.at (octal (o.arg 0))).threshold = none
  · simp only [State.fresh_ups, unset, if_true]
    rfl
  · simp only [State.fresh_ups, unset, if_false]
    by_cases room : (s.ups.homes.at (octal (o.arg 0))).staged.length < 2
    · simp only [room, if_true]
      rfl
    · simp only [room, if_false]
      rfl

/-- CLEAR_VOLUME_STEPS carried out (R126). -/
theorem execClearVolumeSteps_eq {s : State} {o : Order} (runs : s.orh.executing = some o) (code : o.code = 9) :
    exec .clearVolumeSteps s = .next (State.settle s (
      if o.args.length < 1 ∨ 7 < o.arg 0 then s.fresh.reply .refusedRange .none
      else (s.fresh.updUps (octal (o.arg 0)) fun m => { m with staged := [] }).reply .done .none)) := by
  rw [exec, execClearVolumeSteps, State.execute_of_executing (code := 9) 1 true _ runs (congrArg BitVec.toNat code)]
  simp only [true_and]

/-- NEW_ACCOUNTING_PERIOD carried out (R126). -/
theorem execNewAccountingPeriod_eq {s : State} {o : Order} (runs : s.orh.executing = some o) (code : o.code = 10) :
    exec .newAccountingPeriod s = .next (State.settle s (State.reply .done .none { s.fresh with ups := { s.ups with
      homes := Tab.make fun k =>
        { s.ups.homes.at k with volume := 0, eff := (s.home k).tier, stepFloor := none } } })) := by
  rw [exec, execNewAccountingPeriod, State.execute_of_executing (code := 10) 0 false _ runs (congrArg BitVec.toNat code)]
  simp only [Nat.not_lt_zero, Bool.false_eq_true, false_and, or_false, if_false]
  rfl

/-- WRITE_FILTER carried out (R55, R183). -/
theorem execWriteFilter_eq {s : State} {o : Order} (runs : s.orh.executing = some o) (code : o.code = 11) :
    exec .writeFilter s = .next (State.settle s (
      if o.args.length < 40 ∨ 7 < o.arg 0 ∨ 2 < o.arg 1 ∨ 7 < o.arg 2 then s.fresh.reply .refusedRange .none
      else if (s.ffu.filters.at (octal (o.arg 0))).enabled = true then s.fresh.reply .refusedState .none
      else
        (s.fresh.putFilter (octal (o.arg 0))
          (filterContents o (if o.arg 1 = 0 then .up else if o.arg 1 = 1 then .down else .both))).reply .done
          (.filter (filterContents o (if o.arg 1 = 0 then .up else if o.arg 1 = 1 then .down else .both))))) := by
  rw [exec, execWriteFilter, State.execute_of_executing (code := 11) 40 false _ runs (congrArg BitVec.toNat code)]
  simp only [Bool.false_eq_true, false_and, or_false, directionOf_eq]
  by_cases far : 2 < o.arg 1
  · simp [far]
  · simp only [far, if_false, false_or, ← ite_or]
    rfl

/-- FILTER_ENABLE carried out (R56, R183). -/
theorem execFilterEnable_eq {s : State} {o : Order} (runs : s.orh.executing = some o) (code : o.code = 12) :
    exec .filterEnable s = .next (State.settle s (
      if o.args.length < 2 ∨ 7 < o.arg 0 ∨ 1 < o.arg 1 then s.fresh.reply .refusedRange .none
      else (s.fresh.putFilter (octal (o.arg 0))
        { s.ffu.filters.at (octal (o.arg 0)) with enabled := o.arg 1 == 1 }).reply .done .none)) := by
  rw [exec, execFilterEnable, State.execute_of_executing (code := 12) 2 false _ runs (congrArg BitVec.toNat code)]
  simp only [Bool.false_eq_true, false_and, or_false, ← ite_or]
  rfl

/-- Settles O45: each setting order by `State.execute_of_executing`, its reply by `State.reply_of_executing`. -/
theorem settingOrdersWriteTheirFields : Obligations.SettingOrdersWriteTheirFields := by
  refine ⟨fun words i j small => maskFlag_eq words small, fun words i => ⟨valueByte_even words i, valueByte_odd words i⟩,
    fun s o runs => ⟨fun code => ?_, fun code => ?_, fun code => ?_, fun code => ?_, fun code => ?_, fun code => ?_,
      fun code => ?_⟩⟩
  · refine (execSetTier_eq runs code).trans ?_
    rw [State.reply_fresh _ _ runs, State.reply_of_executing _ _ _ o (by exact runs)]
    rfl
  · refine (execLineAdmin_eq runs code).trans ?_
    have goesOn : (if o.arg 1 = 0 then s.fresh.disableHome (octal (o.arg 0))
        else s.fresh.enableHome (octal (o.arg 0))).orh.executing = some o := by
      split
      · rw [State.disableHome_orh]; exact runs
      · rw [State.enableHome_orh]; exact runs
    rw [State.reply_fresh _ _ runs, State.reply_fresh _ _ runs, State.reply_of_executing _ _ _ o goesOn]
    rfl
  · refine (execStageVolumeStep_eq runs code).trans ?_
    rw [State.reply_fresh _ _ runs, State.reply_fresh _ _ runs, State.replyStaged_eq _ _ runs,
      State.replyStaged_eq _ _ runs]
    rfl
  · refine (execClearVolumeSteps_eq runs code).trans ?_
    rw [State.reply_fresh _ _ runs, State.reply_of_executing _ _ _ o (by exact runs)]
    rfl
  · refine (execNewAccountingPeriod_eq runs code).trans ?_
    rw [State.reply_of_executing _ _ _ o (by exact runs)]
    rfl
  · refine (execWriteFilter_eq runs code).trans ?_
    rw [State.reply_fresh _ _ runs, State.reply_fresh _ _ runs, State.reply_of_executing _ _ _ o (by exact runs)]
    rfl
  · refine (execFilterEnable_eq runs code).trans ?_
    rw [State.reply_fresh _ _ runs, State.reply_of_executing _ _ _ o (by exact runs)]
    rfl

end Sys2Proof.Machine
end

section
/-! SUPPORT. Tests: how one takes the bus and how it is ended or suspended. -/

namespace Sys2Proof.Machine

/-! ## Connecting (R11, R22, R154) -/

theorem holdRefused_iff (st : Service) : holdRefused st = true ↔ st = .unequipped ∨ st = .adminDown := by
  simp [holdRefused]

/-- The relay request of a home held: refused in a storm and while another relay is closed (R22). -/
theorem State.closeRelay_of_held {h : HomeId} {s : State} (held : s.service h = .testHeld) :
    s.closeRelay h =
      if s.storm = false ∧ s.lpb.relay = none then { s with lpb := { s.lpb with relay := some h } }
      else s.enterReleasing none (some .storm) := by
  simp only [State.closeRelay, held, true_and]

/-- The head entry becomes the current test, with TBUSY and the head link driven (R151, R154). -/
def State.takeBus (e : TestEntry) (q : List TestEntry) (s : State) : State :=
  { s with ten := { s.ten with
      state := .connecting, queue := q, current := some (testOf e s.now), tbusyDrive := true, headDriving := true
      holdSince := some s.now } }

/-- The head entry connects: its home is held and the relay is requested, unless the hold is refused (R154). -/
theorem State.connect_cons {s : State} {e : TestEntry} {q : List TestEntry} (queue : s.ten.queue = e :: q) :
    s.connect =
      if s.service e.home = .unequipped ∨ s.service e.home = .adminDown then
        (s.takeBus e q).enterReleasing (some .abortedAdmin) none
      else if s.storm = false ∧ s.lpb.relay = none then { ((s.takeBus e q).hold e.home).emit [.headSource .off] with
        lpb := { (((s.takeBus e q).hold e.home).emit [.headSource .off]).lpb with relay := some e.home } }
      else (((s.takeBus e q).hold e.home).emit [.headSource .off]).enterReleasing none (some .storm) := by
  have connects : s.connect =
      if holdRefused (s.service e.home) then (s.takeBus e q).enterReleasing (some .abortedAdmin) none
      else (((s.takeBus e q).hold e.home).emit [.headSource .off]).closeRelay e.home := by
    rw [State.connect, queue]
    rfl
  have held : (((s.takeBus e q).hold e.home).emit [.headSource .off]).service e.home = .testHeld :=
    State.service_moveTo_self ..
  have storm : (((s.takeBus e q).hold e.home).emit [.headSource .off]).storm = s.storm := rfl
  have relay : (((s.takeBus e q).hold e.home).emit [.headSource .off]).lpb.relay = s.lpb.relay := rfl
  rw [connects, State.closeRelay_of_held held, storm, relay]
  simp only [holdRefused_iff]

theorem State.testHolding_iff (s : State) : s.testHolding = true ↔ s.ten.state = .connecting ∨ s.ten.state = .measuring := by
  simp [State.testHolding]

/-- Only a test in CONNECTING or MEASURING is ended (R163). -/
theorem State.endTest_eq (outcome : TestOutcome) (s : State) :
    s.endTest outcome =
      if s.ten.state = .connecting ∨ s.ten.state = .measuring then s.enterReleasing (some outcome) none else s := by
  simp only [State.endTest, State.testHolding_iff]

/-- Only a test in CONNECTING or MEASURING is suspended (R164). -/
theorem State.suspend_eq (cause : SuspendCause) (s : State) :
    s.suspend cause =
      if s.ten.state = .connecting ∨ s.ten.state = .measuring then s.enterReleasing none (some cause) else s := by
  simp only [State.suspend, State.testHolding_iff]

/-- The current test that an entry becomes, its carried measurements read as the statement reads them. -/
theorem testOf_eq (e : TestEntry) (now : Nat) :
    testOf e now =
      { home := e.home, set := e.set, quiet := e.quiet, origin := e.origin, firstOrigin := e.firstOrigin
        split := decide (e.carried.elim [] Carried.meas ≠ []), phase := .relaySettle now
        meas := e.carried.elim [] Carried.meas, part := [], cut := false, outcome := none
        cause := e.carried.map Carried.cause, cancelled := false } := by
  have carried : (e.carried.map Carried.meas).getD [] = e.carried.elim [] Carried.meas := by
    cases e.carried <;> rfl
  have split : (!(e.carried.elim [] Carried.meas).isEmpty) = decide (e.carried.elim [] Carried.meas ≠ []) := by
    cases e.carried.elim [] Carried.meas <;> rfl
  simp only [testOf, carried, split]

/-- Settles O47: connecting by `State.connect_cons`, the ends of a test by their equations. -/
theorem testTakesAndLeavesTheBus : Obligations.TestTakesAndLeavesTheBus := by
  refine ⟨fun s => ⟨fun queue => ?_, fun e q queue => ?_⟩, fun outcome cause s =>
    ⟨?_, fun k => State.suspend_eq k s, fun o => State.endTest_eq o s, ?_⟩⟩
  · rw [State.connect, queue]
  · rw [State.connect_cons queue, State.takeBus, testOf_eq]
    rfl
  · rfl
  · exact congrArg (fun t => Host.Outcome.next (State.settle s t)) (State.endTest_eq .abortedTimeout s.fresh)

end Sys2Proof.Machine
end

section
/-! SUPPORT. The end of a test: the release of its home and of the bus, and what the test leaves behind. -/

namespace Sys2Proof

/-! ## Steps held (R149, R164) -/

/-- A kind of the step FV. -/
def MeasureKind.ofFv (k : MeasureKind) : Bool := k = .dcvTG || k = .dcvRG || k = .acvTR

/-- A kind of the step IR. -/
def MeasureKind.ofIr (k : MeasureKind) : Bool := k = .resTR || k = .resTG || k = .resRG

/-- A kind of the step CAP. -/
def MeasureKind.ofCap (k : MeasureKind) : Bool := k = .capTR

theorem MeasureKind.step_alone_eq (k : MeasureKind) : k.step.alone = ⟨k.ofFv, k.ofIr, k.ofCap⟩ := by
  cases k <;> rfl

/-- The steps whose measurements are held, by the kinds held. -/
theorem stepsOf_eq (ms : List Measurement) :
    stepsOf ms = ⟨ms.any fun m => m.kind.ofFv, ms.any fun m => m.kind.ofIr, ms.any fun m => m.kind.ofCap⟩ := by
  have folded (a : TestSet) : ms.foldl (fun a m => a.union m.kind.step.alone) a =
      a.union ⟨ms.any fun m => m.kind.ofFv, ms.any fun m => m.kind.ofIr, ms.any fun m => m.kind.ofCap⟩ := by
    induction ms generalizing a with
    | nil => simp [TestSet.union]
    | cons m ms ih =>
      rw [List.foldl_cons, ih]
      simp [TestSet.union, MeasureKind.step_alone_eq, Bool.or_assoc]
  rw [stepsOf, folded]
  simp [TestSet.union]

/-! ## Records (R161, R166) -/

theorem mem_measureKinds (k : MeasureKind) : k ∈ measureKinds := by
  cases k <;> decide

/-- A record holds the first measurement of each kind. -/
theorem mem_inRecordOrder (ms : List Measurement) (m : Measurement) :
    m ∈ inRecordOrder ms ↔ ms.find? (fun x => x.kind == m.kind) = some m := by
  simp only [inRecordOrder, List.mem_filterMap]
  constructor
  · rintro ⟨k, -, found⟩
    have kind : m.kind = k := by simpa using List.find?_some found
    rwa [kind]
  · exact fun found => ⟨m.kind, mem_measureKinds m.kind, found⟩

/-- A record holds its kinds in the order of R166. -/
theorem inRecordOrder_sublist (ms : List Measurement) : ((inRecordOrder ms).map Measurement.kind).Sublist measureKinds := by
  unfold inRecordOrder
  induction measureKinds with
  | nil => exact List.Sublist.refl []
  | cons k ks ih =>
    rcases found : ms.find? (fun m => m.kind == k) with _ | m
    · rw [List.filterMap_cons_none (f := fun k => ms.find? fun m => m.kind == k) found]
      exact ih.cons k
    · have kind : m.kind = k := by simpa using List.find?_some found
      rw [List.filterMap_cons_some (f := fun k => ms.find? fun m => m.kind == k) found, List.map_cons, kind]
      exact ih.cons_cons k

/-- The loop length of a record with a CAP value (R161). -/
theorem loopOf_of_find {cable : Nat} {ms : List Measurement} {m : Measurement}
    (found : ms.find? (fun m => m.kind == .capTR) = some m) :
    loopOf cable ms = if m.overRange = true then none else some (m.value.toNat / cable) := by
  rw [loopOf, found]

theorem loopOf_of_none {cable : Nat} {ms : List Measurement} (without : ∀ m ∈ ms, m.kind ≠ .capTR) :
    loopOf cable ms = none := by
  have absent : ms.find? (fun m => m.kind == .capTR) = none := by simpa using without
  rw [loopOf, absent]

end Sys2Proof

namespace Sys2Proof.Machine

/-! ## A suspended test back in the queue (R149, R164) -/

theorem Ten.requeue_of_none {c : CurrentTest} (k : SuspendCause) {t : Ten} (without : ∀ x ∈ t.queue, x.home ≠ c.home) :
    t.requeue c k = { t with queue := resumedEntry c k :: t.queue } := by
  have absent : t.queue.find? (fun x => x.home == c.home) = none := by simpa using without
  rw [Ten.requeue, absent]

theorem Ten.requeue_of_find {c : CurrentTest} (k : SuspendCause) {t : Ten} {x : TestEntry}
    (found : t.queue.find? (fun x => x.home == c.home) = some x) :
    t.requeue c k = { t with queue := { resumedEntry c k with
      quiet := c.quiet || x.quiet
      set := ⟨(c.set.fv || x.set.fv) && !(c.meas.any fun m => m.kind.ofFv),
              (c.set.ir || x.set.ir) && !(c.meas.any fun m => m.kind.ofIr),
              (c.set.cap || x.set.cap) && !(c.meas.any fun m => m.kind.ofCap)⟩ } ::
        (t.queue.filter fun y => decide (y.home ≠ c.home)) } := by
  have others : t.queue.filter (fun y => y.home != c.home) = t.queue.filter fun y => decide (y.home ≠ c.home) := by
    refine List.filter_congr fun y _ => ?_
    rw [Bool.eq_iff_iff]
    simp
  rw [Ten.requeue, found]
  simp only [TestEntry.merge, TestEntry.carriedSteps, resumedEntry, Option.map_some, Option.getD_some, stepsOf_eq, others]
  rfl

/-! ## The release (R12, R13, R163) -/

/-- The test of a home that the operator disables (R13). -/
theorem State.abortForAdmin_eq (h : HomeId) (s : State) :
    s.abortForAdmin h =
      if s.ten.current.map CurrentTest.home ≠ some h then s
      else if s.ten.state = .releasing then s.updTest fun c => { c with outcome := some .abortedAdmin }
      else if s.ten.state = .connecting ∨ s.ten.state = .measuring then s.enterReleasing (some .abortedAdmin) none
      else s := by
  rw [State.abortForAdmin, State.endTest_eq, ite_not]
  rfl

/-- TBUSY falls with the own drive only when nobody else drives it (R95, R163). -/
theorem State.releaseBus_eq (s : State) :
    s.releaseBus =
      if s.ten.tbusyDrive = true ∧ s.pins.tbusyOthers = false then
        State.tbusyFell { s with ten := { s.ten with tbusyDrive := false, headDriving := false } }
      else { s with ten := { s.ten with tbusyDrive := false, headDriving := false } } := by
  have edge : (s.tbusy && !(false || s.pins.tbusyOthers)) = true ↔
      s.ten.tbusyDrive = true ∧ s.pins.tbusyOthers = false := by
    unfold State.tbusy
    cases s.pins.tbusyOthers <;> simp
  simp only [← edge]
  rfl

/-- What a test leaves behind (R163 to R165). -/
theorem State.fileTest_of_outcome {c : CurrentTest} {o : TestOutcome} (outcome : c.outcome = some o) (s : State) :
    s.fileTest c = s.writeRecord c.home c.firstOrigin o c.split c.meas := by
  rw [State.fileTest, outcome]

theorem State.fileTest_of_cause {c : CurrentTest} {k : SuspendCause} (unended : c.outcome = none)
    (cause : c.cause = some k) (s : State) :
    s.fileTest c =
      if c.cancelled = false then { s with ten := s.ten.requeue c k }
      else if c.meas = [] then s
      else s.writeRecord c.home c.firstOrigin (if k = .storm then .abortedStorm else .abortedCancel) true c.meas := by
  have recorded : k.cancelOutcome = if k = .storm then .abortedStorm else .abortedCancel := by cases k <;> rfl
  rw [State.fileTest, unended, cause]
  simp only [State.writeCancelled, recorded, List.isEmpty_iff]
  cases c.cancelled <;> rfl

theorem State.fileTest_of_neither {c : CurrentTest} (outcome : c.outcome = none) (cause : c.cause = none) (s : State) :
    s.fileTest c = s := by
  rw [State.fileTest, outcome, cause]

/-- The home of a test released, unless an admin release has taken it (R12, R163). -/
def State.freeHome (c : CurrentTest) (s : State) : State :=
  if c.outcome = some .abortedAdmin ∨ s.service c.home ≠ .testHeld then s
  else (s.emit [.restartStrobe c.home]).enterTraining c.home

theorem execReleaseSettleEnd_eq {s : State} {c : CurrentTest} (current : s.ten.current = some c) :
    exec .releaseSettleEnd s = .next (State.settle s (
      if s.ten.state = .releasing then
        { ((s.fresh.freeHome c).releaseBus).fileTest c with
          ten := { (((s.fresh.freeHome c).releaseBus).fileTest c).ten with state := .idle, current := none } }
      else s.fresh)) := by
  have home : (if c.outcome = some .abortedAdmin then s.fresh else s.fresh.releaseHome c.home) = s.fresh.freeHome c := by
    unfold State.freeHome State.releaseHome
    by_cases taken : c.outcome = some .abortedAdmin <;> by_cases held : s.fresh.service c.home = .testHeld <;>
      simp [taken, held]
  rw [exec, execReleaseSettleEnd, current, ← home]
  cases s.ten.state <;> rfl

/-- Settles O49: each part of the release by its own equation. -/
theorem releaseFreesHomeAndFilesTest : Obligations.ReleaseFreesHomeAndFilesTest := by
  refine ⟨State.tbusyFell_eq, fun c k t => ⟨Ten.requeue_of_none k, fun x found => Ten.requeue_of_find k found⟩,
    State.abortForAdmin_eq, fun cable ms => ⟨fun m => loopOf_of_find, loopOf_of_none,
      fun m => mem_inRecordOrder ms m, inRecordOrder_sublist ms⟩, fun s c current => ?_⟩
  intro f home dropped bus filed
  have freed : home = s.fresh.freeHome c := rfl
  have released : bus = home.releaseBus := (State.releaseBus_eq home).symm
  have files : filed = bus.fileTest c := by
    rcases outcome : c.outcome with _ | o
    · rcases cause : c.cause with _ | k
      · simp only [State.fileTest_of_neither outcome cause, filed, outcome, cause]
      · simp only [State.fileTest_of_cause outcome cause, filed, outcome, cause]
    · simp only [State.fileTest_of_outcome outcome, filed, outcome]
  rw [execReleaseSettleEnd_eq current, ← freed, ← released, ← files]
  rfl

end Sys2Proof.Machine
end

section
/-! SUPPORT. The start of the station: the fitting of a start on battery, which pays for no home, and the blocks after it. -/

namespace Sys2Proof.Machine

/-! ## A fitting that finds no home to pay for (R108, R171 to R173) -/

/-- No home is in a state that the power division pays for (R107). -/
def State.Unpaid (s : State) : Prop := ∀ h, (s.service h).paid = false

theorem State.Unpaid.floor {s : State} (unpaid : s.Unpaid) : s.floor = 0 := by
  have nobody : homeIds.filter (fun h => (s.service h).paid) = [] := List.filter_eq_nil_iff.mpr fun h _ => by
    simp [unpaid h]
  simp [State.floor, nobody]

theorem State.Unpaid.homesIn {s : State} (unpaid : s.Unpaid) {st : Service} (paid : st.paid = true) :
    s.homesIn st = [] := by
  refine List.filter_eq_nil_iff.mpr fun h _ same => ?_
  have there : s.service h = st := by simpa using same
  have never := unpaid h
  rw [there, paid] at never
  cases never

theorem inService_paid {st : Service} (serves : inService st = true) : st.paid = true := by
  have which : (st = .upFull ∨ st = .upLow) ∨ st = .quiet := by simpa [inService] using serves
  rcases which with (rfl | rfl) | rfl <;> rfl

theorem State.Unpaid.candidates {s : State} (unpaid : s.Unpaid) : s.candidates = [] := by
  have idle (h : HomeId) : inService (s.service h) = false := by
    by_contra serves
    have never := unpaid h
    rw [inService_paid (by simpa using serves)] at never
    cases never
  simp [State.candidates, idle, byWeight]

theorem loweringRequest_none (st : Service) (ret : Option Mode) : loweringRequest st ret none = none := by
  cases st <;> rfl

theorem raisingRequest_none (st : Service) (ret : Option Mode) : raisingRequest st ret none = none := by
  cases st <;> rfl

theorem State.wakeable_of_nil {s : State} (queue : s.bhu.wakeQ = []) : s.wakeable = [] := by
  simp [State.wakeable, queue]

/-- Without a home to pay for, a wake queued or a test, a fitting grants nothing and leaves the allowance whole. -/
theorem State.Unpaid.fitting {s : State} (unpaid : s.Unpaid) (wakes : s.bhu.wakeQ = []) (wanted : s.reserveWanted = false)
    (a : Nat) : s.fitting a = ⟨Tab.all none, false, a⟩ := by
  have grants : (Tab.make fun h => if (s.service h).paid then some Mode.sleep else none) = Tab.all none :=
    Tab.ext_at _ _ fun h => by simp [unpaid h]
  simp [State.fitting, grants, unpaid.floor, unpaid.candidates, unpaid.homesIn (st := .training) rfl,
    unpaid.homesIn (st := .waking) rfl, State.wakeable_of_nil wakes, wanted]

/-- A fitting that grants nothing sends nothing. -/
theorem State.fittingRequests_of_none {s : State} (wakes : s.bhu.wakeQ = []) (reserve : Bool) (remaining : Nat) :
    s.fittingRequests ⟨Tab.all none, reserve, remaining⟩ = [] := by
  simp [State.fittingRequests, loweringRequest_none, raisingRequest_none, State.wakeable_of_nil wakes]

theorem State.recall_of_nil {s : State} (requests : s.bhu.requests = []) (wakes : s.bhu.wakeQ = []) : s.recall = s := by
  have nobody : s.unwoken = [] := by simp [State.unwoken, requests]
  have same : { s.bhu with requests := [], wakeQ := [] } = s.bhu := by rw [← requests, ← wakes]
  rw [State.recall, nobody, requests, wakes]
  exact congrArg (fun b => { s with bhu := b }) same

theorem State.Unpaid.fit {s : State} (unpaid : s.Unpaid) (requests : s.bhu.requests = []) (wakes : s.bhu.wakeQ = [])
    (wanted : s.reserveWanted = false) (a : Nat) :
    s.fit a = { s with bhu := { s.bhu with
      wakeQ := [], outcome := Tab.all none, reserve := false, remaining := a, requests := [], batch := [] } } := by
  rw [State.fit, State.recall_of_nil requests wakes, State.sendFitting, unpaid.fitting wakes wanted a]
  simp only [State.fittingRequests_of_none wakes, requests, wakes]
  rfl

/-! ## The start (R1, R3, R108, R186, R188) -/

/-- The service state of a home right after a start (R1). -/
theorem service_startState (pins : Pins) (k : Kept) (pending : List Instr) (h : HomeId) :
    (startState pins k pending).service h =
      if ((loadHomes pins.mem).at h).equipped then (if k.adminDown.at h then .adminDown else .down) else .unequipped := by
  simp [State.service, State.home, startState, startHome]

theorem startState_unpaid (pins : Pins) (k : Kept) (pending : List Instr) (shc : Shc) :
    State.Unpaid { startState pins k pending with shc := shc } := by
  intro h
  have started := service_startState pins k pending h
  rw [State.service, State.home] at started ⊢
  rw [started]
  split
  · split <;> rfl
  · rfl

/-- What a start writes beyond its start values: on battery the fallback allowance, whole (R108). -/
theorem startPower_startState (pins : Pins) (k : Kept) (pending : List Instr) :
    (startState pins k pending).startPower = { startState pins k pending with
      shc := { (startState pins k pending).shc with
        a := if pins.mainsOk then none else some (loadCfg pins.mem).fallback
        pwCap := if pins.mainsOk then 0 else (loadCfg pins.mem).fallback }
      bhu := { (startState pins k pending).bhu with
        remaining := if pins.mainsOk then 0 else (loadCfg pins.mem).fallback } } := by
  rcases mains : pins.mainsOk with _ | _
  · have onBattery : (startState pins k pending).power ≠ .mains := by
      cases low : pins.battLow <;> simp [State.power, startState, mains, low]
    rw [State.startPower, if_neg onBattery]
    exact (startState_unpaid pins k pending _).fit rfl rfl rfl _
  · have onMains : (startState pins k pending).power = .mains := by
      simp [State.power, startState, mains]
    rw [State.startPower, if_pos onMains]
    rfl

/-- A home gets a restart strobe at a start when it is equipped and not ADMIN_DOWN (R3). -/
theorem startUp_out (pins : Pins) (k : Kept) (pending : List Instr) :
    (startUp pins k pending).out = startStrobesOf pins k := by
  have free (h : HomeId) : (!holdRefused ((startState pins k pending).service h)) =
      (((loadHomes pins.mem).at h).equipped && !k.adminDown.at h) := by
    rw [service_startState]
    cases ((loadHomes pins.mem).at h).equipped <;> cases k.adminDown.at h <;> rfl
  have strobes : (startUp pins k pending).out =
      (homeIds.filter fun h => !holdRefused ((startState pins k pending).service h)).map Pulse.restartStrobe := by
    rw [startUp, startPower_startState]
    rfl
  rw [strobes, startStrobesOf]
  simp only [free]

/-- The Order Handler after a start reports an unreadable configuration memory (R181, R186). -/
theorem startState_orh (pins : Pins) (k : Kept) (pending : List Instr) :
    (startState pins k pending).orh =
      { executing := none, queue := if pins.mem = none then [⟨0, .event .configDefaulted⟩] else [], restart := none
        lostEvents := k.lostEvents, stn := pins.stn, fitted := pins.fitted, defaulted := decide (pins.mem = none)
        reportReq := false, reportTarget := 0 } := by
  have unread : pins.mem.isNone = decide (pins.mem = none) := by cases pins.mem <;> rfl
  simp only [startState, unread, decide_eq_true_eq]

/-- Every block after a start. -/
theorem startUp_startsEveryBlock (pins : Pins) (k : Kept) (pending : List Instr) :
    StartsEveryBlock pins k (startUp pins k pending) := by
  rw [startUp, startPower_startState]
  refine ⟨rfl, rfl, rfl, fun h => ?_, ⟨rfl, rfl, rfl, rfl⟩, rfl, rfl, rfl, rfl, rfl,
    ⟨rfl, rfl, rfl, rfl, rfl, rfl, rfl, rfl, fun h => ?_⟩, rfl, rfl, ⟨rfl, rfl, rfl, fun h => ?_, rfl, rfl, rfl⟩,
    startState_orh pins k pending⟩
  · exact Tab.at_make _ h
  · exact Tab.at_make _ h
  · exact Tab.at_all none h

/-- The idle timer of a home that had no traffic (R168). -/
theorem State.idleSeconds_of_none {s : State} {h : HomeId} (untouched : s.bhu.lastTraffic.at h = none) :
    s.idleSeconds h = 30 := by
  rw [State.idleSeconds_eq, untouched]
  rfl

/-! ## The test that a restart finds (R165) -/

/-- The record of the current test leaves the waiting commands alone. -/
theorem State.restartTest_pending (s : State) : s.restartTest.pending = s.pending := by
  have ended : (s.endTest .abortedRestart).pending = s.pending := by
    rw [State.endTest_eq]
    split <;> rfl
  unfold State.restartTest
  split
  · rfl
  · split
    · exact ended
    · split
      · rfl
      · unfold State.writeCancelled
        split <;> rfl
      · rfl

/-- Settles O5: both starts by `startUp_startsEveryBlock`, the test that a restart finds by the branches of R165. -/
theorem powerOnStartsEveryBlock : Obligations.PowerOnStartsEveryBlock := by
  refine ⟨fun p s => ⟨_, rfl, startUp_startsEveryBlock _ _ _, ?_, ?_, fun h => ?_, startUp_out _ _ _⟩,
    fun s => ⟨startUp_startsEveryBlock _ _ _, ?_, ?_⟩, fun s => ⟨fun untested => ?_, fun c current => ⟨?_, ?_, ?_⟩⟩⟩
  · rw [startUp, startPower_startState]
    rfl
  · rw [startUp, startPower_startState]
    rfl
  · rw [startUp, startPower_startState]
    exact State.idleSeconds_of_none (Tab.at_all none h)
  · rw [State.softRestart, startUp, startPower_startState]
    exact s.restartTest_pending
  · exact congrArg (s.restartTest.out ++ ·) (startUp_out ..)
  · rw [State.restartTest, untested]
  · intro holds
    rw [State.restartTest, current]
    simp only [(s.testHolding_iff).mpr holds, if_true, State.endTest_eq, if_pos holds]
  · intro ended o outcome
    have freed : ¬s.testHolding = true := fun holds => ended (s.testHolding_iff.mp holds)
    rw [State.restartTest, current]
    simp only [if_neg freed, outcome]
  · intro ended outcome k cause
    have freed : ¬s.testHolding = true := fun holds => ended (s.testHolding_iff.mp holds)
    have recorded : k.cancelOutcome = if k = .storm then .abortedStorm else .abortedCancel := by cases k <;> rfl
    rw [State.restartTest, current]
    simp only [if_neg freed, outcome, cause, State.writeCancelled, List.isEmpty_iff, recorded]

end Sys2Proof.Machine
end

section
/-! SUPPORT. The configuration that a memory gives: each loaded field in its range (R44, R186). -/

namespace Sys2Proof

/-! ## Clamping (R186) -/

theorem le_clamp (lo hi n : Nat) : lo ≤ clamp lo hi n := le_max_left _ _

theorem clamp_le {lo hi : Nat} (ordered : lo ≤ hi) (n : Nat) : clamp lo hi n ≤ hi :=
  max_le ordered (min_le_left _ _)

/-- A clamped value lies in its range, which must not be empty. -/
theorem clamp_mem {lo hi : Nat} (ordered : lo ≤ hi) (n : Nat) : lo ≤ clamp lo hi n ∧ clamp lo hi n ≤ hi :=
  ⟨le_clamp lo hi n, clamp_le ordered n⟩

/-! ## What a memory gives (R44, R186) -/

@[simp] theorem loadCfg_none : loadCfg none = Config.defaults := rfl

@[simp] theorem loadCfg_some (m : CfgImage) : loadCfg (some m) = cfgOf m := rfl

@[simp] theorem loadHomes_none_at (h : HomeId) : (loadHomes none).at h = Config.defaultHome := Tab.at_all _ h

@[simp] theorem loadHomes_some_at (m : CfgImage) (h : HomeId) :
    (loadHomes (some m)).at h = homeCfgOf (m.homes.at h) := Tab.at_make _ h

@[simp] theorem loadFilters_none_at (i : Fin 8) : (loadFilters none).at i = Config.defaultFilter := Tab.at_all _ i

@[simp] theorem loadFilters_some_at (m : CfgImage) (i : Fin 8) :
    (loadFilters (some m)).at i = filterOf (m.filters.at i) := Tab.at_make _ i

/-! ## The fields of the station (R97, R111, R129, R186) -/

/-- The power costs in their range and ordered: a lower mode never costs more than a higher one (R186). -/
def Cfg.CostsOrdered (c : Cfg) : Prop := 1 ≤ c.pSleep ∧ c.pSleep ≤ c.pLow ∧ c.pLow ≤ c.pFull ∧ c.pFull ≤ 255

/-- Ordering the clamped costs leaves each of them at 1 at least, as each is the smaller of two that are. -/
theorem cfgOf_costsOrdered (m : CfgImage) : (cfgOf m).CostsOrdered := by
  have low : 1 ≤ (cfgOf m).pLow := le_min (le_clamp ..) (le_clamp ..)
  exact ⟨le_min (le_clamp ..) low, min_le_right _ _, min_le_right _ _, clamp_le (by decide) _⟩

/-- The fields of a loaded configuration, each in its range. -/
structure Cfg.InRange (c : Cfg) : Prop where
  queues (h : HomeId) : 16 ≤ c.upLimits.at h ∧ c.upLimits.at h ≤ 255 ∧ 16 ≤ c.downLimits.at h ∧ c.downLimits.at h ≤ 255
  uplinkLimit : 128 ≤ c.uplinkLimit ∧ c.uplinkLimit ≤ 1536
  stormHold : 1 ≤ c.stormHold ∧ c.stormHold ≤ 60
  cable : 30 ≤ c.cable ∧ c.cable ≤ 80
  costs : c.CostsOrdered
  pTest : 1 ≤ c.pTest ∧ c.pTest ≤ 255
  capK : 16 ≤ c.capK ∧ c.capK ≤ 65535
  ramp : 1 ≤ c.ramp ∧ c.ramp ≤ 4096
  fallback : 1 ≤ c.fallback ∧ c.fallback ≤ 65535
  depth : 4096 ≤ c.depth ∧ c.depth ≤ 65535
  u : 16 ≤ c.u ∧ c.u ≤ 65535
  b : 1 ≤ c.b ∧ c.b ≤ 65535

theorem defaults_inRange : Config.defaults.InRange where
  queues h := by simp [Config.defaults]
  uplinkLimit := by decide
  stormHold := by decide
  cable := by decide
  costs := by unfold Cfg.CostsOrdered; decide
  pTest := by decide
  capK := by decide
  ramp := by decide
  fallback := by decide
  depth := by decide
  u := by decide
  b := by decide

theorem cfgOf_inRange (m : CfgImage) : (cfgOf m).InRange where
  queues h := by
    have up : (cfgOf m).upLimits.at h = clamp 16 255 (m.homes.at h).upLimit := Tab.at_make _ h
    have down : (cfgOf m).downLimits.at h = clamp 16 255 (m.homes.at h).downLimit := Tab.at_make _ h
    rw [up, down]
    exact ⟨le_clamp .., clamp_le (by decide) _, clamp_mem (by decide) _⟩
  uplinkLimit := clamp_mem (by decide) _
  stormHold := clamp_mem (by decide) _
  cable := clamp_mem (by decide) _
  costs := cfgOf_costsOrdered m
  pTest := clamp_mem (by decide) _
  capK := clamp_mem (by decide) _
  ramp := clamp_mem (by decide) _
  fallback := clamp_mem (by decide) _
  depth := clamp_mem (by decide) _
  u := clamp_mem (by decide) _
  b := clamp_mem (by decide) _

theorem loadCfg_inRange (mem : Option CfgImage) : (loadCfg mem).InRange := by
  cases mem with
  | none => rw [loadCfg_none]; exact defaults_inRange
  | some m => rw [loadCfg_some]; exact cfgOf_inRange m

/-! ## Tier weights and minimum lengths (R44, R186) -/

theorem loadHomes_tier_mem (mem : Option CfgImage) (h : HomeId) :
    1 ≤ ((loadHomes mem).at h).tier ∧ ((loadHomes mem).at h).tier ≤ 15 := by
  cases mem with
  | none => rw [loadHomes_none_at]; decide
  | some m => rw [loadHomes_some_at]; exact clamp_mem (by decide) _

theorem loadFilters_minLen_le (mem : Option CfgImage) (i : Fin 8) : ((loadFilters mem).at i).minLen ≤ 1536 := by
  cases mem with
  | none => rw [loadFilters_none_at]; decide
  | some m => rw [loadFilters_some_at]; exact clamp_le (by decide) _

theorem loadHomes_none_unequipped (h : HomeId) : ((loadHomes none).at h).equipped = false := by
  rw [loadHomes_none_at]
  rfl

/-- Settles O7: the ranges by `loadCfg_inRange`, whose stored case is clamping, and the defaults of an unreadable memory. -/
theorem loadedConfigurationInRange : Obligations.LoadedConfigurationInRange := by
  intro mem
  have r := loadCfg_inRange mem
  refine ⟨r.queues, r.uplinkLimit, r.stormHold, r.cable, r.costs, r.pTest, r.capK, r.ramp, r.fallback, r.depth, r.u, r.b,
    loadHomes_tier_mem mem, loadFilters_minLen_le mem, ?_⟩
  rintro rfl
  exact ⟨loadCfg_none, loadHomes_none_unequipped, loadFilters_none_at⟩

end Sys2Proof
end

section
/-! SUPPORT. The view of the stores: what the bounds of queues, buffers, logs and counts read of a state, and the
operations that keep those bounds. -/

namespace Sys2Proof.Machine

/-- What the bounds of the stores read of a state: the report queue, the test queue by its homes, the log, the entries
taken of the three gateway stores and of the order buffer, and the spent count with a bulk contention. -/
structure StoreView where
  reports : List Report
  executing : Bool
  tests : List HomeId
  testing : Bool
  records : Nat
  recordNo : Nat
  orders : Nat
  management : Nat
  gateway : Nat
  spent : Nat
  bulk : Bool

/-- The view of the stores that a state shows. -/
def State.stores (s : State) : StoreView :=
  { reports := s.orh.queue, executing := s.orh.executing.isSome, tests := s.ten.queue.map TestEntry.home
    testing := s.ten.current.isSome, records := s.ten.log.length, recordNo := s.ten.recordNo, orders := s.orderEntries
    management := s.gwu.orders.length, gateway := s.reportEntries, spent := s.cbi.spent
    bulk := s.cbi.contending.any fun k => !k.urgent }

/-- The report queue within its size (R181, R184). -/
def StoreView.ReportsFit (V : StoreView) : Prop :=
  V.reports.length + (if V.executing then 1 else 0) ≤ 16 ∧ (V.reports.filter Report.isEvent).length ≤ 12

/-- The test queue within its size (R149, R150). -/
def StoreView.TestsFit (V : StoreView) : Prop :=
  V.tests.Nodup ∧ V.tests.length + (if V.testing then 1 else 0) ≤ 8

/-- The order and report buffers within their sizes (R59, R66, R140, R143). -/
def StoreView.BuffersFit (V : StoreView) : Prop := V.orders ≤ 4 ∧ V.management ≤ 8 ∧ V.gateway ≤ 32

/-- The results log within its size (R166, R167). -/
def StoreView.LogFits (V : StoreView) : Prop := V.records ≤ 16 ∧ V.recordNo < 256

/-- The spent count within the allowance (R59, R63). -/
def StoreView.SpentFits (V : StoreView) : Prop := V.spent ≤ 4 ∧ (V.bulk = true → V.spent < 4)

/-- The second view keeps each bound that the first meets. -/
structure StoreView.Leads (V W : StoreView) : Prop where
  reports : V.ReportsFit → W.ReportsFit
  tests : V.TestsFit → W.TestsFit
  buffers : V.BuffersFit → W.BuffersFit
  log : V.LogFits → W.LogFits
  spent : V.SpentFits → W.SpentFits

/-- The second state keeps each bound of the stores that the first meets. -/
def BoundsKept (s t : State) : Prop := s.stores.Leads t.stores

theorem BoundsKept.of_eq {s t : State} (h : t.stores = s.stores) : BoundsKept s t := by
  unfold BoundsKept
  rw [h]
  exact ⟨id, id, id, id, id⟩

theorem BoundsKept.refl (s : State) : BoundsKept s s := .of_eq rfl

theorem BoundsKept.trans {s t u : State} (h : BoundsKept s t) (k : BoundsKept t u) : BoundsKept s u :=
  ⟨k.reports ∘ h.reports, k.tests ∘ h.tests, k.buffers ∘ h.buffers, k.log ∘ h.log, k.spent ∘ h.spent⟩

/-- A fold of operations that keep the bounds keeps them. -/
theorem BoundsKept.foldl {α : Type} (f : State → α → State) (h : ∀ s x, BoundsKept s (f s x)) (l : List α) (s : State) :
    BoundsKept s (l.foldl f s) := by
  induction l generalizing s with
  | nil => exact .refl s
  | cons x l ih => exact (h s x).trans (ih (f s x))

theorem BoundsKept.foldr {α : Type} (f : α → State → State) (h : ∀ x s, BoundsKept s (f x s)) (l : List α) (s : State) :
    BoundsKept s (l.foldr f s) := by
  induction l with
  | nil => exact .refl s
  | cons x l ih => exact ih.trans (h x _)

/-! ## The view and the invariants -/

theorem reportsFit_iff (s : State) : s.stores.ReportsFit ↔ ReportQueueBounded s := Iff.rfl

theorem testsFit_iff (s : State) : s.stores.TestsFit ↔ TestQueueBounded s := by
  unfold StoreView.TestsFit TestQueueBounded State.stores
  simp only [List.length_map]

theorem buffersFit_iff (s : State) : s.stores.BuffersFit ↔ BuffersBounded s := Iff.rfl

theorem logFits_iff (s : State) : s.stores.LogFits ↔ ResultsLogBounded s := Iff.rfl

theorem spentFits_iff (s : State) : s.stores.SpentFits ↔ SpentCountBounded s := by
  unfold StoreView.SpentFits SpentCountBounded State.stores
  cases s.cbi.contending with
  | none => simp
  | some k => cases k <;> simp [Contending.urgent]

/-! ## The report queue -/

/-- An event offered keeps the report queue within its size: it is lost when there is no room (R184). -/
theorem Orh.offer_bounded (e : Event) (o : Orh) (h : o.entries ≤ 16 ∧ o.events ≤ 12) :
    (o.offer e).entries ≤ 16 ∧ (o.offer e).events ≤ 12 := by
  obtain ⟨executing, -, ⟨queue, events, entries⟩ | ⟨queue, -⟩⟩ := o.offer_spec e
  · unfold Orh.entries Orh.events at *
    rw [queue, executing]
    have one : ([⟨0, .event e⟩].filter Report.isEvent).length ≤ 1 := List.length_filter_le ..
    simp only [List.length_append, List.length_singleton, List.filter_append]
    omega
  · unfold Orh.entries Orh.events at *
    rw [queue, executing]
    exact h

theorem Orh.offers_bounded (es : List Event) (o : Orh) (h : o.entries ≤ 16 ∧ o.events ≤ 12) :
    (es.foldl (fun o e => o.offer e) o).entries ≤ 16 ∧ (es.foldl (fun o e => o.offer e) o).events ≤ 12 := by
  induction es generalizing o with
  | nil => exact h
  | cons e es ih => exact ih _ (o.offer_bounded e h)

/-- A change of the Order Handler that keeps the report queue within its size. -/
theorem BoundsKept.of_orh {s : State} (o : Orh)
    (h : s.orh.entries ≤ 16 ∧ s.orh.events ≤ 12 → o.entries ≤ 16 ∧ o.events ≤ 12) : BoundsKept s { s with orh := o } :=
  ⟨h, id, id, id, id⟩

theorem BoundsKept.offers (es : List Event) (s : State) :
    BoundsKept s { s with orh := es.foldl (fun o e => o.offer e) s.orh } :=
  .of_orh _ (Orh.offers_bounded es s.orh)

theorem State.offer_bounded (e : Event) (s : State) : BoundsKept s (s.offer e) := .of_orh _ (Orh.offer_bounded e s.orh)

/-- An event offered on a condition. -/
theorem BoundsKept.offerIf (p : Prop) [Decidable p] (e : Event) (s : State) :
    BoundsKept s { s with orh := if p then s.orh.offer e else s.orh } := by
  split
  · exact s.offer_bounded e
  · exact .refl s

/-- A reply takes the entry reserved for it (R182). -/
theorem State.reply_bounded (r : Result) (d : ReplyData) (s : State) : BoundsKept s (s.reply r d) := by
  obtain ⟨o, e, entries, events⟩ := s.reply_spec r d
  rw [e]
  exact .of_orh o fun h => by rwa [entries, events]

/-! ## The test queue and the log -/

/-- A change of the Test Engine that keeps its queue and its log within their sizes. -/
theorem BoundsKept.of_ten {s : State} (t : Ten)
    (queue : s.stores.TestsFit → (t.queue.map TestEntry.home).Nodup ∧
      (t.queue.map TestEntry.home).length + (if t.current.isSome then 1 else 0) ≤ 8)
    (log : s.stores.LogFits → t.log.length ≤ 16 ∧ t.recordNo < 256) : BoundsKept s { s with ten := t } :=
  ⟨id, queue, id, log, id⟩

/-- A request for a test keeps the queue's homes distinct and within its size (R149). -/
theorem Ten.request_bounded {h : HomeId} {set : TestSet} {quiet : Bool} {origin : Origin} {t u : Ten}
    (e : t.request h set quiet origin = some u)
    (fit : (t.queue.map TestEntry.home).Nodup ∧
      (t.queue.map TestEntry.home).length + (if t.current.isSome then 1 else 0) ≤ 8) :
    (u.queue.map TestEntry.home).Nodup ∧
      (u.queue.map TestEntry.home).length + (if u.current.isSome then 1 else 0) ≤ 8 := by
  unfold Ten.request at e
  split at e
  · rw [← Option.some.inj e]
    have homes : (t.queue.map fun x => if x.home = h then x.merge set quiet else x).map TestEntry.home =
        t.queue.map TestEntry.home := by
      rw [List.map_map]
      refine List.map_congr_left fun x _ => ?_
      simp only [Function.comp_apply]
      split <;> rfl
    rw [homes]
    exact fit
  · rename_i absent
    generalize room : (if t.current.isSome then 1 else 0) = taken at e fit
    split at e
    · cases e
    · rename_i full
      rw [← Option.some.inj e]
      simp only [List.any_eq_true, beq_iff_eq, not_exists, not_and] at absent
      simp only [List.map_append, List.map_cons, List.map_nil, List.nodup_append, List.length_append, List.length_map,
        List.length_singleton, room]
      refine ⟨⟨fit.1, by simp, fun x hx y hy => ?_⟩, by omega⟩
      obtain ⟨a, ha, rfl⟩ := List.mem_map.mp hx
      rw [List.mem_singleton.mp hy]
      exact absent a ha

theorem State.request_bounded {h : HomeId} {set : TestSet} {quiet : Bool} {origin : Origin} {s : State} {u : Ten}
    (e : s.ten.request h set quiet origin = some u) : BoundsKept s { s with ten := u } := by
  refine .of_ten u (Ten.request_bounded e) ?_
  obtain ⟨q, rfl⟩ := Ten.request_spec e
  exact id

theorem State.flapRequest_bounded (h : HomeId) (s : State) : BoundsKept s (s.flapRequest h) := by
  unfold State.flapRequest
  cases e : s.ten.request h ⟨true, true, true⟩ false .flap with
  | none => exact .of_eq rfl
  | some u => exact State.request_bounded e

/-- Room made in the log: at most 15 records stay of a log within its size, and no other item changes but the lost count
(R167). -/
theorem Ten.makeRoom_spec (t : Ten) :
    ∃ l n, t.makeRoom.1 = { t with log := l, lost := n } ∧ (t.log.length ≤ 16 → l.length ≤ 15) := by
  unfold Ten.makeRoom
  split
  · exact ⟨t.log, t.lost, rfl, fun _ => by omega⟩
  · split
    · rename_i read
      refine ⟨_, t.lost, rfl, fun h => ?_⟩
      obtain ⟨r, mem, isRead⟩ := List.any_eq_true.mp read
      rw [List.length_eraseP_of_mem mem isRead]
      omega
    · split
      · rename_i empty
        exact ⟨t.log, t.lost, rfl, fun _ => by simp [empty]⟩
      · rename_i log
        exact ⟨_, _, rfl, fun h => by simp only [log, List.length_cons] at h; omega⟩

theorem State.writeRecord_bounded (h : HomeId) (o : Origin) (r : TestOutcome) (split : Bool) (ms : List Measurement)
    (s : State) : BoundsKept s (s.writeRecord h o r split ms) := by
  obtain ⟨l, n, room, few⟩ := s.ten.makeRoom_spec
  have filed (x : ResultRecord) : BoundsKept s { s with ten := { s.ten.makeRoom.1 with
      log := s.ten.makeRoom.1.log ++ [x], recordNo := (s.ten.makeRoom.1.recordNo + 1) % 256 } } := by
    rw [room]
    refine .of_ten _ id fun fit => ?_
    have fewer := few fit.1
    simp only [List.length_append, List.length_singleton]
    omega
  exact (filed _).trans (.offers _ _)

theorem State.writeCancelled_bounded (h : HomeId) (o : Origin) (k : SuspendCause) (ms : List Measurement) (s : State) :
    BoundsKept s (s.writeCancelled h o k ms) := by
  unfold State.writeCancelled
  split
  · exact .refl s
  · exact s.writeRecord_bounded ..

/-- Entries of the test queue left out. -/
theorem State.filterTests_bounded (p : TestEntry → Bool) (s : State) :
    BoundsKept s { s with ten := { s.ten with queue := s.ten.queue.filter p } } := by
  refine .of_ten _ (fun fit => ?_) id
  have fewer : ((s.ten.queue.filter p).map TestEntry.home).Sublist s.stores.tests := List.filter_sublist.map _
  exact ⟨fit.1.sublist fewer, (Nat.add_le_add_right fewer.length_le _).trans fit.2⟩

/-! ## The bus interface -/

/-- A part that is no callee holds an entry reserved only past its close, as before (R66). -/
theorem Cbi.reserves_of_leaves {k : CallKind} {c d : Cbi} (away : d.part ≠ .callee)
    (kept : d.reservedOver = c.reservedOver ∨ d.reservedOver = none) (held : d.reserves k = true) : c.reserves k = true := by
  unfold Cbi.reserves at *
  rcases kept with kept | kept <;> simp_all

/-- A bus interface with no more orders and no more entries reserved. -/
theorem BoundsKept.of_cbi {s : State} (c : Cbi) (orders : c.orders.length ≤ s.cbi.orders.length)
    (held : ∀ k, c.reserves k = true → s.cbi.reserves k = true)
    (spent : s.stores.SpentFits → c.spent ≤ 4 ∧ ((c.contending.any fun k => !k.urgent) = true → c.spent < 4)) :
    BoundsKept s { s with cbi := c } := by
  have fewer (k : CallKind) : (if c.reserves k = true then 1 else 0) ≤ if s.cbi.reserves k = true then 1 else 0 := by
    cases e : c.reserves k with
    | true => simp [held k e]
    | false => simp
  have fewerOrders := fewer .order
  have fewerReports := fewer .report
  refine ⟨id, id, fun ⟨ordersFit, managementFit, gatewayFit⟩ => ⟨?_, managementFit, ?_⟩, id, spent⟩
  · simp only [State.stores, State.orderEntries] at *; omega
  · simp only [State.stores, State.reportEntries] at *; omega

/-- A bus interface whose part is no callee, with its orders and the rest of its counts. -/
theorem BoundsKept.leaves {s : State} (c : Cbi) (away : c.part ≠ .callee) (orders : c.orders = s.cbi.orders)
    (kept : c.reservedOver = s.cbi.reservedOver ∨ c.reservedOver = none) (spent : c.spent = s.cbi.spent)
    (bulk : (c.contending.any fun k => !k.urgent) = true → s.stores.bulk = true) :
    BoundsKept s { s with cbi := c } := by
  refine .of_cbi c (by rw [orders]) (fun k => Cbi.reserves_of_leaves away kept) fun fit => ?_
  rw [spent]
  exact ⟨fit.1, fit.2 ∘ bulk⟩

end Sys2Proof.Machine
end

section
/-! SUPPORT. The operations of homes, frames and the test keep the bounds of the stores. -/

namespace Sys2Proof.Machine

/-! ## The end of a command -/

@[simp] theorem State.withdrawClaim_stores (r : Option StationId) (s : State) : (s.withdrawClaim r).stores = s.stores := by
  obtain ⟨c, o, w, h⟩ := s.withdrawClaim_spec r
  rw [h]
  rfl

@[simp] theorem State.examine_stores (s : State) : s.examine.stores = s.stores := by
  obtain ⟨st, c, o, w, h⟩ := s.examine_spec
  rw [h]
  rfl

@[simp] theorem State.settle_stores (s0 s : State) : (State.settle s0 s).stores = s.stores := by
  obtain ⟨st, c, o, w, h⟩ := State.settle_spec s0 s
  rw [h]
  rfl

theorem BoundsKept.settle {s t : State} (h : BoundsKept s t) (s0 : State) : BoundsKept s (State.settle s0 t) :=
  h.trans (.of_eq (State.settle_stores s0 t))

/-- A fold of operations that the view of the stores does not show. -/
theorem State.foldl_stores {α : Type} (f : State → α → State) (h : ∀ s x, (f s x).stores = s.stores) (l : List α)
    (s : State) : (l.foldl f s).stores = s.stores :=
  State.foldl_same State.stores f h l s

@[simp] theorem State.emit_stores (ps : List Pulse) (s : State) : (s.emit ps).stores = s.stores := rfl

/-! ## The test -/

/-- The current test changed in its own items. -/
@[simp] theorem State.updTest_stores (f : CurrentTest → CurrentTest) (s : State) : (s.updTest f).stores = s.stores := by
  have same : (s.updTest f).stores = { s.stores with testing := (s.ten.current.map f).isSome } := rfl
  rw [same, Option.isSome_map]
  rfl

@[simp] theorem State.enterReleasing_stores (o : Option TestOutcome) (k : Option SuspendCause) (s : State) :
    (s.enterReleasing o k).stores = s.stores := by
  have same : (s.enterReleasing o k).stores =
      { s.stores with testing := (s.ten.current.map fun c =>
        { c with phase := .releaseSettle s.now, part := [], outcome := o, cause := k.or c.cause }).isSome } := rfl
  rw [same, Option.isSome_map]
  rfl

@[simp] theorem State.suspend_stores (k : SuspendCause) (s : State) : (s.suspend k).stores = s.stores := by
  unfold State.suspend
  split
  · exact s.enterReleasing_stores ..
  · rfl

@[simp] theorem State.endTest_stores (o : TestOutcome) (s : State) : (s.endTest o).stores = s.stores := by
  unfold State.endTest
  split
  · exact s.enterReleasing_stores ..
  · rfl

@[simp] theorem State.powerRound_stores (s : State) : s.powerRound.stores = s.stores := by
  rcases s.powerRound_spec with h | h <;> rw [h]
  · rfl
  · exact State.suspend_stores _ _

@[simp] theorem State.enterTraining_stores (h : HomeId) (s : State) : (s.enterTraining h).stores = s.stores := by
  rcases s.enterTraining_spec h with e | e | e <;> rw [e]
  · rfl
  · rfl
  · exact State.powerRound_stores _

/-- CONNECTING takes the head entry out of the queue as the current test (R154). -/
theorem State.connect_bounded (s : State) : BoundsKept s s.connect := by
  have taken (e : TestEntry) (rest : List TestEntry) (queue : s.ten.queue = e :: rest) (t : State)
      (same : t.stores = { s.stores with tests := rest.map TestEntry.home, testing := true }) : BoundsKept s t := by
    unfold BoundsKept
    rw [same]
    refine ⟨id, fun fit => ?_, id, id, id⟩
    simp only [StoreView.TestsFit, State.stores, queue, List.map_cons, List.length_cons, List.nodup_cons] at fit ⊢
    exact ⟨fit.1.2, by simp only [if_true]; omega⟩
  unfold State.connect
  split
  · exact .refl s
  · rename_i e rest queue
    refine taken e rest queue _ ?_
    dsimp only
    split
    · exact State.enterReleasing_stores ..
    · unfold State.closeRelay
      split
      · rfl
      · exact State.enterReleasing_stores ..

theorem State.claimOut_bounded (withdrawn : Bool) (s : State) : BoundsKept s (s.claimOut withdrawn) := by
  unfold State.claimOut
  split
  · exact .of_eq rfl
  · split
    · exact s.connect_bounded
    · exact .refl s

@[simp] theorem State.nextStep_stores (s : State) : s.nextStep.stores = s.stores := by
  unfold State.nextStep
  split
  · rfl
  · split
    · unfold State.startStep
      split <;> simp
    · exact State.endTest_stores _ _

@[simp] theorem State.measure_stores (s : State) : s.measure.stores = s.stores := State.nextStep_stores _

@[simp] theorem State.completeStep_stores (st : TestStep) (ms : List Measurement) (s : State) :
    (s.completeStep st ms).stores = s.stores :=
  (State.nextStep_stores _).trans (State.updTest_stores _ s)

@[simp] theorem State.takeReading_stores (st : TestStep) (n : Nat) (v i ac : Word) (s : State) :
    (s.takeReading st n v i ac).stores = s.stores := by
  unfold State.takeReading
  dsimp only
  split
  · simp
  · split <;> simp

@[simp] theorem State.abortForAdmin_stores (h : HomeId) (s : State) : (s.abortForAdmin h).stores = s.stores := by
  unfold State.abortForAdmin
  split
  · split
    · exact State.updTest_stores _ _
    · exact State.endTest_stores _ _
  · rfl

/-! ## Quiets and wakes -/

@[simp] theorem State.quietHome_stores (g : Group) (s : State) (h : HomeId) : (s.quietHome g h).stores = s.stores := by
  unfold State.quietHome
  split
  · rfl
  · split <;> rfl

@[simp] theorem State.hearQuiet_stores (g : Group) (ms : Nat) (s : State) : (s.hearQuiet g ms).stores = s.stores := by
  have silenced := State.foldl_stores (State.quietHome g) (State.quietHome_stores g) homeIds (s.setQuietEnd g ms)
  unfold State.hearQuiet State.quietGroup
  generalize homeIds.foldl (State.quietHome g) (s.setQuietEnd g ms) = t at silenced ⊢
  exact silenced

@[simp] theorem State.quietOut_stores (q : QuietCall) (s : State) : (s.quietOut q).stores = s.stores := by
  unfold State.quietOut
  dsimp only
  split
  · rw [State.updTest_stores, State.hearQuiet_stores]
  · exact State.hearQuiet_stores ..

@[simp] theorem State.unquietHome_stores (g : Group) (s : State) (h : HomeId) : (s.unquietHome g h).stores = s.stores := by
  unfold State.unquietHome
  split
  · rfl
  · split <;> rfl

@[simp] theorem State.endQuiet_stores (s : State) (g : Group) : (s.endQuiet g).stores = s.stores := by
  unfold State.endQuiet
  split
  · have woken (t : State) : (t.wakeGroup g).stores = t.stores := by
      unfold State.wakeGroup
      split <;> rfl
    dsimp only
    rw [woken, State.foldl_stores (State.unquietHome g) (State.unquietHome_stores g)]
    rfl
  · rfl

theorem State.tbusyFell_bounded (s : State) : BoundsKept s s.tbusyFell := by
  have told : BoundsKept s { s with orh := if s.pvw.stuck then s.orh.offer .tbusyClear else s.orh } := .offerIf _ _ s
  unfold State.tbusyFell
  refine BoundsKept.trans ?_ (.of_eq (State.foldl_stores State.endQuiet State.endQuiet_stores groupIds _))
  exact told.trans (.of_eq rfl)

theorem State.tbusyFell_testing (s : State) : s.tbusyFell.stores.testing = s.stores.testing := by
  unfold State.tbusyFell
  rw [State.foldl_stores State.endQuiet State.endQuiet_stores]
  rfl

theorem State.wakeFailed_bounded (cause : WakeFailCause) (h : HomeId) (s : State) : BoundsKept s (s.wakeFailed cause h) :=
  s.offer_bounded (.wakeFail h cause)

/-! ## Releasing -/

theorem State.releaseBus_bounded (s : State) : BoundsKept s s.releaseBus := by
  unfold State.releaseBus
  dsimp only
  split
  · exact State.tbusyFell_bounded { s with ten := { s.ten with tbusyDrive := false, headDriving := false } }
  · exact .of_eq rfl

theorem State.releaseBus_testing (s : State) : s.releaseBus.stores.testing = s.stores.testing := by
  unfold State.releaseBus
  dsimp only
  split
  · exact State.tbusyFell_testing _
  · rfl

@[simp] theorem State.releaseHome_stores (h : HomeId) (s : State) : (s.releaseHome h).stores = s.stores := by
  unfold State.releaseHome
  split
  · exact State.enterTraining_stores _ _
  · rfl

/-- A suspended test back in the queue takes one entry more at most, its home with no other (R149, R164). -/
theorem Ten.requeue_bounded (c : CurrentTest) (k : SuspendCause) (t : Ten) (distinct : (t.queue.map TestEntry.home).Nodup) :
    ((t.requeue c k).queue.map TestEntry.home).Nodup ∧
      (t.requeue c k).queue.length ≤ t.queue.length + 1 := by
  unfold Ten.requeue
  dsimp only
  split
  · have fewer : (t.queue.filter fun y => y.home != c.home).Sublist t.queue := List.filter_sublist
    refine ⟨List.nodup_cons.mpr ⟨?_, distinct.sublist (fewer.map _)⟩, Nat.succ_le_succ fewer.length_le⟩
    simp [TestEntry.merge, resumedEntry]
  · rename_i absent
    refine ⟨List.nodup_cons.mpr ⟨?_, distinct⟩, Nat.le_refl _⟩
    simp only [List.find?_eq_none, beq_iff_eq] at absent
    simpa [resumedEntry] using absent

/-- The test that is left behind, filed or back in the queue, leaves the bounds once no test is current (R163 to R165). -/
theorem State.fileTest_bounded {s : State} (c : CurrentTest) (current : s.stores.testing = true) :
    BoundsKept s { s.fileTest c with ten := { (s.fileTest c).ten with state := .idle, current := none } } := by
  have ended (t : State) (kept : BoundsKept s t) :
      BoundsKept s { t with ten := { t.ten with state := .idle, current := none } } :=
    kept.trans (.of_ten _ (fun fit => ⟨fit.1, (Nat.le_add_right _ _).trans fit.2⟩) id)
  unfold State.fileTest
  split
  · exact ended _ (s.writeRecord_bounded ..)
  · split
    · exact ended _ (s.writeCancelled_bounded ..)
    · rename_i cause _ _ _
      refine .of_ten _ (fun fit => ?_) ?_
      · obtain ⟨distinct, size⟩ := Ten.requeue_bounded c cause s.ten fit.1
        have room := fit.2
        rw [current, if_pos rfl] at room
        simp only [State.stores, List.length_map] at room
        exact ⟨distinct, by simp only [List.length_map]; exact size.trans room⟩
      · unfold Ten.requeue
        dsimp only
        split <;> exact id
  · exact ended s (.refl s)

/-! ## Link reports -/

theorem State.linkLoss_bounded (h : HomeId) (s : State) : BoundsKept s (s.linkLoss h) := by
  have counted (t : State) : BoundsKept t (t.countLoss h) := by
    unfold State.countLoss
    dsimp only
    split
    · exact State.flapRequest_bounded h (t.updHome h _)
    · exact .of_eq rfl
  unfold State.linkLoss
  dsimp only
  split
  · exact .of_eq rfl
  · exact BoundsKept.trans (.of_eq rfl) (counted (s.enterDown h))

@[simp] theorem State.upFromDown_stores (h : HomeId) (s : State) : (s.upFromDown h).stores = s.stores := by
  unfold State.upFromDown
  dsimp only
  split
  · exact State.enterTraining_stores h s
  · exact State.enterTraining_stores h s

theorem State.applyLink_bounded (h : HomeId) (st : LinkState) (s : State) : BoundsKept s (s.applyLink h st) := by
  unfold State.applyLink
  split
  case h_1 => exact .of_eq (State.enterTraining_stores h s)
  case h_2 => exact .of_eq (State.upFromDown_stores h s)
  case h_7 => exact s.wakeFailed_bounded .down h
  case h_10 | h_11 | h_12 | h_13 =>
    split
    · exact .of_eq rfl
    · exact s.linkLoss_bounded h
  all_goals exact .of_eq rfl

/-! ## Frames and events -/

/-- Frames and events: the bounds are kept and the bus interface is left alone. -/
structure FramesOnly (s t : State) : Prop where
  kept : BoundsKept s t
  cbi : t.cbi = s.cbi

theorem FramesOnly.of_eq {s t : State} (h : t.stores = s.stores) (cbi : t.cbi = s.cbi) : FramesOnly s t := ⟨.of_eq h, cbi⟩

theorem FramesOnly.refl (s : State) : FramesOnly s s := .of_eq rfl rfl

theorem FramesOnly.trans {s t u : State} (h : FramesOnly s t) (k : FramesOnly t u) : FramesOnly s u :=
  ⟨h.kept.trans k.kept, k.cbi.trans h.cbi⟩

theorem FramesOnly.foldl {α : Type} (f : State → α → State) (h : ∀ s x, FramesOnly s (f s x)) (l : List α) (s : State) :
    FramesOnly s (l.foldl f s) := by
  induction l generalizing s with
  | nil => exact .refl s
  | cons x l ih => exact (h s x).trans (ih (f s x))

theorem State.alloc_framesOnly (n : Nat) (s : State) : FramesOnly s (s.alloc n) := ⟨.offerIf _ _ s, rfl⟩

theorem State.addVolume_framesOnly (h : HomeId) (len : Nat) (s : State) : FramesOnly s (s.addVolume h len) :=
  ⟨.offers _ s, rfl⟩

theorem State.placeUp_framesOnly (h : HomeId) (f : Frame) (s : State) : FramesOnly s (s.placeUp h f) := by
  rcases s.placeUp_spec h f with ⟨r, e⟩ | ⟨-, -, e⟩ <;> rw [e]
  · exact .of_eq rfl rfl
  · refine (s.alloc_framesOnly f.cells).trans (FramesOnly.trans ?_ (State.addVolume_framesOnly h _ _))
    exact .of_eq rfl rfl

theorem State.takeUpstream_framesOnly (h : HomeId) (bytes : List Byte) (s : State) :
    FramesOnly s (s.takeUpstream h bytes) := by
  unfold State.takeUpstream
  dsimp only
  split
  · exact .of_eq rfl rfl
  · split
    · exact .of_eq rfl rfl
    · refine FramesOnly.trans ?_ (State.placeUp_framesOnly h _ _)
      exact .of_eq rfl rfl

theorem State.placeChecked_framesOnly (h : HomeId) (f : Frame) (s : State) : FramesOnly s (s.placeChecked h f) := by
  unfold State.placeChecked
  split
  · exact .of_eq rfl rfl
  · exact (s.alloc_framesOnly f.cells).trans (.of_eq rfl rfl)

theorem State.placeDown_framesOnly (bytes : List Byte) (s : State) (h : HomeId) : FramesOnly s (s.placeDown h bytes) := by
  unfold State.placeDown
  dsimp only
  split
  · exact .of_eq rfl rfl
  · split
    · split
      · exact .of_eq rfl rfl
      · split <;> exact (s.placeChecked_framesOnly h _).trans (.of_eq rfl rfl)
    · exact s.placeChecked_framesOnly h _

theorem State.placeStn_framesOnly (i : StationId) (h : HomeId) (bytes : List Byte) (s : State) :
    FramesOnly s (s.placeStn i h bytes) := by
  unfold State.placeStn
  dsimp only
  split
  · exact .of_eq rfl rfl
  · exact (s.alloc_framesOnly _).trans (.of_eq rfl rfl)

theorem State.floodFrame_framesOnly (bytes : List Byte) (s : State) : FramesOnly s (s.floodFrame bytes) := by
  have flooded (t : State) : FramesOnly t (t.placeFlood bytes) := by
    unfold State.placeFlood
    dsimp only
    split
    · exact .of_eq rfl rfl
    · exact (t.alloc_framesOnly _).trans (.of_eq rfl rfl)
  exact (FramesOnly.foldl _ (State.placeDown_framesOnly bytes) _ s).trans (flooded _)

theorem State.routeFrame_framesOnly (bytes : List Byte) (s : State) : FramesOnly s (s.routeFrame bytes) := by
  unfold State.routeFrame
  dsimp only
  split
  · exact s.floodFrame_framesOnly bytes
  · split
    · split
      · exact s.placeDown_framesOnly bytes _
      · exact s.placeStn_framesOnly ..
    · exact s.floodFrame_framesOnly bytes

/-- A source offered to the address table leaves the gateway's orders and reports (R135). -/
@[simp] theorem State.acceptUplink_stores (i : StationId) (f : Frame) (s : State) :
    (s.acceptUplink i f).stores = s.stores := by
  have learned (a : Addr) (h : HomeId) (g : Gwu) :
      (g.learn a i h).orders = g.orders ∧ (g.learn a i h).reports = g.reports := by
    unfold Gwu.learn Gwu.learnNew
    repeat' split
    all_goals exact ⟨rfl, rfl⟩
  obtain ⟨orders, reports⟩ := learned (sourceOf f.bytes) (f.home.getD 0) s.gwu
  have same : (s.acceptUplink i f).stores = { s.stores with
      management := (s.gwu.learn (sourceOf f.bytes) i (f.home.getD 0)).orders.length
      gateway := (s.gwu.learn (sourceOf f.bytes) i (f.home.getD 0)).reports.length +
        if s.cbi.reserves .report then 1 else 0 } := rfl
  rw [same, orders, reports]
  rfl

@[simp] theorem State.moveOnce_stores (s : State) : s.moveOnce.stores = s.stores := by
  unfold State.moveOnce
  split
  · rfl
  · split
    · rfl
    · split
      · rename_i rule h y _ _ f _ _
        exact State.acceptUplink_stores s.orh.stn f (s.withSched (y.take rule h))
      · rfl

@[simp] theorem State.failBurst_stores (s : State) : s.failBurst.stores = s.stores := by
  have unseen (f : Frame → State → State) (h : ∀ x t, (f x t).stores = t.stores) (l : List Frame) (t : State) :
      (l.foldr f t).stores = t.stores := by
    induction l with
    | nil => rfl
    | cons x l ih => exact (h x _).trans ih
  unfold State.failBurst
  split
  · rfl
  · dsimp only
    split
    · refine unseen _ (fun x t => ?_) _ _
      unfold State.returnUp
      dsimp only
      split <;> rfl
    · refine unseen _ (fun x t => ?_) _ _
      unfold State.returnStn
      split <;> rfl
    · refine unseen _ (fun x t => ?_) _ _
      unfold State.returnFlood
      split <;> rfl

@[simp] theorem State.sendBurst_stores (s : State) : s.sendBurst.stores = s.stores := by
  unfold State.sendBurst
  split
  · rfl
  · dsimp only
    split <;> rfl

/-! ## The restart -/

/-- A start with a log within its size meets every bound (R186). -/
theorem startUp_bounded {s : State} (pins : Pins) (k : Kept) (pending : List Instr)
    (log : s.stores.LogFits → k.log.length ≤ 16 ∧ k.recordNo < 256) : BoundsKept s (startUp pins k pending) := by
  have same : (startUp pins k pending).stores = (startState pins k pending).stores := by
    have fitted : (startState pins k pending).startPower.stores = (startState pins k pending).stores := by
      unfold State.startPower
      split <;> rfl
    exact fitted
  unfold BoundsKept
  rw [same]
  refine ⟨fun _ => ?_, fun _ => ?_, fun _ => ?_, log, fun _ => ?_⟩
  · unfold StoreView.ReportsFit State.stores startState
    dsimp only
    split <;> simp [List.filter_cons]
    split <;> simp
  · simp [StoreView.TestsFit, State.stores, startState]
  · simp [StoreView.BuffersFit, State.stores, State.orderEntries, State.reportEntries, Cbi.reserves, startState]
  · simp [StoreView.SpentFits, State.stores, startState]

theorem State.softRestart_bounded (s : State) : BoundsKept s s.softRestart := by
  have filed : BoundsKept s s.restartTest := by
    unfold State.restartTest
    split
    · exact .refl s
    · split
      · exact (BoundsKept.of_eq (s.endTest_stores _)).trans (State.writeRecord_bounded ..)
      · split
        · exact s.writeRecord_bounded ..
        · exact s.writeCancelled_bounded ..
        · exact .refl s
  exact filed.trans (startUp_bounded (s := s.restartTest) _ _ _ id)

theorem State.restartIfLeft_bounded (left : Bool) (s : State) : BoundsKept s (s.restartIfLeft left) := by
  unfold State.restartIfLeft
  split
  · exact s.softRestart_bounded
  · exact .refl s

end Sys2Proof.Machine
end

section
/-! SUPPORT. Receptions, calls and the gateway keep the bounds of the stores. -/

namespace Sys2Proof.Machine

/-! ## Words of a transfer -/

theorem State.holdFrame_framesOnly (x : Held) (s : State) : FramesOnly s (s.holdFrame x) :=
  (s.alloc_framesOnly x.frame.cells).trans (.of_eq rfl rfl)

theorem State.holdDown_framesOnly (reserve : Nat) (f : ArrivingFrame) (s : State) (h : HomeId) :
    FramesOnly s (s.holdDown reserve f h) := by
  unfold State.holdDown
  split
  · exact .of_eq rfl rfl
  · exact s.holdFrame_framesOnly _

theorem State.holdUp_framesOnly (f : ArrivingFrame) (s : State) : FramesOnly s (s.holdUp f) := by
  unfold State.holdUp
  split
  · exact s.holdFrame_framesOnly _
  · exact .of_eq rfl rfl

theorem State.nameCopies_framesOnly (f : ArrivingFrame) (s : State) : FramesOnly s (s.nameCopies f).1 := by
  unfold State.nameCopies
  split
  · exact .refl s
  · exact .foldl _ (State.holdDown_framesOnly 64 f) _ s

theorem State.matchFrame_framesOnly (k : CallKind) (f : ArrivingFrame) (s : State) : FramesOnly s (s.matchFrame k f) := by
  unfold State.matchFrame
  refine .foldl _ (fun t h => ?_) _ s
  unfold State.matchHome
  split
  · unfold State.freeUnmatched
    dsimp only
    split <;> exact .of_eq rfl rfl
  · split <;> exact .of_eq rfl rfl

/-- A reception under way of a kind, as a word of it leaves it: the bounds are kept and the kind stays. -/
def KeepsReception (k : CallKind) (s t : State) : Prop := s.cbi.rx.map Reception.kind = some k → BoundsKept s t

/-- The reception goes on in the same kind: the same entry stays reserved (R66). -/
theorem FramesOnly.setRx {s t : State} (h : FramesOnly s t) (r : Reception) : KeepsReception r.kind s (t.setRx r) := by
  intro receives
  refine h.kept.trans (BoundsKept.of_cbi (s := t) { t.cbi with rx := some r } (Nat.le_refl _) (fun k held => ?_) id)
  have kind : t.cbi.rx.map Reception.kind = some r.kind := by rw [h.cbi]; exact receives
  obtain ⟨q, rx, same⟩ := Option.map_eq_some_iff.mp kind
  simp only [Cbi.reserves, rx, Option.any_some] at held ⊢
  rwa [same]

theorem State.openFrame_keeps (r : Reception) (f : ArrivingFrame) (s : State) :
    KeepsReception r.kind s (s.openFrame r f) := by
  unfold State.openFrame
  split
  · exact (s.holdUp_framesOnly f).setRx { r with stage := _ }
  · exact (s.holdDown_framesOnly 0 f _).setRx { r with stage := _ }
  · exact (FramesOnly.refl s).setRx { r with stage := _ }
  · exact (FramesOnly.refl s).setRx { r with stage := _ }

theorem State.dataWord_keeps (r : Reception) (f : ArrivingFrame) (w : Word) (ok : Bool) (s : State) :
    KeepsReception r.kind s (s.dataWord r f w ok) := by
  have ends (q : State × ArrivingFrame) (only : FramesOnly s q.1) : KeepsReception r.kind s
      (if q.2.length ≤ q.2.bytes.length then (q.1.fillHeld q.2).setRx r.afterFrame
      else q.1.setRx { r with stage := .frameData q.2 }) := by
    split
    · exact (only.trans (.of_eq rfl rfl)).setRx r.afterFrame
    · exact only.setRx { r with stage := _ }
  have matched (p : State × ArrivingFrame) (only : FramesOnly s p.1) (g : ArrivingFrame) :
      FramesOnly s (p.1.matchFrame r.kind p.2, g).1 := only.trans (State.matchFrame_framesOnly ..)
  unfold State.dataWord
  refine ends _ ?_
  dsimp only
  split
  · split
    · exact matched _ (s.nameCopies_framesOnly _) _
    · exact s.nameCopies_framesOnly _
  · split
    · exact matched (s, _) (.refl s) _
    · exact .refl s

theorem countWord_kind (r : Reception) (w : Word) (ok : Bool) (n limit : Nat) (stage : RxStage) :
    (countWord r w ok n limit stage).kind = r.kind := by
  unfold countWord
  split <;> rfl

theorem State.stageWord_keeps (r : Reception) (w : Word) (ok : Bool) (s : State) :
    KeepsReception r.kind s (s.stageWord r w ok) := by
  have counted (q : Reception) (same : q.kind = r.kind) : KeepsReception r.kind s (s.setRx q) :=
    same ▸ (FramesOnly.refl s).setRx q
  have opened (q : Reception) (same : q.kind = r.kind) (f : ArrivingFrame) : KeepsReception r.kind s (s.openFrame q f) :=
    same ▸ State.openFrame_keeps q f s
  unfold State.stageWord
  split
  case h_1 => exact counted _ (countWord_kind ..)
  case h_3 =>
    unfold State.lengthWord
    dsimp only
    split
    · exact counted r.lose rfl
    · exact opened _ (by rfl) _
  case h_4 => exact s.dataWord_keeps r _ w ok
  case h_6 | h_9 => exact counted _ (countWord_kind ..)
  all_goals exact counted _ rfl

theorem State.takeWord_bounded {r : Reception} (w : Word) (p : Bool) {s : State} (receives : s.cbi.rx = some r) :
    BoundsKept s (s.takeWord r w p) := by
  unfold State.takeWord
  dsimp only
  split
  · exact .refl s
  · exact State.stageWord_keeps { r with bad := _ } w _ s (by simp [receives])

/-! ## The end of a reception -/

theorem State.goodEnd_bounded (caller : StationId) (s : State) : BoundsKept s (s.goodEnd caller) := by
  have joined (t : State) (x : Held) : (t.joinHeld caller x).stores = t.stores := by
    unfold State.joinHeld
    split
    · split
      · exact State.acceptUplink_stores ..
      · rfl
    · split <;> rfl
  have woken (t : State) (w : PendingWake) : (t.applyWake w).stores = t.stores := by
    unfold State.applyWake
    split <;> rfl
  unfold State.goodEnd
  dsimp only
  refine .of_eq ?_
  rw [State.foldl_stores _ woken, State.foldl_stores _ joined]
  rfl

/-- An order buffer and a report buffer that take one entry each at most, when that entry was reserved (R66, R70). -/
theorem BoundsKept.of_entries {s t : State} (reports : t.stores.reports = s.stores.reports)
    (executing : t.stores.executing = s.stores.executing) (ten : t.ten = s.ten)
    (management : t.gwu.orders = s.gwu.orders) (orders : t.orderEntries ≤ s.orderEntries)
    (gateway : t.reportEntries ≤ s.reportEntries)
    (spent : s.stores.SpentFits → t.stores.SpentFits) : BoundsKept s t := by
  refine ⟨fun fit => ?_, fun fit => ?_, fun ⟨ordersFit, managementFit, gatewayFit⟩ => ⟨?_, ?_, ?_⟩, fun fit => ?_, spent⟩
  · unfold StoreView.ReportsFit; rwa [reports, executing]
  · unfold StoreView.TestsFit State.stores; rw [ten]; exact fit
  · exact orders.trans ordersFit
  · show t.gwu.orders.length ≤ 8
    rw [management]
    exact managementFit
  · exact gateway.trans gatewayFit
  · unfold StoreView.LogFits State.stores; rw [ten]; exact fit

/-- A callee in a reception of a kind has that kind's entry reserved (R66). -/
theorem Cbi.reserves_of_callee {c : Cbi} {r : Reception} (callee : c.part = .callee) (rx : c.rx = some r) :
    c.reserves r.kind = true := by
  simp [Cbi.reserves, callee, rx]

/-- A GOOD close places what was received in the entry reserved for it (R66, R70). -/
theorem State.closeGood_bounded {r : Reception} {s : State} (callee : s.cbi.part = .callee) (rx : s.cbi.rx = some r) :
    BoundsKept s (s.closeGood r) := by
  have held := Cbi.reserves_of_callee callee rx
  unfold State.closeGood State.placeReceived
  split
  · rename_i kind
    rw [kind] at held
    refine .of_entries rfl rfl rfl rfl ?_ (Nat.add_le_add_left ?_ _) id
    · simp only [State.orderEntries, held, if_true]
      simp [State.driveClose, State.strobe, State.emit, Cbi.reserves]
    · simp [State.driveClose, State.strobe, State.emit, Cbi.reserves]
  · rename_i kind
    rw [kind] at held
    split
    · refine .of_entries rfl rfl rfl rfl (Nat.add_le_add_left ?_ _) ?_ id
      · simp [State.driveClose, State.strobe, State.emit, Cbi.reserves]
      · simp only [State.reportEntries, held, if_true]
        simp [State.driveClose, State.strobe, State.emit, Cbi.reserves]
    · refine .of_entries rfl rfl rfl rfl (Nat.add_le_add_left ?_ _) (Nat.add_le_add_left ?_ _) id
      · simp [State.driveClose, State.strobe, State.emit, Cbi.reserves]
      · rw [held]
        simp [State.driveClose, State.strobe, State.emit, Cbi.reserves]
  · have closed : BoundsKept s (s.driveClose true) := by
      refine .of_cbi (s := s) (s.driveClose true).cbi (Nat.le_refl _) (fun k reserved => ?_) id
      rw [s.reserves_driveClose_good] at reserved
      cases reserved
    exact closed.trans (State.goodEnd_bounded r.caller _)

/-- At a BAD close the entry stays reserved until the call ends (R66). -/
theorem State.closeBad_bounded {r : Reception} {s : State} (callee : s.cbi.part = .callee) (rx : s.cbi.rx = some r) :
    BoundsKept s s.closeBad := by
  refine .of_cbi (s := s) (s.closeBad).cbi (Nat.le_refl _) (fun k reserved => ?_) id
  have kept : s.closeBad.cbi.reservedOver = s.cbi.reservedKind := rfl
  have none : s.closeBad.cbi.rx = none := rfl
  simp only [Cbi.reserves, kept, none, Cbi.reservedKind, rx, Option.any_none, Bool.and_false, Bool.false_or, Option.map_some,
    Option.filter_some, beq_iff_eq] at reserved
  split at reserved
  · rw [← Option.some.inj reserved]
    exact Cbi.reserves_of_callee callee rx
  · cases reserved

theorem State.closeIfComplete_bounded (s : State) : BoundsKept s s.closeIfComplete := by
  unfold State.closeIfComplete
  split
  · rename_i r callee rx
    split
    · split
      · exact .of_eq rfl
      · exact s.closeGood_bounded callee rx
    · exact .refl s
  · exact .refl s

theorem State.endReception_bounded (s : State) : BoundsKept s s.endReception := by
  unfold State.endReception
  split
  · split
    · split
      · exact s.goodEnd_bounded _
      · exact .of_eq rfl
    · split <;> exact .of_eq rfl
  · exact .of_eq rfl
  · exact .refl s

@[simp] theorem State.cutReception_stores (s : State) : s.cutReception.stores = s.stores := by
  unfold State.cutReception
  split
  · split <;> rfl
  · rfl
  · rfl

/-! ## Call words -/

theorem State.listen_bounded (k : CallKind) (rx : Option Reception) (s : State) : BoundsKept s (s.listen k rx) :=
  .leaves _ (by simp) rfl (.inl rfl) rfl id

/-- An ORDER is answered TAKE with an entry of the order buffer free, a REPORT with one of the gateway report buffer
(R66). -/
theorem State.answer_bounded (k : CallKind) (caller : StationId) (s : State) : BoundsKept s (s.answer k caller) := by
  have start : (Reception.start k caller).kind = k := rfl
  have entries (j : CallKind) (taken limit : Nat) (room : k = j → (s.answerOf k).1 = true → taken < limit)
      (fit : taken + (if s.cbi.reserves j = true then 1 else 0) ≤ limit) :
      taken + (if (s.answer k caller).cbi.reserves j = true then 1 else 0) ≤ limit := by
    have taking : (s.answer k caller).cbi.reserves j =
        (((s.answerOf k).1 && k == j) || s.cbi.reservedOver == some j) := by
      simp only [State.answer, State.strobe, State.emit, Cbi.reserves]
      cases (s.answerOf k).1 <;> simp [start]
    rw [taking]
    by_cases kept : s.cbi.reservedOver = some j
    · simp only [Cbi.reserves, kept, beq_self_eq_true, Bool.or_true] at fit ⊢
      exact fit
    · by_cases taken' : k = j ∧ (s.answerOf k).1 = true
      · have := room taken'.1 taken'.2
        split <;> omega
      · have idle : ((s.answerOf k).1 && k == j) = false := by
          cases e : (s.answerOf k).1 <;> simp_all
        simp only [idle, Bool.false_or, beq_iff_eq, kept, if_false]
        omega
  refine ⟨id, id, fun ⟨ordersFit, managementFit, gatewayFit⟩ => ⟨?_, managementFit, ?_⟩, id, id⟩
  · exact entries .order s.cbi.orders.length 4 (fun e taking => by subst e; simp [State.answerOf] at taking; omega) ordersFit
  · exact entries .report s.gwu.reports.length 32 (fun e taking => by subst e; simp [State.answerOf] at taking; omega) gatewayFit

theorem State.takeCall_bounded (w : Word) (s : State) : BoundsKept s (s.takeCall w) := by
  unfold State.takeCall
  dsimp only
  split
  · split
    · exact s.answer_bounded ..
    · exact s.listen_bounded ..
  · exact s.listen_bounded ..

/-! ## Contention -/

@[simp] theorem State.observeBus_stores (s : State) : s.observeBus.stores = s.stores := by
  have same (c : Cbi) (h : c = s.cbi ∨ c = { s.cbi with phase := .free, freeSince := some s.now }) :
      State.stores { s with cbi := c } = s.stores := by
    rcases h with rfl | rfl <;> rfl
  refine same _ ?_
  split
  · exact .inr rfl
  · exact .inl rfl

theorem State.openWindow_bounded (s : State) : BoundsKept s s.openWindow := .leaves _ (by simp) rfl (.inl rfl) rfl id

/-- A bulk call is chosen below the allowance only, which is 4 at most (R63). -/
theorem State.spent_of_chooseCall {s : State} {k : Contending} (chosen : s.chooseCall = some k) (bulk : k.urgent = false) :
    s.cbi.spent < 4 := by
  by_contra full
  have spentUp : ¬s.cbi.spent < s.allowance := by
    unfold State.allowance
    split <;> omega
  simp only [State.chooseCall, spentUp, if_false] at chosen
  repeat' split at chosen
  all_goals cases chosen <;> cases bulk

theorem State.contend_bounded {k : Contending} {s : State} (chosen : k.urgent = false → s.cbi.spent < 4) :
    BoundsKept s (s.contend k) := by
  refine .of_cbi (s := s) _ (Nat.le_refl _) (fun j => Cbi.reserves_of_leaves (by simp) (.inl rfl))
    fun fit => ⟨fit.1, fun bulk => chosen ?_⟩
  simpa [State.contend] using bulk

theorem State.loseContention_bounded (s : State) : BoundsKept s s.loseContention := by
  obtain ⟨c, q, w, h, -⟩ := s.withdrawContended_spec
  have withdrawn : BoundsKept s s.withdrawContended := .of_eq (by rw [h]; rfl)
  refine withdrawn.trans (.leaves _ ?_ rfl (.inl rfl) rfl ?_) <;> simp

theorem State.winNothing_bounded (s : State) : BoundsKept s s.winNothing := s.loseContention_bounded.trans (.of_eq rfl)

/-- The call begun ends the contention, with the spent count within the allowance (R63, R65). -/
theorem State.makeCall_bounded (b : CallBody) (target : StationId) (ws : List Word) {s t : State}
    (orh : t.orh = s.orh) (ten : t.ten = s.ten) (orders : t.gwu.orders = s.gwu.orders)
    (reports : t.gwu.reports = s.gwu.reports) (entries : t.cbi.orders = s.cbi.orders)
    (kept : t.cbi.reservedOver = s.cbi.reservedOver) (spent : s.stores.SpentFits → t.cbi.spent ≤ 4) :
    BoundsKept s (t.makeCall b target ws) := by
  have leaves (k : CallKind) (held : (t.makeCall b target ws).cbi.reserves k = true) : s.cbi.reserves k = true :=
    Cbi.reserves_of_leaves (c := s.cbi) (d := (t.makeCall b target ws).cbi)
      (by simp [State.makeCall, State.strobe, State.emit]) (.inl kept) held
  have fewer (k : CallKind) : (if (t.makeCall b target ws).cbi.reserves k = true then 1 else 0) ≤
      if s.cbi.reserves k = true then 1 else 0 := by
    by_cases held : (t.makeCall b target ws).cbi.reserves k = true
    · rw [if_pos held, if_pos (leaves k held)]
    · rw [if_neg held]
      exact Nat.zero_le _
  refine .of_entries ?_ ?_ ten orders (Nat.add_le_add ?_ (fewer .order)) (Nat.add_le_add ?_ (fewer .report))
    fun fit => ⟨spent fit, ?_⟩
  · exact congrArg Orh.queue orh
  · exact congrArg (fun o : Orh => o.executing.isSome) orh
  · exact (congrArg List.length entries).le
  · exact (congrArg List.length reports).le
  · simp [State.stores, State.makeCall, State.strobe, State.emit]

/-- The station has won: its contention is over, and a bulk win is charged within the allowance (R62, R63). -/
theorem State.win_bounded {k : Contending} {s : State} (contends : s.cbi.contending = some k) : BoundsKept s (s.win k) := by
  have charged (bulk : k.urgent = false) (fit : s.stores.SpentFits) : s.cbi.spent + 1 ≤ 4 :=
    fit.2 (by simp [State.stores, contends, bulk])
  unfold State.win
  split
  · split
    · exact State.makeCall_bounded _ _ _ rfl rfl rfl rfl rfl rfl And.left
    · exact s.winNothing_bounded
  · split
    · exact State.makeCall_bounded _ _ _ rfl rfl rfl rfl rfl rfl And.left
    · exact s.winNothing_bounded
  · split
    · exact State.makeCall_bounded _ _ _ rfl rfl rfl rfl rfl rfl And.left
    · exact s.winNothing_bounded
  · split
    · exact State.makeCall_bounded _ _ _ rfl rfl rfl rfl rfl rfl And.left
    · exact s.winNothing_bounded
  · split
    · exact State.makeCall_bounded _ _ _ rfl rfl rfl rfl rfl rfl And.left
    · exact s.winNothing_bounded
  · exact State.makeCall_bounded _ _ _ rfl rfl rfl rfl rfl rfl (charged rfl)
  · unfold State.callGateway
    split
    · dsimp only
      split <;> exact State.makeCall_bounded _ _ _ rfl rfl rfl rfl rfl rfl (charged rfl)
    · exact State.makeCall_bounded _ _ _ rfl rfl rfl rfl rfl rfl (charged rfl)

/-! ## The gateway's orders and reports -/

/-- A change of the Gateway Unit that keeps its lists within their sizes. -/
theorem BoundsKept.of_gwu {s : State} (g : Gwu) (orders : s.gwu.orders.length ≤ 8 → g.orders.length ≤ 8)
    (reports : s.reportEntries ≤ 32 → g.reports.length + (if s.cbi.reserves .report then 1 else 0) ≤ 32) :
    BoundsKept s { s with gwu := g } :=
  ⟨id, id, fun ⟨ordersFit, managementFit, gatewayFit⟩ => ⟨ordersFit, orders managementFit, reports gatewayFit⟩, id, id⟩

theorem State.handlerReport_bounded (tag : Word) (station code : Byte) (result : Result) (s : State) :
    BoundsKept s (s.handlerReport tag station code result) := by
  unfold State.handlerReport
  split
  · rename_i room
    refine .of_gwu _ id fun _ => ?_
    unfold State.reportEntries at room
    simp only [List.length_append, List.length_singleton]
    omega
  · exact .of_gwu _ id id

theorem State.manage_bounded (bytes : List Byte) (s : State) : BoundsKept s (s.manage bytes) := by
  have offered (m : MgmtOrder) (t : State) : BoundsKept t (t.offerOrder m) := by
    unfold State.offerOrder
    split
    · exact .of_gwu _ (fun _ => by simp only [List.length_append, List.length_singleton]; omega) id
    · exact t.handlerReport_bounded ..
  unfold State.manage
  split
  · exact .of_eq rfl
  · dsimp only
    split
    · refine BoundsKept.trans ?_ (State.handlerReport_bounded ..)
      exact .of_eq rfl
    · split
      · refine BoundsKept.trans ?_ (State.handlerReport_bounded ..)
        exact .of_eq rfl
      · refine BoundsKept.trans ?_ (offered _ _)
        exact .of_eq rfl

@[simp] theorem State.dropGiven_stores (s : State) : s.dropGiven.stores = s.stores := by
  unfold State.dropGiven
  split <;> rfl

@[simp] theorem State.cutGiving_stores (s : State) : s.cutGiving.stores = s.stores := by
  unfold State.cutGiving
  split
  · rfl
  · rfl
  · exact s.dropGiven_stores

@[simp] theorem State.queueFrameSent_stores (s : State) : s.queueFrameSent.stores = s.stores := by
  unfold State.queueFrameSent
  split
  · rfl
  · exact s.dropGiven_stores

theorem State.reportSent_bounded (s : State) : BoundsKept s s.reportSent := by
  unfold State.reportSent
  dsimp only
  refine BoundsKept.trans ?_ (State.restartIfLeft_bounded _ _)
  refine .of_gwu _ id fun fit => ?_
  have fewer : s.gwu.reports.tail.length ≤ s.gwu.reports.length := by simp
  exact (Nat.add_le_add_right fewer _).trans fit

theorem State.roleChange_bounded (wasWorking : Bool) (s : State) : BoundsKept s (s.roleChange wasWorking) := by
  have emptied (t : State) (orders : t.stores = { s.stores with
      management := 0, gateway := if s.cbi.reserves .report then 1 else 0 }) : BoundsKept s t := by
    unfold BoundsKept
    rw [orders]
    refine ⟨id, id, fun fit => ⟨fit.1, by simp, ?_⟩, id, id⟩
    dsimp only
    split <;> omega
  have none : (if s.cbi.reserves .report then 1 else 0) = 0 + if s.cbi.reserves .report then 1 else 0 := by omega
  unfold State.roleChange
  split
  · exact emptied _ (by rw [none]; rfl)
  · split
    · exact emptied _ (by rw [none]; rfl)
    · exact .refl s

/-! ## The outcomes of calls -/

theorem State.leaveCall_bounded (s : State) : BoundsKept s s.leaveCall := .leaves _ (by simp) rfl (.inl rfl) rfl id

theorem State.actOn_bounded (o : CallOutcome) (c : OwnCall) (s : State) : BoundsKept s (s.actOn o c) := by
  unfold State.actOn
  split
  · exact .of_eq s.sendBurst_stores
  · exact .of_eq s.sendBurst_stores
  · exact .of_eq s.failBurst_stores
  · exact .of_eq s.failBurst_stores
  · exact .of_eq rfl
  · rename_i m _
    have erased : BoundsKept s { s with gwu := { s.gwu with orders := s.gwu.orders.erase m } } :=
      .of_gwu _ (fun fit => (List.length_erase_le).trans fit) id
    unfold State.orderOutcome
    split
    · dsimp only
      split
      · exact erased
      · exact erased.trans (State.handlerReport_bounded ..)
      · exact .refl s
    · exact .refl s
  · unfold State.reportOutcome
    split
    · refine BoundsKept.trans (.of_orh (s := s) { s.orh with queue := s.orh.queue.tail } fun ⟨entries, events⟩ => ?_)
        (State.restartIfLeft_bounded _ _)
      have fewer : s.orh.queue.tail.Sublist s.orh.queue := List.tail_sublist _
      exact ⟨(Nat.add_le_add_right fewer.length_le _).trans entries, (fewer.filter _).length_le.trans events⟩
    · exact .refl s
  · exact .refl s

theorem State.endCall_bounded (o : CallOutcome) (c : OwnCall) (s : State) : BoundsKept s (s.endCall o c) := by
  unfold State.endCall
  refine BoundsKept.trans (BoundsKept.trans ?_ (State.leaveCall_bounded _)) (State.actOn_bounded o c _)
  exact .of_eq rfl

@[simp] theorem State.startTransfer_stores (c : OwnCall) (room : Nat) (s : State) :
    (s.startTransfer c room).stores = s.stores := by
  unfold State.startTransfer
  dsimp only
  split <;> rfl

theorem State.lastWordSent_bounded (c : OwnCall) (s : State) : BoundsKept s (s.lastWordSent c) := by
  unfold State.lastWordSent State.wentOut
  split
  · exact .of_eq rfl
  · refine s.leaveCall_bounded.trans ?_
    split
    · exact State.claimOut_bounded _ _
    · exact .of_eq (State.quietOut_stores _ _)
    · exact .of_eq (State.sendBurst_stores _)
    · exact .refl _

theorem State.cutOwn_bounded (reset : Bool) (s : State) : BoundsKept s (s.cutOwn reset) := by
  have left := s.leaveCall_bounded
  unfold State.cutOwn
  split
  · unfold State.cutCall
    dsimp only
    split
    · refine left.trans (.of_eq ?_)
      unfold putBackNotice
      split <;> rfl
    · exact left.trans (.of_eq rfl)
    · exact left.trans (.of_eq rfl)
    · exact left.trans (.of_eq (State.failBurst_stores _))
    · split
      · exact left.trans (.of_eq (State.failBurst_stores _))
      · exact s.endCall_bounded ..
    · split
      · exact left.trans (.of_eq (State.failBurst_stores _))
      · exact s.endCall_bounded ..
    · exact s.endCall_bounded ..
    · exact s.endCall_bounded ..
  · exact s.loseContention_bounded
  · exact .refl s

theorem State.busFree_bounded (s : State) : BoundsKept s s.busFree := .leaves _ (by simp) rfl (.inr rfl) rfl (by simp)

theorem State.resetCounts_bounded (s : State) : BoundsKept s s.resetCounts :=
  .of_cbi _ (Nat.le_refl _) (fun _ => id) fun _ => by simp

end Sys2Proof.Machine
end

section
/-! SUPPORT. Every command keeps the bounds of the stores; the statement on them. -/

namespace Sys2Proof.Machine

/-- A command's answer keeps the bounds of the stores. -/
def OutcomeBounded (s : State) : Host.Outcome State Fault Refusal → Prop
  | .next t => BoundsKept s t
  | .fault _ | .refused _ => True

/-- A command that ends in the examination and the standing requests. -/
theorem OutcomeBounded.settled {s t : State} (h : BoundsKept s t) : OutcomeBounded s (.next (State.settle s t)) := h.settle s

/-- A command that ends so and shows no change in the view of the stores. -/
theorem OutcomeBounded.unseen {s t : State} (h : t.stores = s.stores) : OutcomeBounded s (.next (State.settle s t)) :=
  .settled (.of_eq h)

/-- A command that changes frames and events only. -/
theorem OutcomeBounded.frames {s t : State} (h : FramesOnly s t) : OutcomeBounded s (.next (State.settle s t)) :=
  .settled h.kept

/-! ## Line ports and mode requests -/

theorem execLinkStateReport_bounded (h : HomeId) (st : LinkState) (s : State) :
    OutcomeBounded s (execLinkStateReport h st s) := by
  refine .settled (BoundsKept.trans ?_ (State.applyLink_bounded h st _))
  exact .of_eq rfl

theorem execRateReport_bounded (h : HomeId) (up down : Word) (s : State) : OutcomeBounded s (execRateReport h up down s) := by
  unfold execRateReport OutcomeBounded
  dsimp only
  split <;> exact .of_eq rfl

theorem execWakeFailure_bounded (h : HomeId) (s : State) : OutcomeBounded s (execWakeFailure h s) := by
  refine .settled ?_
  split
  · exact State.wakeFailed_bounded _ h s.fresh
  · split <;> exact .of_eq rfl

theorem execUpstreamFrame_bounded (h : HomeId) (bytes : List Byte) (s : State) :
    OutcomeBounded s (execUpstreamFrame h bytes s) := by
  refine .frames ?_
  split
  · exact .of_eq rfl rfl
  · exact .of_eq rfl rfl
  · exact .of_eq rfl rfl
  · refine FramesOnly.trans ?_ (State.takeUpstream_framesOnly h bytes s.fresh)
    exact .of_eq rfl rfl

theorem execDownstreamGiveStart_bounded (h : HomeId) (ready : Bool) (s : State) :
    OutcomeBounded s (execDownstreamGiveStart h ready s) := by
  unfold execDownstreamGiveStart OutcomeBounded
  dsimp only
  split <;> exact .of_eq rfl

theorem execDownstreamFrameTaken_bounded (h : HomeId) (s : State) : OutcomeBounded s (execDownstreamFrameTaken h s) := by
  refine .frames ?_
  split
  · exact .of_eq rfl rfl
  · refine FramesOnly.trans ?_ (State.addVolume_framesOnly h _ _)
    exact .of_eq rfl rfl

theorem execModeRequestFull_bounded (h : HomeId) (s : State) : OutcomeBounded s (execModeRequestFull h s) := by
  refine .unseen ?_
  split <;> rfl

theorem execModeRequestLow_bounded (h : HomeId) (s : State) : OutcomeBounded s (execModeRequestLow h s) := by
  refine .unseen ?_
  split <;> rfl

theorem execModeRequestSleep_bounded (h : HomeId) (s : State) : OutcomeBounded s (execModeRequestSleep h s) := by
  refine .unseen ?_
  split <;> rfl

theorem execModeRequestWake_bounded (h : HomeId) (s : State) : OutcomeBounded s (execModeRequestWake h s) := by
  refine .unseen ?_
  split <;> rfl

theorem execWakeWithdrawRequest_bounded (h : HomeId) (s : State) : OutcomeBounded s (execWakeWithdrawRequest h s) := by
  refine .unseen ?_
  split <;> rfl

theorem execWakeAbandonRequest_bounded (h : HomeId) (s : State) : OutcomeBounded s (execWakeAbandonRequest h s) := by
  refine .settled ?_
  split
  · exact State.wakeFailed_bounded _ h (s.fresh.takeRequest .abandon h)
  · exact .of_eq rfl

/-! ## STORM and the power lines -/

theorem execSurge_bounded (h : HomeId) (s : State) : OutcomeBounded s (execSurge h s) := by
  have held (t : State) : BoundsKept t (t.startHold h) := by
    unfold State.startHold
    split
    · exact .of_eq rfl
    · exact t.offer_bounded _
  refine .settled ?_
  split
  · exact .of_eq rfl
  · dsimp only
    split
    · exact held (s.fresh.count h _)
    · exact (held (s.fresh.count h _)).trans (.of_eq (State.suspend_stores _ _))

theorem execStormHoldExpiry_bounded (s : State) : OutcomeBounded s (execStormHoldExpiry s) := by
  refine .settled ?_
  split
  · dsimp only
    split <;> exact s.offer_bounded .stormEnd
  · exact .of_eq rfl

theorem execStormRise_bounded (s : State) : OutcomeBounded s (execStormRise s) := by
  refine .unseen ?_
  split
  · rfl
  · exact State.suspend_stores _ _

theorem execStormFall_bounded (s : State) : OutcomeBounded s (execStormFall s) := by
  refine .unseen ?_
  split <;> rfl

@[simp] theorem State.enterLow_stores (s : State) : s.enterLow.stores = s.stores := by
  unfold State.enterLow
  split
  · exact s.suspend_stores _
  · rfl

theorem execMainsOkFall_bounded (s : State) : OutcomeBounded s (execMainsOkFall s) := by
  refine .unseen ?_
  split
  · rw [State.powerRound_stores, State.enterLow_stores]
    rfl
  · rfl

theorem execMainsOkRise_bounded (s : State) : OutcomeBounded s (execMainsOkRise s) := by
  refine .unseen ?_
  split <;> rfl

theorem execBattLowRise_bounded (s : State) : OutcomeBounded s (execBattLowRise s) := by
  refine .unseen ?_
  split
  · rfl
  · rw [State.powerRound_stores, State.enterLow_stores]
    rfl

theorem execWakeTimeLimit_bounded (h : HomeId) (s : State) : OutcomeBounded s (execWakeTimeLimit h s) := by
  refine .unseen ?_
  split <;> rfl

/-! ## The cabinet bus -/

theorem BoundsKept.observed {s t : State} (h : BoundsKept s.fresh.observeBus t) : BoundsKept s t :=
  BoundsKept.trans (.of_eq (State.observeBus_stores s.fresh)) h

/-- The window begun with the call chosen (R62, R63). -/
theorem State.contendChosen_bounded {k : Contending} {s : State} (chosen : s.chooseCall = some k) :
    BoundsKept s (s.openWindow.contend k) :=
  s.openWindow_bounded.trans (State.contend_bounded (s := s.openWindow) (State.spent_of_chooseCall chosen))

theorem execCbBsyRise_bounded (s : State) : OutcomeBounded s (execCbBsyRise s) := by
  refine BoundsKept.observed ?_
  dsimp only
  split
  · rename_i chosen; exact State.contendChosen_bounded chosen
  · exact State.openWindow_bounded _
  · exact .of_eq rfl

theorem execContendStart_bounded (s : State) : OutcomeBounded s (execContendStart s) := by
  refine BoundsKept.observed ?_
  split
  · rename_i chosen; exact State.contendChosen_bounded chosen
  · exact .refl _

theorem execContendMidpoint_bounded (d8 : Bool) (s : State) : OutcomeBounded s (execContendMidpoint d8 s) := by
  refine .settled ?_
  split
  · exact State.loseContention_bounded s.fresh
  · exact .of_eq rfl

theorem execContendWindowEnd_bounded (ids : Byte) (s : State) : OutcomeBounded s (execContendWindowEnd ids s) := by
  have lost : BoundsKept s s.fresh.loseContention := State.loseContention_bounded s.fresh
  refine .settled ?_
  split
  · split
    · exact lost
    · exact .of_eq rfl
    · rename_i contends
      split
      · exact State.win_bounded (s := s.fresh) contends
      · exact lost.trans (.of_eq rfl)
    · exact .of_eq rfl
  · exact .of_eq rfl

theorem execCallWord_bounded (w : Word) (parity : Bool) (s : State) : OutcomeBounded s (execCallWord w parity s) := by
  have listened : BoundsKept s (s.fresh.listen (callKindOf w) none) := State.listen_bounded _ _ s.fresh
  refine .settled ?_
  split
  · split
    · exact listened.trans (.of_eq rfl)
    · split
      · exact listened.trans (.of_eq rfl)
      · exact State.takeCall_bounded w s.fresh
  · exact .of_eq rfl

theorem execAnswerWord_bounded (w : Word) (parity : Bool) (s : State) : OutcomeBounded s (execAnswerWord w parity s) := by
  refine .settled ?_
  split
  · split
    · split
      · split
        · exact .of_eq (State.startTransfer_stores _ _ s.fresh)
        · split <;> exact State.endCall_bounded _ _ s.fresh
      · exact State.endCall_bounded _ _ s.fresh
    · split <;> exact .of_eq rfl
    · exact .of_eq rfl
  · exact .of_eq rfl

theorem execAnswerWindowExpiry_bounded (s : State) : OutcomeBounded s (execAnswerWindowExpiry s) := by
  refine .settled ?_
  split
  · exact State.endCall_bounded _ _ s.fresh
  · exact .of_eq rfl

theorem execCloseWord_bounded (w : Word) (parity : Bool) (s : State) : OutcomeBounded s (execCloseWord w parity s) := by
  refine .settled ?_
  split
  · split <;> exact State.endCall_bounded _ _ s.fresh
  · split <;> exact .of_eq rfl
  · exact .of_eq rfl

theorem execCloseWindowExpiry_bounded (s : State) : OutcomeBounded s (execCloseWindowExpiry s) := by
  refine .settled ?_
  split
  · exact State.endCall_bounded _ _ s.fresh
  · exact .of_eq rfl

theorem execTransferWordSent_bounded (s : State) : OutcomeBounded s (execTransferWordSent s) := by
  refine .settled ?_
  split
  · split
    · exact .of_eq rfl
    · dsimp only
      split
      · refine BoundsKept.trans ?_ (State.lastWordSent_bounded _ _)
        exact .of_eq rfl
      · exact .of_eq rfl
  · exact .of_eq rfl

theorem execTransferWordReceived_bounded (w : Word) (parity : Bool) (s : State) :
    OutcomeBounded s (execTransferWordReceived w parity s) := by
  refine .settled ?_
  split
  · rename_i receives
    refine BoundsKept.trans ?_ (State.closeIfComplete_bounded _)
    exact State.takeWord_bounded (s := { s.fresh with cbi := { s.fresh.cbi with windowStart := s.now } }) w parity receives
  · exact .of_eq rfl

theorem execBadCloseTimeout_bounded (s : State) : OutcomeBounded s (execBadCloseTimeout s) := by
  refine .settled ?_
  split
  · rename_i callee rx
    split
    · exact State.closeBad_bounded (s := s.fresh) callee rx
    · exact .of_eq rfl
  · exact .of_eq rfl

theorem execCbBsyFall_bounded (s : State) : OutcomeBounded s (execCbBsyFall s) := by
  refine .settled ?_
  split
  · exact .of_eq rfl
  · refine (BoundsKept.trans ?_ (State.endReception_bounded _)).trans
      ((State.cutOwn_bounded false _).trans (State.busFree_bounded _))
    exact .of_eq rfl

theorem execBusReset_bounded (s : State) : OutcomeBounded s (execBusReset s) := by
  refine .settled ?_
  split
  · exact State.resetCounts_bounded s.fresh
  · refine (BoundsKept.trans ?_ (State.cutOwn_bounded true _)).trans
      ((State.busFree_bounded _).trans (State.resetCounts_bounded _))
    exact .of_eq (State.cutReception_stores s.fresh)

theorem execQuietGap_bounded (s : State) : OutcomeBounded s (execQuietGap s) := by
  unfold execQuietGap OutcomeBounded
  dsimp only
  split
  · exact .of_cbi (s := s) { s.cbi with spent := 0 } (Nat.le_refl _) (fun _ => id) fun _ => by simp
  · exact .of_eq rfl

theorem execBusWatchdogExpiry_bounded (s : State) : OutcomeBounded s (execBusWatchdogExpiry s) := by
  unfold execBusWatchdogExpiry OutcomeBounded
  dsimp only
  split <;> exact .of_eq rfl

theorem execSelfCheckStart_bounded (s : State) : OutcomeBounded s (execSelfCheckStart s) := by
  refine BoundsKept.observed ?_
  dsimp only
  split <;> exact .of_eq rfl

theorem execSelfCheckEnd_bounded (readBack : List (Word × Bool)) (s : State) :
    OutcomeBounded s (execSelfCheckEnd readBack s) := by
  refine .settled ?_
  split
  · refine BoundsKept.trans ?_ (.of_eq (State.observeBus_stores _))
    refine BoundsKept.trans ?_ (State.reply_bounded ..)
    exact .of_eq rfl
  · exact .of_eq rfl

/-! ## Peers, claims, quiets -/

theorem execNoticeHeard_bounded (caller : StationId) (n : Notice) (s : State) :
    OutcomeBounded s (execNoticeHeard caller n s) := by
  refine .settled ?_
  split
  · exact (BoundsKept.offerIf (s.pvw.dupHold = 0) .duplicateId s).trans (.of_eq rfl)
  · exact .of_eq rfl

theorem execClaimHeard_bounded (caller : StationId) (h : HomeId) (g : Group) (s : State) :
    OutcomeBounded s (execClaimHeard caller h g s) := by
  refine .unseen ?_
  split
  · exact State.withdrawClaim_stores (some caller) _
  · split
    · exact State.endTest_stores _ _
    · rfl

theorem execQuietHeard_bounded (g : Group) (ms : Word) (s : State) : OutcomeBounded s (execQuietHeard g ms s) :=
  .unseen (State.hearQuiet_stores g _ _)

theorem execClaimWithdrawalSettled_bounded (s : State) : OutcomeBounded s (execClaimWithdrawalSettled s) := by
  refine .settled ?_
  split
  · split
    · exact .of_eq rfl
    · dsimp only
      split
      · refine BoundsKept.trans ?_ (State.connect_bounded _)
        exact .of_eq rfl
      · split
        · exact .of_eq (State.examine_stores _)
        · exact .of_eq rfl
  · exact .of_eq rfl

theorem execTbusyRise_bounded (s : State) : OutcomeBounded s (execTbusyRise s) := by
  refine .unseen ?_
  split
  · exact State.withdrawClaim_stores none _
  · rfl

theorem execTbusyFall_bounded (s : State) : OutcomeBounded s (execTbusyFall s) := by
  refine .settled ?_
  split
  · refine BoundsKept.trans ?_ (State.tbusyFell_bounded _)
    exact .of_eq rfl
  · exact .of_eq rfl

/-! ## The round boundary, moves, the gateway -/

theorem State.lostRounds_stores (s : State) : s.lostRounds.stores = s.stores := by
  unfold State.lostRounds
  split
  · rfl
  · split
    · refine (State.foldl_stores (fun (t : State) h => t.freeUp .gatewayLost h) (fun _ _ => rfl) homeIds _).trans ?_
      rfl
    · rfl

theorem execRoundBoundary_bounded (s : State) : OutcomeBounded s (execRoundBoundary s) := by
  have chosen (t : State) : BoundsKept t t.choose := .offers _ t
  have watched (t : State) : BoundsKept t t.watches := .offerIf _ _ t
  have shared (t : State) : t.shareBoundary.stores = t.stores := by
    unfold State.shareBoundary
    dsimp only
    split
    · rfl
    · exact State.powerRound_stores _
  have boundary : BoundsKept s s.fresh.upsBoundary := .of_eq rfl
  have rounds := ((boundary.trans (chosen _)).trans (watched _)).trans (.of_eq (State.lostRounds_stores _))
  have latched (t : State) : BoundsKept t t.latch := .of_eq rfl
  refine .settled (((rounds.trans (State.roleChange_bounded s.working _)).trans (latched _)).trans (.of_eq ?_))
  rw [State.examine_stores, shared]

theorem execMove_bounded (s : State) : OutcomeBounded s (execMove s) := by
  refine .unseen ?_
  split
  · exact State.moveOnce_stores s.fresh
  · rfl

theorem execUplinkStateChange_bounded (up : Bool) (s : State) : OutcomeBounded s (execUplinkStateChange up s) := by
  refine .unseen ?_
  split
  · exact State.cutGiving_stores _
  · rfl

theorem execTransmitterStart_bounded (s : State) : OutcomeBounded s (execTransmitterStart s) := by
  unfold execTransmitterStart OutcomeBounded
  dsimp only
  split
  · split
    · split <;> exact .of_eq rfl
    · exact .of_eq rfl
  · exact .of_eq rfl

theorem execUplinkFrameTaken_bounded (s : State) : OutcomeBounded s (execUplinkFrameTaken s) := by
  refine .settled ?_
  split
  · exact .of_eq rfl
  · exact .of_eq (State.queueFrameSent_stores s.fresh)
  · exact State.reportSent_bounded s.fresh

theorem execUplinkFrameReceived_bounded (bytes : List Byte) (err : Bool) (s : State) :
    OutcomeBounded s (execUplinkFrameReceived bytes err s) := by
  have counted : BoundsKept s (s.fresh.countReceived bytes.length) := .of_eq rfl
  refine .settled ?_
  split
  · exact .of_eq rfl
  · split
    · exact .of_eq rfl
    · dsimp only
      split
      · exact counted.trans (State.manage_bounded bytes _)
      · exact counted.trans (State.routeFrame_framesOnly bytes _).kept

theorem execAddressAgeTick_bounded (s : State) : OutcomeBounded s (execAddressAgeTick s) := by
  unfold execAddressAgeTick OutcomeBounded
  dsimp only
  split <;> exact .of_eq rfl

/-- The oldest order for this station takes a free entry of its order buffer (R140). -/
theorem execManagementOrderHandoff_bounded (s : State) : OutcomeBounded s (execManagementOrderHandoff s) := by
  refine .settled ?_
  split
  · split
    · rename_i room
      obtain ⟨-, free, -⟩ := room
      refine ⟨id, id, fun ⟨_, managementFit, gatewayFit⟩ => ⟨?_, ?_, gatewayFit⟩, id, id⟩
      · simp only [State.stores, State.orderEntries, State.fresh_cbi, List.length_append, List.length_singleton] at free ⊢
        exact (Nat.add_right_comm _ _ _).trans_le free
      · exact (List.length_eraseP_le).trans managementFit
    · exact .of_eq rfl
  · exact .of_eq rfl

/-- The head of the own report queue takes a free entry of the gateway report buffer (R143). -/
theorem execOwnReportPass_bounded (s : State) : OutcomeBounded s (execOwnReportPass s) := by
  refine .settled ?_
  split
  · rename_i r rest _ queue
    dsimp only
    split
    · rename_i room
      have fewer : rest.Sublist s.orh.queue := by rw [queue]; exact List.sublist_cons_self r rest
      refine ⟨fun ⟨entries, events⟩ => ⟨?_, ?_⟩, id, fun ⟨ordersFit, managementFit, _⟩ => ⟨ordersFit, managementFit, ?_⟩,
        id, id⟩
      · exact (Nat.add_le_add_right fewer.length_le _).trans entries
      · exact (fewer.filter _).length_le.trans events
      · simp only [State.stores, State.reportEntries, State.fresh_gwu, List.length_append, List.length_singleton] at room ⊢
        exact (Nat.add_right_comm _ _ _).trans_le room
    · exact .of_eq rfl
  · exact .of_eq rfl

/-! ## Orders -/

/-- The head order leaves its buffer, with an entry of the report queue reserved for its reply (R182). -/
theorem execOrderStart_bounded (s : State) : OutcomeBounded s (execOrderStart s) := by
  refine .settled ?_
  split
  · rename_i o rest orders
    dsimp only
    split
    · rename_i room
      obtain ⟨idle, -, entries⟩ := room
      refine ⟨fun ⟨_, events⟩ => ⟨?_, events⟩, id, fun ⟨ordersFit, managementFit, gatewayFit⟩ =>
        ⟨?_, managementFit, gatewayFit⟩, id, id⟩
      · have taken : s.orh.queue.length < 16 := by simpa [Orh.entries, idle] using entries
        exact taken
      · simp only [State.stores, State.orderEntries, orders, List.length_cons] at ordersFit ⊢
        exact (Nat.add_le_add_right (Nat.le_succ _) _).trans ordersFit
    · exact .of_eq rfl
  · exact .of_eq rfl

/-- An order carried out keeps the bounds if its own effect does (R182). -/
theorem State.execute_bounded {code args : Nat} {homeArg : Bool} {f : Order → State → State} (s : State)
    (effect : ∀ o t, BoundsKept t (f o t)) :
    OutcomeBounded s (.next (State.settle s (s.execute code args homeArg f))) := by
  refine .settled ?_
  unfold State.execute
  dsimp only
  split
  · split
    · exact State.reply_bounded _ _ s.fresh
    · exact effect _ s.fresh
  · exact .of_eq rfl

/-- A reply to an order whose effect on the stores is none. -/
theorem State.reply_after {s t : State} (h : t.stores = s.stores) (r : Result) (d : ReplyData) :
    BoundsKept s (t.reply r d) :=
  BoundsKept.trans (.of_eq h) (t.reply_bounded r d)

theorem execLineStatus_bounded (s : State) : OutcomeBounded s (execLineStatus s) := by
  refine State.execute_bounded s fun o t => ?_
  split <;> exact t.reply_bounded _ _

theorem execReadCounters_bounded (s : State) : OutcomeBounded s (execReadCounters s) := by
  refine State.execute_bounded s fun o t => ?_
  split
  · exact t.reply_bounded _ _
  · have replied (d : ReplyData) : BoundsKept t (t.reply .done d) := t.reply_bounded .done d
    dsimp only
    split
    · exact (replied _).trans (.of_eq rfl)
    · exact replied _

theorem execSetTier_bounded (s : State) : OutcomeBounded s (execSetTier s) :=
  State.execute_bounded s fun _ _ => State.reply_after (by rfl) _ _

theorem execLineAdmin_bounded (s : State) : OutcomeBounded s (execLineAdmin s) := by
  refine State.execute_bounded s fun o t => ?_
  dsimp only
  split
  · exact t.reply_bounded _ _
  · split
    · exact t.reply_bounded _ _
    · refine State.reply_after ?_ _ _
      split
      · unfold State.disableHome
        split
        · rfl
        · exact State.abortForAdmin_stores _ t
      · unfold State.enableHome
        split <;> rfl

theorem execTestLine_bounded (s : State) : OutcomeBounded s (execTestLine s) := by
  refine State.execute_bounded s fun o t => ?_
  dsimp only
  split
  · exact t.reply_bounded _ _
  · split
    · exact t.reply_bounded _ _
    · split
      · exact t.reply_bounded _ _
      · rename_i queued
        exact (State.request_bounded queued).trans (State.reply_bounded ..)

theorem State.cancelEntry_bounded (e : TestEntry) (s : State) : BoundsKept s (s.cancelEntry e) := by
  have withdrawn (p : Prop) [Decidable p] : BoundsKept s (if p then s.withdrawClaim none else s) := by
    split
    · exact .of_eq (s.withdrawClaim_stores none)
    · exact .refl s
  have recorded (t : State) : BoundsKept t (t.removedRecord e) := by
    unfold State.removedRecord
    split
    · exact t.writeCancelled_bounded ..
    · exact .refl t
  exact (withdrawn _).trans ((State.filterTests_bounded _ _).trans (recorded _))

@[simp] theorem State.cancelCurrent_stores (h : HomeId) (s : State) : (s.cancelCurrent h).stores = s.stores := by
  unfold State.cancelCurrent
  split
  · split
    · exact s.endTest_stores _
    · split
      · exact s.updTest_stores _
      · rfl
  · rfl

theorem execCancelTest_bounded (s : State) : OutcomeBounded s (execCancelTest s) := by
  refine State.execute_bounded s fun o t => ?_
  refine BoundsKept.trans (BoundsKept.trans ?_ (.of_eq (State.cancelCurrent_stores _ _))) (State.reply_bounded ..)
  split
  · exact t.cancelEntry_bounded _
  · exact .refl t

theorem execReadResults_bounded (s : State) : OutcomeBounded s (execReadResults s) := by
  refine State.execute_bounded s fun o t => ?_
  refine State.reply_after ?_ _ _
  simp only [State.stores, List.length_map]
  rfl

theorem execStageVolumeStep_bounded (s : State) : OutcomeBounded s (execStageVolumeStep s) := by
  have staged (h : HomeId) (m : UpsHome) (t : State) : BoundsKept t (t.stageStep h m) := .offers _ t
  refine State.execute_bounded s fun o t => ?_
  dsimp only
  split
  · exact t.reply_bounded _ _
  · exact (staged _ _ t).trans (State.reply_bounded ..)

theorem execClearVolumeSteps_bounded (s : State) : OutcomeBounded s (execClearVolumeSteps s) :=
  State.execute_bounded s fun _ _ => State.reply_after (by rfl) _ _

theorem execNewAccountingPeriod_bounded (s : State) : OutcomeBounded s (execNewAccountingPeriod s) :=
  State.execute_bounded s fun _ _ => State.reply_after (by rfl) _ _

theorem execWriteFilter_bounded (s : State) : OutcomeBounded s (execWriteFilter s) := by
  refine State.execute_bounded s fun o t => ?_
  dsimp only
  split
  · exact t.reply_bounded _ _
  · split
    · exact t.reply_bounded _ _
    · split
      · exact t.reply_bounded _ _
      · exact State.reply_after (by rfl) _ _

theorem execFilterEnable_bounded (s : State) : OutcomeBounded s (execFilterEnable s) := by
  refine State.execute_bounded s fun o t => ?_
  dsimp only
  split
  · exact t.reply_bounded _ _
  · exact State.reply_after (by rfl) _ _

theorem execReadPeers_bounded (s : State) : OutcomeBounded s (execReadPeers s) :=
  State.execute_bounded s fun _ t => t.reply_bounded _ _

theorem execBusSelfCheck_bounded (s : State) : OutcomeBounded s (execBusSelfCheck s) := by
  refine State.execute_bounded s fun o t => ?_
  split <;> exact .of_eq rfl

theorem execRestart_bounded (s : State) : OutcomeBounded s (execRestart s) :=
  State.execute_bounded s fun _ t => (t.reply_bounded .done .restarting).trans (.of_eq rfl)

theorem execUnknownOrder_bounded (s : State) : OutcomeBounded s (execUnknownOrder s) :=
  State.execute_bounded s fun _ t => t.reply_bounded _ _

theorem execRestartLimitExpiry_bounded (s : State) : OutcomeBounded s (execRestartLimitExpiry s) := by
  refine .settled ?_
  split
  · exact State.softRestart_bounded s.fresh
  · exact .of_eq rfl

/-! ## Test steps -/

theorem execRelaySettleEnd_bounded (s : State) : OutcomeBounded s (execRelaySettleEnd s) := by
  refine .unseen ?_
  split
  · split
    · exact State.updTest_stores _ s.fresh
    · exact State.measure_stores s.fresh
  · rfl

theorem execQuietSettleEnd_bounded (s : State) : OutcomeBounded s (execQuietSettleEnd s) := by
  refine .unseen ?_
  split
  · exact State.measure_stores s.fresh
  · rfl

theorem execStepSettleEnd_bounded (s : State) : OutcomeBounded s (execStepSettleEnd s) := by
  unfold execStepSettleEnd OutcomeBounded
  dsimp only
  split
  · exact .of_eq (State.updTest_stores _ s.fresh)
  · exact .of_eq rfl

theorem execHeadReadResponse_bounded (v i ac : Word) (ready : Bool) (s : State) :
    OutcomeBounded s (execHeadReadResponse v i ac ready s) := by
  refine .unseen ?_
  split
  · split
    · exact State.takeReading_stores _ _ v i ac s.fresh
    · rfl
  · rfl

theorem execHeadReadTimeout_bounded (s : State) : OutcomeBounded s (execHeadReadTimeout s) := by
  refine .unseen ?_
  split
  · exact State.endTest_stores _ s.fresh
  · rfl

theorem execCrossRise_bounded (s : State) : OutcomeBounded s (execCrossRise s) := by
  unfold execCrossRise OutcomeBounded
  dsimp only
  split
  · exact .of_eq (State.updTest_stores _ s.fresh)
  · exact .of_eq rfl

theorem execCrossFall_bounded (s : State) : OutcomeBounded s (execCrossFall s) := by
  refine .unseen ?_
  split
  · exact State.completeStep_stores _ _ _
  · rfl

theorem execCapTimeout_bounded (s : State) : OutcomeBounded s (execCapTimeout s) := by
  refine .unseen ?_
  split
  · exact State.completeStep_stores _ _ _
  · exact State.completeStep_stores _ _ _
  · rfl

theorem execReleaseSettleEnd_bounded (s : State) : OutcomeBounded s (execReleaseSettleEnd s) := by
  have released (p : Prop) [Decidable p] (h : HomeId) :
      BoundsKept s (if p then s.fresh else s.fresh.releaseHome h) := by
    split
    · exact .of_eq rfl
    · exact .of_eq (State.releaseHome_stores h s.fresh)
  refine .settled ?_
  split
  · rename_i c _ current
    have freed := (released (c.outcome = some .abortedAdmin) c.home).trans (State.releaseBus_bounded _)
    refine freed.trans (State.fileTest_bounded c ?_)
    rw [State.releaseBus_testing]
    split
    · exact congrArg Option.isSome current
    · rw [State.releaseHome_stores]
      exact congrArg Option.isSome current
  · exact .of_eq rfl

/-! ## Every command, every step -/

theorem exec_bounded (c : Instr) (s : State) : OutcomeBounded s (exec c s) := by
  cases c with
  | powerOn pins => exact startUp_bounded _ _ _ fun _ => by simp [Kept.none]
  | linkStateReport h st => exact execLinkStateReport_bounded h st s
  | rateReport h up down => exact execRateReport_bounded h up down s
  | activity h => exact .unseen rfl
  | wakeFailure h => exact execWakeFailure_bounded h s
  | upstreamFrame h bytes => exact execUpstreamFrame_bounded h bytes s
  | downstreamGiveStart h ready => exact execDownstreamGiveStart_bounded h ready s
  | downstreamFrameTaken h => exact execDownstreamFrameTaken_bounded h s
  | modeRequestFull h => exact execModeRequestFull_bounded h s
  | modeRequestLow h => exact execModeRequestLow_bounded h s
  | modeRequestSleep h => exact execModeRequestSleep_bounded h s
  | modeRequestWake h => exact execModeRequestWake_bounded h s
  | wakeWithdrawRequest h => exact execWakeWithdrawRequest_bounded h s
  | wakeAbandonRequest h => exact execWakeAbandonRequest_bounded h s
  | surge h => exact execSurge_bounded h s
  | stormHoldExpiry => exact execStormHoldExpiry_bounded s
  | stormRise => exact execStormRise_bounded s
  | stormFall => exact execStormFall_bounded s
  | excuseWindowExpiry => exact .of_eq rfl
  | cbBsyRise => exact execCbBsyRise_bounded s
  | contendStart => exact execContendStart_bounded s
  | contendMidpoint d8 => exact execContendMidpoint_bounded d8 s
  | contendWindowEnd ids => exact execContendWindowEnd_bounded ids s
  | callWord w parity => exact execCallWord_bounded w parity s
  | answerWord w parity => exact execAnswerWord_bounded w parity s
  | answerWindowExpiry => exact execAnswerWindowExpiry_bounded s
  | transferWordSent => exact execTransferWordSent_bounded s
  | transferWordReceived w parity => exact execTransferWordReceived_bounded w parity s
  | badCloseTimeout => exact execBadCloseTimeout_bounded s
  | closeWord w parity => exact execCloseWord_bounded w parity s
  | closeWindowExpiry => exact execCloseWindowExpiry_bounded s
  | cbBsyFall => exact execCbBsyFall_bounded s
  | noticeHeard caller n => exact execNoticeHeard_bounded caller n s
  | claimHeard caller h g => exact execClaimHeard_bounded caller h g s
  | quietHeard g ms => exact execQuietHeard_bounded g ms s
  | claimWithdrawalSettled => exact execClaimWithdrawalSettled_bounded s
  | quietGap => exact execQuietGap_bounded s
  | busWatchdogExpiry => exact execBusWatchdogExpiry_bounded s
  | busReset => exact execBusReset_bounded s
  | selfCheckStart => exact execSelfCheckStart_bounded s
  | selfCheckEnd readBack => exact execSelfCheckEnd_bounded readBack s
  | roundBoundary => exact execRoundBoundary_bounded s
  | creditIntervalEnd => exact .unseen rfl
  | move => exact execMove_bounded s
  | uplinkStateChange up => exact execUplinkStateChange_bounded up s
  | transmitterStart => exact execTransmitterStart_bounded s
  | uplinkFrameTaken => exact execUplinkFrameTaken_bounded s
  | uplinkFrameReceived bytes err => exact execUplinkFrameReceived_bounded bytes err s
  | addressAgeTick => exact execAddressAgeTick_bounded s
  | managementOrderHandoff => exact execManagementOrderHandoff_bounded s
  | ownReportPass => exact execOwnReportPass_bounded s
  | orderStart => exact execOrderStart_bounded s
  | lineStatus => exact execLineStatus_bounded s
  | readCounters => exact execReadCounters_bounded s
  | setTier => exact execSetTier_bounded s
  | lineAdmin => exact execLineAdmin_bounded s
  | testLine => exact execTestLine_bounded s
  | cancelTest => exact execCancelTest_bounded s
  | readResults => exact execReadResults_bounded s
  | stageVolumeStep => exact execStageVolumeStep_bounded s
  | clearVolumeSteps => exact execClearVolumeSteps_bounded s
  | newAccountingPeriod => exact execNewAccountingPeriod_bounded s
  | writeFilter => exact execWriteFilter_bounded s
  | filterEnable => exact execFilterEnable_bounded s
  | readPeers => exact execReadPeers_bounded s
  | busSelfCheck => exact execBusSelfCheck_bounded s
  | restart => exact execRestart_bounded s
  | unknownOrder => exact execUnknownOrder_bounded s
  | restartLimitExpiry => exact execRestartLimitExpiry_bounded s
  | relaySettleEnd => exact execRelaySettleEnd_bounded s
  | quietSettleEnd => exact execQuietSettleEnd_bounded s
  | quietEndExpiry g => exact .unseen (State.endQuiet_stores s.fresh g)
  | stepSettleEnd => exact execStepSettleEnd_bounded s
  | headReadResponse v i ac ready => exact execHeadReadResponse_bounded v i ac ready s
  | headReadTimeout => exact execHeadReadTimeout_bounded s
  | crossRise => exact execCrossRise_bounded s
  | crossFall => exact execCrossFall_bounded s
  | capTimeout => exact execCapTimeout_bounded s
  | holdTimeLimit => exact .unseen (State.endTest_stores _ s.fresh)
  | releaseSettleEnd => exact execReleaseSettleEnd_bounded s
  | tbusyRise => exact execTbusyRise_bounded s
  | tbusyFall => exact execTbusyFall_bounded s
  | mainsOkFall => exact execMainsOkFall_bounded s
  | mainsOkRise => exact execMainsOkRise_bounded s
  | battLowRise => exact execBattLowRise_bounded s
  | battLowFall => exact .unseen rfl
  | wakeTimeLimit h => exact execWakeTimeLimit_bounded h s
  | idleTimerExpiry h => exact .unseen rfl

theorem step_bounded {s t : State} (h : step s = .next t) : BoundsKept s t := by
  unfold step at h
  split at h
  · cases h
    exact .of_eq (State.observeBus_stores _)
  · rename_i c rest _
    have kept := exec_bounded c { s with pending := rest }
    rw [h] at kept
    exact kept

/-- Settles O55: every command and the tick lead from a view of the stores within its bounds to one within them. -/
theorem buffersStayWithinSizes : Obligations.BuffersStayWithinSizes :=
  ⟨fun _ _ fit h => (step_bounded h).reports fit,
    fun s t fit h => (testsFit_iff t).mp ((step_bounded h).tests ((testsFit_iff s).mpr fit)),
    fun _ _ fit h => (step_bounded h).buffers fit, fun _ _ fit h => (step_bounded h).log fit,
    fun s t fit h => (spentFits_iff t).mp ((step_bounded h).spent ((spentFits_iff s).mpr fit))⟩

end Sys2Proof.Machine
end

section
/-! SUPPORT. Contention: the call chosen, the contention entered, lost and won, and what is told of them. -/

namespace Sys2Proof

/-- The calls that are not bulk are urgent (R61). -/
theorem Contending.urgent_eq (k : Contending) : k.urgent = decide (k ≠ .updata ∧ k ≠ .gateway) := by
  cases k <;> rfl

end Sys2Proof

namespace Sys2Proof.Machine

/-! ## Entering contention (R59 to R63) -/

/-- A command's beginning that sees the bus: UNKNOWN is left for FREE when CB_BSY is negated (R59). -/
theorem State.observeBus_fresh (s : State) :
    s.fresh.observeBus =
      if s.cbi.phase = .unknown ∧ s.cbi.bsy = false
      then { s with out := [], cbi := { s.cbi with phase := .free, freeSince := some s.now } } else { s with out := [] } := by
  by_cases seen : s.cbi.phase = .unknown ∧ s.cbi.bsy = false
  · simp [State.observeBus, State.fresh, seen]
  · simp [State.observeBus, State.fresh, seen]

/-- The first pending call in the order of R61, the bulk call below its allowance only (R63). -/
theorem State.chooseCall_eq (s : State) :
    s.chooseCall =
      if s.cbi.selfWanted = true then none
      else if s.cbi.claim ≠ none then some .claim else if s.cbi.quiet ≠ none then some .quiet
      else if s.cbi.notice ≠ none then some .notice else if s.gwu.orderReq = true then some .order
      else if s.orh.reportReq = true then some .report
      else if (if s.pvw.role = .active then 4 else 1) ≤ s.cbi.spent then none
      else if s.ups.raised = true then some .updata else if s.gwu.bulkReq = true then some .gateway else none := by
  have allowed : s.allowance = if s.pvw.role = .active then 4 else 1 := by
    simp [State.allowance, State.working]
  simp only [State.chooseCall, allowed, Option.isSome_iff_ne_none, ← Nat.not_le, ite_not]

theorem State.chooseCall_observeBus_fresh (s : State) : s.fresh.observeBus.chooseCall = s.chooseCall := by
  have seen (c : Cbi) (same : c.selfWanted = s.cbi.selfWanted ∧ c.claim = s.cbi.claim ∧ c.quiet = s.cbi.quiet ∧
      c.notice = s.cbi.notice ∧ c.spent = s.cbi.spent) : State.chooseCall { s.fresh with cbi := c } = s.chooseCall := by
    obtain ⟨selfWanted, claim, quiet, notice, spent⟩ := same
    unfold State.chooseCall
    simp only [selfWanted, claim, quiet, notice, spent]
    rfl
  refine seen _ ?_
  split <;> exact ⟨rfl, rfl, rfl, rfl, rfl⟩


theorem execContendStart_eq (s : State) :
    execContendStart s = .next (
      if s.fresh.observeBus.cbi.phase = .free ∧ s.cbi.part = .none
      then s.chooseCall.elim s.fresh.observeBus fun k => s.fresh.observeBus.openWindow.contend k
      else s.fresh.observeBus) := by
  have part : s.fresh.observeBus.cbi.part = s.cbi.part := by
    unfold State.observeBus
    dsimp only
    split <;> rfl
  unfold execContendStart
  dsimp only
  rw [part, s.chooseCall_observeBus_fresh]
  split
  · rename_i phase idle chosen
    rw [if_pos ⟨phase, idle⟩, chosen]
    rfl
  · rename_i other
    split
    · rename_i free
      cases chosen : s.chooseCall with
      | none => rfl
      | some k => exact absurd chosen (other k free.1 free.2)
    · rfl

theorem execCbBsyRise_eq (s : State) :
    execCbBsyRise s = .next (
      if s.fresh.observeBus.cbi.phase = .free
      then s.chooseCall.elim s.fresh.observeBus.openWindow fun k => s.fresh.observeBus.openWindow.contend k
      else { s.fresh.observeBus with cbi := { s.fresh.observeBus.cbi with bsy := true } }) := by
  unfold execCbBsyRise
  dsimp only
  rw [s.chooseCall_observeBus_fresh]
  split
  · rename_i phase chosen
    rw [if_pos phase, chosen]
    rfl
  · rename_i phase chosen
    rw [if_pos phase, chosen]
    rfl
  · rename_i some none
    rw [if_neg]
    intro free
    cases chosen : s.chooseCall with
    | none => exact none free chosen
    | some k => exact some k free chosen

/-- Settles O17: the bus is seen, then the first pending call is contended for. -/
theorem contentionEnteredWithFirstPendingCall : Obligations.ContentionEnteredWithFirstPendingCall := by
  intro s seen choice risen enters
  have sees : s.fresh.observeBus = seen := s.observeBus_fresh
  have chosen : s.chooseCall = choice := s.chooseCall_eq
  have entered (k : Contending) : s.fresh.observeBus.openWindow.contend k = enters k := by
    simp only [enters, risen]
    rw [← sees, ← k.urgent_eq]
    rfl
  have opened : s.fresh.observeBus.openWindow = risen := by
    simp only [risen]
    rw [← sees]
    rfl
  constructor
  · rw [show exec .contendStart s = _ from execContendStart_eq s, sees, chosen]
    simp only [← sees, entered]
  · rw [show exec .cbBsyRise s = _ from execCbBsyRise_eq s, chosen, opened]
    simp only [← opened, entered]
    rw [sees]

end Sys2Proof.Machine
end

section
/-! SUPPORT. Contention decided: lost, or won by the highest ID. -/

namespace Sys2Proof.Machine

/-! ## Contention lost (R61, R62) -/

/-- The bus interface once its contention is over without a win (R61, R62). -/
def Cbi.uncontended (c : Cbi) : Cbi :=
  { c with
    part := .none, contending := none, bsyDrive := false, idDrive := false, urgDrive := false, lateOrder := none
    lateReport := none }

/-- The late withdrawal of the CLAIM contended for takes effect, and the Test Engine is told (R61). -/
theorem State.loseContention_of_claim {c : ClaimCall} {s : State} (contends : s.cbi.contending = some .claim)
    (claim : s.cbi.claim = some c) (withdrawn : c.withdrawn = true) :
    s.loseContention = { s with
      cbi := { s.cbi.uncontended with claim := none }
      ten := { s.ten with withdrawal := s.ten.withdrawal.map fun w => { w with settled := some false } } } := by
  simp only [State.loseContention, State.withdrawContended, contends, State.claimRemoved, claim, withdrawn, if_true]
  rfl

/-- The late withdrawal of the QUIET contended for takes effect (R61). -/
theorem State.loseContention_of_quiet {q : QuietCall} {s : State} (contends : s.cbi.contending = some .quiet)
    (quiet : s.cbi.quiet = some q) (withdrawn : q.withdrawn = true) :
    s.loseContention = { s with cbi := { s.cbi.uncontended with quiet := none } } := by
  simp [State.loseContention, State.withdrawContended, contends, State.quietRemoved, quiet, withdrawn,
    Cbi.uncontended]

/-- Without a late withdrawal every pending call stays (R61). -/
theorem State.loseContention_of_neither {s : State}
    (claim : ¬(s.cbi.contending = some .claim ∧ ∃ c, s.cbi.claim = some c ∧ c.withdrawn = true))
    (quiet : ¬(s.cbi.contending = some .quiet ∧ ∃ q, s.cbi.quiet = some q ∧ q.withdrawn = true)) :
    s.loseContention = { s with cbi := s.cbi.uncontended } := by
  have stays : s.withdrawContended = s := by
    unfold State.withdrawContended
    split
    · rename_i contends
      unfold State.claimRemoved
      split
      · rename_i c pending
        exact if_neg fun withdrawn => claim ⟨contends, c, pending, withdrawn⟩
      · rfl
    · rename_i contends
      unfold State.quietRemoved
      cases pending : s.cbi.quiet with
      | none => rw [Option.filter_none, ← pending]
      | some q =>
        have holds : q.withdrawn = false := by
          rw [← Bool.not_eq_true]
          exact fun withdrawn => quiet ⟨contends, q, pending, withdrawn⟩
        rw [Option.filter_some, holds, ← pending]
        rfl
    · rfl
  unfold State.loseContention
  rw [stays]
  rfl

/-! ## The highest ID (R62) -/

/-- The first of a descending list that meets a test is the greatest that meets it. -/
theorem find?_descending {n : Nat} (p : Fin n → Bool) {l : List (Fin n)} (descends : l.Pairwise (· > ·)) (i : Fin n) :
    l.find? p = some i ↔ i ∈ l ∧ p i = true ∧ ∀ j ∈ l, i < j → p j = false := by
  induction l with
  | nil => simp
  | cons x l ih =>
    obtain ⟨above, descends⟩ := List.pairwise_cons.mp descends
    by_cases meets : p x = true
    · rw [List.find?_cons_of_pos meets, Option.some.injEq]
      constructor
      · rintro rfl
        refine ⟨List.mem_cons_self, meets, fun j mem less => ?_⟩
        rcases List.mem_cons.mp mem with rfl | mem
        · exact absurd less (lt_irrefl _)
        · exact absurd (above j mem) (lt_asymm less)
      · rintro ⟨mem, -, greatest⟩
        rcases List.mem_cons.mp mem with rfl | mem
        · rfl
        · rw [greatest x List.mem_cons_self (above i mem)] at meets
          cases meets
    · rw [List.find?_cons_of_neg meets, ih descends]
      constructor
      · rintro ⟨mem, holds, greatest⟩
        refine ⟨List.mem_cons_of_mem x mem, holds, fun j memJ less => ?_⟩
        rcases List.mem_cons.mp memJ with rfl | memJ
        · simpa using meets
        · exact greatest j memJ less
      · rintro ⟨mem, holds, greatest⟩
        rcases List.mem_cons.mp mem with rfl | mem
        · exact absurd holds meets
        · exact ⟨mem, holds, fun j memJ => greatest j (List.mem_cons_of_mem x memJ)⟩

theorem mem_stationsDown (i : StationId) : i ∈ ([7, 6, 5, 4, 3, 2, 1, 0] : List StationId) := by revert i; decide

theorem highestId_eq_some_iff (ids : Byte) (i : StationId) :
    highestId ids = some i ↔ ids.getLsbD i.val = true ∧ ∀ j : StationId, i < j → ids.getLsbD j.val = false := by
  unfold highestId
  rw [find?_descending _ (by decide)]
  simp only [mem_stationsDown, true_and, true_implies]

theorem highestId_eq_none_iff (ids : Byte) : highestId ids = none ↔ ids = 0 := by
  unfold highestId
  simp only [List.find?_eq_none, mem_stationsDown, true_implies, Bool.not_eq_true]
  constructor
  · intro clear
    refine BitVec.eq_of_getLsbD_eq fun i less => ?_
    rw [clear ⟨i, less⟩]
    simp
  · rintro rfl i
    simp

/-! ## The end of the window (R62, R63) -/

theorem execContendWindowEnd_eq (ids : Byte) (s : State) :
    execContendWindowEnd ids s = .next (State.settle s (
      if s.cbi.phase ≠ .contend then s.fresh
      else match highestId (s.idLines ids), s.cbi.part, s.cbi.contending with
      | none, .contender, _ => s.fresh.loseContention
      | none, _, _ => s.fresh
      | some i, .contender, some k =>
        if i = s.orh.stn then s.fresh.win k
        else { s.fresh.loseContention with cbi := { s.fresh.loseContention.cbi with phase := .call } }
      | some _, _, _ => { s.fresh with cbi := { s.fresh.cbi with phase := .call } })) := by
  unfold execContendWindowEnd
  rw [ite_not] <;> rfl

/-- Settles O18: the ends of a contention lost, then the decision at the midpoint and at the window's end. -/
theorem contentionDecidedByUrgencyThenId : Obligations.ContentionDecidedByUrgencyThenId := by
  refine ⟨fun d8 s => ⟨?_, ?_, ?_, rfl⟩, highestId_eq_some_iff, highestId_eq_none_iff, fun ids s => ?_⟩
  · rintro ⟨contends, c, claim, withdrawn⟩
    exact State.loseContention_of_claim contends claim withdrawn
  · rintro ⟨contends, q, quiet, withdrawn⟩
    exact State.loseContention_of_quiet contends quiet withdrawn
  · exact State.loseContention_of_neither
  · exact execContendWindowEnd_eq ids s

end Sys2Proof.Machine
end

section
/-! SUPPORT. The winner's call and the delivery rotation. -/

namespace Sys2Proof.Machine

/-! ## The delivery rotation (R137) -/

/-- A delivery position's turn: how many positions after the first one past the last served it stands (R137). -/
def State.turn (s : State) (p : Nat) : Nat := (p + 8 - s.gwu.position % 9) % 9

theorem State.position_of_turn (s : State) {p : Nat} (small : p < 9) : (s.gwu.position + 1 + s.turn p) % 9 = p := by
  unfold State.turn
  omega

theorem State.turn_of_position (s : State) {k : Nat} (small : k < 9) : s.turn ((s.gwu.position + 1 + k) % 9) = k := by
  unfold State.turn
  omega

theorem State.positionWaits_iff (s : State) (p : Nat) :
    s.positionWaits p = true ↔
      if p = 8 then s.cqm.flood ≠ [] else octal p ≠ s.orh.stn ∧ s.cqm.stn.at (octal p) ≠ [] := by
  unfold State.positionWaits
  split <;> simp

/-- The first position that waits, in the order of the turns, is served (R137). -/
theorem State.nextPosition_eq_some {s : State} {p : Nat} (small : p < 9) (waits : s.positionWaits p = true)
    (first : ∀ q, q < 9 → s.positionWaits q = true → s.turn p ≤ s.turn q) : s.nextPosition = some p := by
  have place : (List.range 9).find? (s.positionWaits ∘ fun k => (s.gwu.position + 1 + k) % 9) = some (s.turn p) := by
    rw [List.find?_range_eq_some]
    refine ⟨?_, List.mem_range.mpr (Nat.mod_lt _ (by omega)), fun k less => ?_⟩
    · simpa only [Function.comp_apply, s.position_of_turn small] using waits
    · rw [Bool.not_eq_true', ← Bool.not_eq_true]
      intro earlier
      have bound : s.turn p < 9 := Nat.mod_lt _ (by omega)
      have later := first _ (Nat.mod_lt _ (by omega)) earlier
      rw [s.turn_of_position (by omega)] at later
      omega
  unfold State.nextPosition
  rw [List.find?_map, place, Option.map_some, s.position_of_turn small]

theorem State.nextPosition_eq_none {s : State} (idle : ∀ p, p < 9 → ¬s.positionWaits p = true) : s.nextPosition = none := by
  unfold State.nextPosition
  simp only [List.find?_eq_none, List.mem_map]
  rintro p ⟨k, -, rfl⟩
  exact idle _ (Nat.mod_lt _ (by omega))

/-! ## The win (R61, R62, R63, R65) -/

theorem State.callGateway_of_station {p : Nat} {s : State} (next : s.nextPosition = some p) (station : p ≠ 8) :
    s.callGateway = State.makeCall .downdata (octal p) [] { s with gwu := { s.gwu with position := p } } := by
  unfold State.callGateway
  rw [next]
  exact if_neg station

theorem State.callGateway_of_flood {s : State} (next : s.nextPosition = some 8 ∨ s.nextPosition = none) :
    s.callGateway =
      State.callFlood { s with gwu := { s.gwu with position := s.nextPosition.getD s.gwu.position } } := by
  unfold State.callGateway
  rcases next with next | next <;> rw [next] <;> rfl

theorem State.nextPosition_charge (s : State) : s.charge.nextPosition = s.nextPosition := rfl

/-- Settles O19: each win is `State.makeCall` on what it names, the rotation by `State.nextPosition_eq_some`. -/
theorem winnerDrivesItsCallWord : Obligations.WinnerDrivesItsCallWord := by
  intro s made charged toGateway nothing oldest waits turn
  refine ⟨fun c claim => ?_, fun q quiet => ?_, fun n notice => ?_, fun m names => ?_, fun r names => ?_, fun claim => ?_,
    fun quiet => ?_, fun notice => ?_, fun gone late => ?_, fun gone late => ?_, fun p small waiting first => ?_,
    fun idle => ?_, rfl, fun p next station => ?_, fun next => ?_⟩
  · simp only [State.win, claim]; rfl
  · simp only [State.win, quiet]; rfl
  · simp only [State.win, notice]; rfl
  · have named : s.busOrder.or s.cbi.lateOrder = some m := by
      rcases names with queued | ⟨gone, late⟩
      · rw [show s.busOrder = some m from queued]; rfl
      · rw [show s.busOrder = none from gone]; exact late
    simp only [State.win, named]; rfl
  · have named : s.orh.queue.head?.or s.cbi.lateReport = some r := by
      rcases names with queued | ⟨gone, late⟩
      · rw [queued]; rfl
      · rw [gone]; exact late
    simp only [State.win, named]; rfl
  · simp only [State.win, claim]; rfl
  · simp only [State.win, quiet]; rfl
  · simp only [State.win, notice]; rfl
  · simp only [State.win, show s.busOrder = none from gone, late]; rfl
  · simp only [State.win, gone, late]; rfl
  · exact State.nextPosition_eq_some small ((s.positionWaits_iff p).mpr waiting) fun q smallQ waitingQ =>
      first q smallQ ((s.positionWaits_iff q).mp waitingQ)
  · exact State.nextPosition_eq_none fun p small waiting => idle p small ((s.positionWaits_iff p).mp waiting)
  · exact State.callGateway_of_station (s := s.charge) next station
  · exact State.callGateway_of_flood (s := s.charge) next

end Sys2Proof.Machine
end

section
/-! SUPPORT. Calls of the part: answers and closes judged, outcomes acted on, calls cut. -/

namespace Sys2Proof

/-! ## The fields of answer and close words (R66, R70) -/

theorem field_code_eq (w : Word) : field w 14 2 = w.toNat / 16384 := by
  have := w.isLt
  unfold field
  omega

theorem field_room_eq (w : Word) : field w 0 11 = w.toNat % 2048 := by
  unfold field
  omega

theorem octal_field_eq_iff (w : Word) (i : StationId) : octal (field w 11 3) = i ↔ w.toNat / 2048 % 8 = i.val := by
  have := i.isLt
  rw [Fin.ext_iff]
  simp only [octal, field, Fin.val_ofNat]
  omega

theorem goodParity_eq_true_iff (w : Word) (parity : Bool) : goodParity w parity = true ↔ parity = oddParity w := by
  simp [goodParity]

end Sys2Proof

namespace Sys2Proof.Machine

/-! ## Answers and closes (R60, R67, R70) -/

/-- A case distinction under a guard, written as one row of guarded cases. -/
theorem guarded_cases {α : Type} (p q a b : Prop) [Decidable p] [Decidable q] [Decidable a] [Decidable b] (x y z : α) :
    (if p ∧ q then if a then x else if b then y else z else z) =
      if p ∧ q ∧ a then x else if p ∧ q ∧ b then y else z := by
  by_cases guard : p ∧ q
  · simp [guard]
  · rw [if_neg guard, if_neg fun h => guard ⟨h.1, h.2.1⟩, if_neg fun h => guard ⟨h.1, h.2.1⟩]

theorem execAnswerWord_eq (w : Word) (parity : Bool) (s : State) :
    execAnswerWord w parity s = .next (State.settle s (
      if s.cbi.phase ≠ .answer then s.fresh
      else match s.cbi.part, s.cbi.call with
      | .caller, some c =>
        if parity = oddParity w ∧ w.toNat / 2048 % 8 = c.target.val ∧ w.toNat / 16384 = 1 then
          s.fresh.startTransfer c (w.toNat % 2048)
        else if parity = oddParity w ∧ w.toNat / 2048 % 8 = c.target.val ∧ w.toNat / 16384 = 2 then s.fresh.endCall .full c
        else s.fresh.endCall .absent c
      | .listener, _ =>
        if parity = oddParity w ∧ w.toNat / 16384 = 1 then { s.fresh with cbi := { s.cbi with phase := .transfer } }
        else s.fresh
      | _, _ => s.fresh)) := by
  unfold execAnswerWord
  simp only [goodParity_eq_true_iff, octal_field_eq_iff, field_code_eq, field_room_eq, ite_not, guarded_cases]
  rfl

theorem execCloseWord_eq (w : Word) (parity : Bool) (s : State) :
    execCloseWord w parity s = .next (State.settle s (
      match s.cbi.phase, s.cbi.part, s.cbi.call with
      | .close, .caller, some c =>
        if parity = oddParity w ∧ w.toNat / 16384 = 1 ∧ w.toNat / 2048 % 8 = c.target.val then s.fresh.endCall .good c
        else s.fresh.endCall .bad c
      | .transfer, .listener, _ =>
        if s.cbi.rx = none then { s.fresh with cbi := { s.cbi with phase := .close } } else s.fresh
      | _, _, _ => s.fresh)) := by
  unfold execCloseWord
  simp only [goodParity_eq_true_iff, octal_field_eq_iff, field_code_eq, Option.isNone_iff_eq_none]
  rfl

/-! ## The end of an own call (R71, R83) -/

/-- A call ended: its outcome counted and CB_BSY released, with the outcome for the requester to act on. -/
def State.ended (o : CallOutcome) (s : State) : State :=
  State.leaveCall { s with cbi := { s.cbi with ctr := countOutcome o s.cbi.ctr } }

theorem State.endCall_eq (o : CallOutcome) (c : OwnCall) (s : State) : s.endCall o c = (s.ended o).actOn o c := rfl

theorem State.endCall_of_order {m : MgmtOrder} {c : OwnCall} (o : CallOutcome) {s : State} (body : c.body = .order m) :
    s.endCall o c = (s.ended o).orderOutcome o m := by
  rw [State.endCall_eq]
  unfold State.actOn
  rw [body]

theorem State.endCall_of_report {r : Report} {c : OwnCall} (o : CallOutcome) {s : State} (body : c.body = .report r) :
    s.endCall o c = (s.ended o).reportOutcome o r := by
  rw [State.endCall_eq]
  unfold State.actOn
  rw [body]

theorem State.orderOutcome_of_mem {m : MgmtOrder} (o : CallOutcome) {s : State} (stands : m ∈ s.gwu.orders) :
    s.orderOutcome o m = match o with
      | .good => { s with gwu := { s.gwu with orders := s.gwu.orders.erase m } }
      | .absent => State.handlerReport m.order.tag (BitVec.ofNat 8 m.target.val) (BitVec.ofNat 8 m.order.code.toNat)
          .noStation { s with gwu := { s.gwu with orders := s.gwu.orders.erase m } }
      | _ => s := by
  unfold State.orderOutcome
  rw [if_pos stands] <;> cases o <;> rfl

/-- Settles O23: the answer, the close, and the outcome that the requester acts on. -/
theorem callerJudgesAndRequesterActs : Obligations.CallerJudgesAndRequesterActs := by
  refine ⟨⟨fun w parity s => ⟨execAnswerWord_eq w parity s, rfl⟩, fun w parity s => ⟨execCloseWord_eq w parity s, rfl⟩⟩,
    fun o c s => ?_⟩
  intro ended
  have same : s.ended o = ended := by cases o <;> rfl
  refine ⟨?_, ?_, ?_, ?_, ?_, fun m body stands => ?_, fun m body gone => ?_, fun r body other => ?_,
    fun r body good head => ?_⟩
  · rintro (body | body) rfl <;> simp only [State.endCall_eq, same, State.actOn, body]
  · rintro (body | body) rfl <;> simp only [State.endCall_eq, same, State.actOn, body]
  · rintro (body | body) rfl <;> simp only [State.endCall_eq, same, State.actOn, body]
  · rintro body rfl
    simp only [State.endCall_eq, same, State.actOn, body]
  · rintro body rfl
    simp only [State.endCall_eq, State.actOn, body]
    rfl
  · rw [State.endCall_of_order o body, State.orderOutcome_of_mem o (s := s.ended o) stands, same] <;> cases o <;> rfl
  · rw [State.endCall_of_order o body, same]
    exact if_neg gone
  · rw [State.endCall_of_report o body, same]
    refine if_neg fun h => ?_
    exact other.elim (absurd h.1) (absurd h.2)
  · rw [State.endCall_of_report o body, same]
    unfold State.reportOutcome State.restartIfLeft
    rw [if_pos ⟨good, head⟩]
    simp only [Bool.and_eq_true]
    rfl

/-! ## Calls cut (R60, R71, R73, R79) -/

/-- Settles O27: one clause for each kind of call. -/
theorem cutCallsGoBackOrEndBad : Obligations.CutCallsGoBackOrEndBad := by
  intro reset c s t
  have left : s.leaveCall = t := rfl
  refine ⟨fun n body free => ?_, fun n body newer => ?_, fun k body => ?_, fun q body free => ?_, fun q body newer => ?_,
    fun body => ?_, fun body => ?_, fun body => ?_⟩
  · simp [State.cutCall, body, left, putBackNotice, show t.cbi.notice = none from free]
  · simp only [State.cutCall, body, left, putBackNotice]
    rw [if_pos (Option.isSome_iff_ne_none.mpr newer)]
  · simp only [State.cutCall, body, left]
  · simp [State.cutCall, body, left, show t.cbi.quiet = none from free]
  · obtain ⟨x, pending⟩ := Option.ne_none_iff_exists'.mp newer
    simp only [State.cutCall, body, left, show t.cbi.quiet = some x from pending, Option.some_or]
    rw [← show t.cbi.quiet = some x from pending]
  · simp only [State.cutCall, body, left]
  · rcases body with body | body <;> simp [State.cutCall, body, left]
  · rcases body with ⟨m, body⟩ | ⟨r, body⟩ <;> simp only [State.cutCall, body]

end Sys2Proof.Machine
end

section
/-! SUPPORT. Transfers: the burst filled from the queues, its words, and the words strobed one by one. -/

namespace Sys2Proof

/-! ## Words of bytes and of bursts (R68) -/

theorem wordOf_bytes (a b : Byte) : wordOf (a.toNat * 256 + b.toNat) = a ++ b := by
  have := a.isLt
  have := b.isLt
  apply BitVec.eq_of_toNat_eq
  rw [BitVec.toNat_append, ← Nat.shiftLeft_add_eq_or_of_lt b.isLt, Nat.shiftLeft_eq]
  simp only [wordOf, BitVec.toNat_ofNat]
  omega

theorem flagAt_eq_ite (p : Prop) [Decidable p] (k : Nat) : flagAt (decide p) k = if p then 2 ^ k else 0 := by
  by_cases h : p <;> simp [flagAt, h]

theorem frameHeaderWords_eq (f : Frame) :
    frameHeaderWords f = [BitVec.ofNat 16 ((if f.cls = .expedited then 32768 else 0) + (if f.returned = true then 16384 else 0) +
      (f.home.elim 0 fun h => h.val) * 256), BitVec.ofNat 16 f.length] := by
  have home : (f.home.getD 0).val = f.home.elim 0 fun h => h.val := by cases f.home <;> rfl
  have cls : flagAt (f.cls == .expedited) 15 = if f.cls = .expedited then 32768 else 0 := flagAt_eq_ite (f.cls = .expedited) 15
  have mark : flagAt f.returned 14 = if f.returned = true then 16384 else 0 := by cases f.returned <;> rfl
  rw [frameHeaderWords, cls, mark, home]
  rfl

end Sys2Proof

namespace Sys2Proof.Machine

/-! ## Frames taken in queue order (R73, R137) -/

theorem takeWithin_cons (room : Option Nat) (fs : List Frame) (f : Frame) (q : List Frame) :
    takeWithin room fs (f :: q) =
      if (∀ n, room = some n → cellCount fs + f.cells ≤ n) ∧ fs.length < 8 ∧ byteCount fs + f.length ≤ 4096 then
        takeWithin room (fs ++ [f]) q
      else (fs, f :: q) := by
  cases room <;> simp [takeWithin, and_assoc]

/-- The bounds of a burst in assembly: 8 frames, 4096 bytes, and the room where one is given (R68). -/
def BurstFits (room : Option Nat) (fs : List Frame) : Prop :=
  fs.length ≤ 8 ∧ byteCount fs ≤ 4096 ∧ ∀ n, room = some n → cellCount fs ≤ n

theorem BurstFits.nil (room : Option Nat) : BurstFits room [] := ⟨Nat.zero_le _, Nat.zero_le _, fun _ _ => Nat.zero_le _⟩

theorem BurstFits.snoc {room : Option Nat} {fs : List Frame} {f : Frame}
    (takes : (∀ n, room = some n → cellCount fs + f.cells ≤ n) ∧ fs.length < 8 ∧ byteCount fs + f.length ≤ 4096) :
    BurstFits room (fs ++ [f]) := by
  obtain ⟨cells, count, bytes⟩ := takes
  exact ⟨by simpa using count, by simpa using bytes, fun n h => by simpa using cells n h⟩

theorem takeWithin_spec (room : Option Nat) (q fs : List Frame) (fit : BurstFits room fs) :
    fs ++ q = (takeWithin room fs q).1 ++ (takeWithin room fs q).2 ∧ BurstFits room (takeWithin room fs q).1 := by
  induction q generalizing fs with
  | nil => exact ⟨rfl, fit⟩
  | cons f q ih =>
    rw [takeWithin_cons]
    split
    · rename_i takes
      obtain ⟨whole, fits⟩ := ih (fs ++ [f]) (.snoc takes)
      exact ⟨by rw [← whole, List.append_assoc]; rfl, fits⟩
    · exact ⟨rfl, fit⟩

/-! ## The burst filled by the scheduler (R68, R115) -/

theorem Sched.fill_succ_of_choose {x y : Sched} {rule : ChoiceRule} {h : HomeId} (n room : Nat) (fs : List Frame)
    (chosen : x.choose = some (rule, h, y)) :
    (y.up.at h = [] → x.fill (n + 1) room fs = (x, fs)) ∧
      ∀ f q, y.up.at h = f :: q → x.fill (n + 1) room fs =
        if 0 < x.ups.credit ∧ cellCount fs + f.cells ≤ room ∧ fs.length < 8 ∧ byteCount fs + f.length ≤ 4096 then
          (y.take rule h).fill n room (fs ++ [f])
        else (x, fs) := by
  refine ⟨fun queue => ?_, fun f q queue => ?_⟩
  · simp [Sched.fill, chosen, Sched.head, queue]
  · simp [Sched.fill, chosen, Sched.head, queue, burstTakes, and_assoc]

theorem Sched.fill_fits (n room : Nat) (x : Sched) (fs : List Frame) (fit : BurstFits (some room) fs) :
    BurstFits (some room) (x.fill n room fs).2 := by
  induction n generalizing x fs with
  | zero => exact fit
  | succ n ih =>
    match chosen : x.choose with
    | none => simpa [Sched.fill, chosen] using fit
    | some (rule, h, y) =>
      obtain ⟨onNone, onHead⟩ := Sched.fill_succ_of_choose n room fs chosen
      match queue : y.up.at h with
      | [] => rw [onNone queue]; exact fit
      | f :: q =>
        rw [onHead f q queue]
        split
        · rename_i takes
          obtain ⟨-, cells, count, bytes⟩ := takes
          exact ih _ _ (.snoc ⟨fun n e => Option.some.inj e ▸ cells, count, bytes⟩)
        · exact fit

/-- A frame put before one home's frames is one frame more among those of all homes. -/
theorem flatMap_homes_put_cons (taken : Tab 8 (List Frame)) (h : HomeId) (f : Frame) :
    (homeIds.flatMap fun k => (taken.put h (f :: taken.at h)).at k).Perm (f :: homeIds.flatMap fun k => taken.at k) := by
  obtain ⟨before, after, parts⟩ := List.append_of_mem (mem_homeIds h)
  have distinct : (before ++ h :: after).Nodup := parts ▸ (by decide : homeIds.Nodup)
  have same (l : List HomeId) (out : h ∉ l) :
      (l.flatMap fun k => (taken.put h (f :: taken.at h)).at k) = l.flatMap fun k => taken.at k :=
    List.flatMap_congr fun k m => Tab.at_put_of_ne _ _ _ _ fun e => out (e ▸ m)
  rw [List.nodup_append, List.nodup_cons] at distinct
  obtain ⟨-, ⟨notAfter, -⟩, apart⟩ := distinct
  have notBefore : h ∉ before := fun m => apart h m h List.mem_cons_self rfl
  rw [parts, List.flatMap_append, List.flatMap_append, List.flatMap_cons, List.flatMap_cons, same _ notBefore,
    same _ notAfter, Tab.at_put_self, List.cons_append]
  exact List.perm_middle

/-- What a filling takes are the heads of the queues, each frame once and no other, after those taken before. -/
theorem Sched.fill_takesHeads (n room : Nat) (x : Sched) (fs : List Frame) :
    ∃ (taken : Tab 8 (List Frame)) (more : List Frame), (x.fill n room fs).2 = fs ++ more ∧
      (∀ h, x.up.at h = taken.at h ++ (x.fill n room fs).1.up.at h) ∧
      (∀ h, (taken.at h).Sublist more) ∧ more.Perm (homeIds.flatMap fun h => taken.at h) := by
  have stay : ∃ (taken : Tab 8 (List Frame)) (more : List Frame), fs = fs ++ more ∧
      (∀ h, x.up.at h = taken.at h ++ x.up.at h) ∧
      (∀ h, (taken.at h).Sublist more) ∧ more.Perm (homeIds.flatMap fun h => taken.at h) :=
    ⟨.all [], [], (List.append_nil fs).symm, by simp, by simp, by simp⟩
  induction n generalizing x fs with
  | zero => exact stay
  | succ n ih =>
    match chosen : x.choose with
    | none => simpa only [Sched.fill, chosen] using stay
    | some (rule, h, y) =>
      obtain ⟨onNone, onHead⟩ := Sched.fill_succ_of_choose n room fs chosen
      have sameUp : y.up = x.up := Sched.choose_up chosen
      match queue : y.up.at h with
      | [] => rw [onNone queue]; exact stay
      | f :: q =>
        rw [onHead f q queue]
        split
        · obtain ⟨taken, more, frames, queues, order, all⟩ := ih (y.take rule h) (fs ++ [f])
            ⟨.all [], [], (List.append_nil _).symm, by simp, by simp, by simp⟩
          have rest : (y.take rule h).up = y.up.put h q := by simp [Sched.take, queue]
          refine ⟨taken.put h (f :: taken.at h), f :: more, ?_, fun k => ?_, fun k => ?_, ?_⟩
          · rw [frames, List.append_assoc]
            rfl
          · have now := queues k
            rw [rest] at now
            by_cases here : k = h
            · subst here
              rw [Tab.at_put_self] at now ⊢
              rw [← sameUp, queue, now, List.cons_append]
            · rw [Tab.at_put_of_ne _ _ _ _ here] at now ⊢
              rw [← sameUp, now]
          · by_cases here : k = h
            · subst here
              rw [Tab.at_put_self]
              exact (order k).cons_cons f
            · rw [Tab.at_put_of_ne _ _ _ _ here]
              exact (order k).cons f
          · exact (all.cons f).trans (flatMap_homes_put_cons taken h f).symm
        · exact stay

/-! ## The words strobed (R58, R68, R72, R73) -/

theorem execTransferWordSent_eq {s : State} {c : OwnCall} {w : Word} {rest : List Word} (phase : s.cbi.phase = .transfer)
    (part : s.cbi.part = .caller) (call : s.cbi.call = some c) (words : c.words = w :: rest) :
    execTransferWordSent s = .next (State.settle s (
      let sent := State.strobe w { s.fresh with cbi := { s.fresh.cbi with windowStart := s.now } }
      if rest ≠ [] then { sent with cbi := { sent.cbi with call := some { c with words := rest } } }
      else sent.lastWordSent c)) := by
  simp only [execTransferWordSent, phase, part, call, words]
  cases rest with
  | nil =>
    simp only [List.isEmpty_nil, if_true, ne_eq, not_true_eq_false, if_false]
    rfl
  | cons =>
    simp only [List.isEmpty_cons, Bool.false_eq_true, if_false, ne_eq, reduceCtorEq, not_false_eq_true, if_true]
    rfl

theorem execTransferWordSent_of_noWord {s : State}
    (idle : s.cbi.phase ≠ .transfer ∨ s.cbi.part ≠ .caller ∨ ∀ c, s.cbi.call = some c → c.words = []) :
    execTransferWordSent s = .next (State.settle s s.fresh) := by
  unfold execTransferWordSent
  split
  · rename_i c phase part call
    rw [(idle.resolve_left (absurd phase)).resolve_left (absurd part) c call]
  · rfl

/-- Settles O24: the words made after a TAKE, the words strobed, and the frames that a burst takes. -/
theorem transferMadeAndStrobed : Obligations.TransferMadeAndStrobed := by
  refine ⟨fun c room s => ?_, fun s => ⟨fun c w rest phase part call words => ?_, execTransferWordSent_of_noWord⟩,
    fun room x => ?_, fun n room x fs => ?_, fun room fs => ⟨rfl, takeWithin_cons room fs⟩, fun fs => ?_,
    fun a b rest => ⟨rfl, ?_, ?_⟩, fun room q => ?_⟩
  · refine ⟨fun body => ?_, fun body => ?_, fun m body => ?_, fun r body => ?_⟩ <;>
      simp only [State.startTransfer, body] <;> rfl
  · refine (execTransferWordSent_eq phase part call words).trans ?_
    congr 2
    split
    · rfl
    · unfold State.lastWordSent
      cases c.body <;> rfl
  · obtain ⟨count, bytes, cells⟩ := Sched.fill_fits 9 room x [] (.nil _)
    obtain ⟨taken, more, frames, queues, order, all⟩ := Sched.fill_takesHeads 9 room x []
    rw [List.nil_append] at frames
    subst frames
    exact ⟨count, bytes, cells room rfl, taken, queues, order, all⟩
  · exact ⟨rfl, fun idle => by simp only [Sched.fill, idle],
      fun rule h y chosen => Sched.fill_succ_of_choose n room fs chosen⟩
  · simp only [burstWords, frameHeaderWords_eq]
    rfl
  · have last := wordOf_bytes a 0
    rw [show (0 : Byte).toNat = 0 from rfl, Nat.add_zero] at last
    rw [wordsOfBytes, last]
  · exact congrArg (· :: wordsOfBytes rest) (wordOf_bytes a b)
  · exact takeWithin_spec room q [] (.nil room)

end Sys2Proof.Machine
end

section
/-! SUPPORT. The end of the call on the bus: the fall of CB_BSY and the bus reset. -/

namespace Sys2Proof

theorem Reception.complete_eq (r : Reception) : r.complete = decide (r.stage = .done) := by
  unfold Reception.complete
  split
  · simp [*]
  · exact (decide_eq_false ‹_›).symm

end Sys2Proof

namespace Sys2Proof.Machine

/-! ## The clock under the end of a call -/

theorem State.foldr_now (f : Frame → State → State) (keeps : ∀ s x, (f x s).now = s.now) (l : List Frame) (s : State) :
    (l.foldr f s).now = s.now := by
  rw [List.foldr_eq_foldl_reverse]
  exact State.foldl_same State.now (fun s x => f x s) keeps l.reverse s

theorem State.returnUp_now (s : State) (f : Frame) : (s.returnUp f).now = s.now := by
  unfold State.returnUp
  dsimp only
  split <;> rfl

theorem State.returnStn_now (i : StationId) (s : State) (f : Frame) : (s.returnStn i f).now = s.now := by
  unfold State.returnStn
  split <;> rfl

theorem State.returnFlood_now (s : State) (f : Frame) : (s.returnFlood f).now = s.now := by
  unfold State.returnFlood
  split <;> rfl

theorem State.failBurst_now (s : State) : s.failBurst.now = s.now := by
  unfold State.failBurst
  split
  · rfl
  · dsimp only
    split
    · exact State.foldr_now _ State.returnUp_now _ _
    · rename_i i _
      exact State.foldr_now _ (State.returnStn_now i) _ _
    · exact State.foldr_now _ State.returnFlood_now _ _

theorem State.joinHeld_keeps (caller : StationId) (s : State) (x : Held) :
    (s.joinHeld caller x).now = s.now ∧ (s.joinHeld caller x).cbi = s.cbi := by
  unfold State.joinHeld
  split
  · split <;> exact ⟨rfl, rfl⟩
  · split <;> exact ⟨rfl, rfl⟩

theorem State.applyWake_keeps (s : State) (w : PendingWake) : (s.applyWake w).now = s.now ∧ (s.applyWake w).cbi = s.cbi := by
  unfold State.applyWake
  split <;> exact ⟨rfl, rfl⟩

theorem State.goodEnd_now (caller : StationId) (s : State) : (s.goodEnd caller).now = s.now :=
  (State.foldl_same State.now State.applyWake (fun s w => (s.applyWake_keeps w).1) _ _).trans
    (State.foldl_same State.now (State.joinHeld caller) (fun s x => (s.joinHeld_keeps caller x).1) _ _)

theorem State.goodEnd_cbi (caller : StationId) (s : State) : (s.goodEnd caller).cbi = s.cbi :=
  (State.foldl_same State.cbi State.applyWake (fun s w => (s.applyWake_keeps w).2) _ _).trans
    (State.foldl_same State.cbi (State.joinHeld caller) (fun s x => (s.joinHeld_keeps caller x).2) _ _)

theorem State.loseContention_now (s : State) : s.loseContention.now = s.now := by
  unfold State.loseContention State.withdrawContended State.claimRemoved State.quietRemoved
  dsimp only
  split
  · split
    · split <;> rfl
    · rfl
  · rfl
  · rfl

/-- A call that ends BAD restarts nothing, so the clock goes on. -/
theorem State.endCall_bad_now (c : OwnCall) (s : State) : (s.endCall .bad c).now = s.now := by
  unfold State.endCall State.actOn
  split
  · exact absurd ‹CallOutcome.bad = .good› (by decide)
  · exact absurd ‹CallOutcome.bad = .good› (by decide)
  · exact State.failBurst_now _
  · exact State.failBurst_now _
  · exact absurd ‹CallOutcome.bad = .absent› (by decide)
  · unfold State.orderOutcome
    split <;> rfl
  · rw [State.reportOutcome, if_neg fun h => absurd h.1 (by decide)]
    rfl
  · rfl

theorem State.cutCall_now (reset : Bool) (c : OwnCall) (s : State) : (s.cutCall reset c).now = s.now := by
  unfold State.cutCall
  dsimp only
  split
  · rfl
  · rfl
  · rfl
  · exact State.failBurst_now _
  · split
    · exact State.failBurst_now _
    · exact State.endCall_bad_now c s
  · split
    · exact State.failBurst_now _
    · exact State.endCall_bad_now c s
  · exact State.endCall_bad_now c s
  · exact State.endCall_bad_now c s

/-! ## What the end of a call does, by the part played (R60, R64, R72, R73, R78) -/

theorem State.cutOwn_of_other (reset : Bool) {s : State} (contends : s.cbi.part ≠ .contender) (calls : s.cbi.part ≠ .caller) :
    s.cutOwn reset = s := by
  unfold State.cutOwn
  split
  · exact absurd ‹_› calls
  · exact absurd ‹_› contends
  · rfl

theorem State.endReception_of_other {s : State} (called : s.cbi.part ≠ .callee) (listens : s.cbi.part ≠ .listener) :
    s.endReception = s := by
  unfold State.endReception
  split
  · exact absurd ‹_› listens
  · exact absurd ‹_› called
  · rfl

theorem State.cutReception_of_other {s : State} (called : s.cbi.part ≠ .callee) (listens : s.cbi.part ≠ .listener) :
    s.cutReception = s := by
  unfold State.cutReception
  split
  · exact absurd ‹_› listens
  · exact absurd ‹_› called
  · rfl

/-- What a listener hears of a broadcast other than a FLOOD, whole or not (R72). -/
theorem heardWhole_eq (r : Reception) :
    heardWhole r = if decide (r.stage = .done) && !r.bad && !r.extra then heardOf r.kind r.caller r.words else none := by
  rw [heardWhole, r.complete_eq]

theorem State.endReception_part (s : State) : s.endReception.cbi.part = s.cbi.part := by
  unfold State.endReception
  split
  · split
    · split
      · rw [State.goodEnd_cbi]
      · rfl
    · split <;> rfl
  · rfl
  · rfl

theorem State.endReception_now (s : State) : s.endReception.now = s.now := by
  unfold State.endReception
  split
  · split
    · split
      · exact State.goodEnd_now _ _
      · rfl
    · split <;> rfl
  · rfl
  · rfl

theorem State.cutReception_part (s : State) : s.cutReception.cbi.part = s.cbi.part := by
  unfold State.cutReception
  split
  · split <;> rfl
  · rfl
  · rfl

theorem State.cutOwn_now (reset : Bool) (s : State) : (s.cutOwn reset).now = s.now := by
  unfold State.cutOwn
  split
  · exact State.cutCall_now _ _ _
  · exact State.loseContention_now s
  · rfl

theorem State.endReception_cutOwn_eq (s : State) :
    s.endReception.cutOwn false = match s.cbi.part with
      | .none => s
      | .contender => s.loseContention
      | .caller => match s.cbi.call with
        | some c => s.cutCall false c
        | none => s
      | .callee => if s.cbi.rx = none then s else s.badEnd
      | .listener => match s.cbi.rx with
        | none => s
        | some r =>
          if r.kind = .flood then if decide (r.stage = .done) && !r.bad then s.goodEnd r.caller else s.badEnd
          else match (if decide (r.stage = .done) && !r.bad && !r.extra then heardOf r.kind r.caller r.words else none) with
          | some x => { s with cbi := { s.cbi with heard := s.cbi.heard ++ [x] } }
          | none => s.discardBroadcast := by
  have still := s.endReception_part
  cases part : s.cbi.part with
  | none | contender | caller =>
    rw [State.endReception_of_other (by rw [part]; decide) (by rw [part]; decide)]
    unfold State.cutOwn
    rw [part] <;> cases s.cbi.call <;> rfl
  | callee =>
    rw [State.cutOwn_of_other false (by rw [still, part]; decide) (by rw [still, part]; decide)]
    unfold State.endReception
    rw [part]
    cases s.cbi.rx <;> rfl
  | listener =>
    rw [State.cutOwn_of_other false (by rw [still, part]; decide) (by rw [still, part]; decide)]
    unfold State.endReception
    rw [part]
    cases s.cbi.rx with
    | none => rfl
    | some r =>
      simp only [r.complete_eq, heardWhole_eq] <;> rfl

theorem State.cutReception_cutOwn_eq (s : State) :
    s.cutReception.cutOwn true = match s.cbi.part with
      | .none => s
      | .contender => s.loseContention
      | .caller => match s.cbi.call with
        | some c => s.cutCall true c
        | none => s
      | .callee => if s.cbi.rx = none then s else s.badEnd
      | .listener => match s.cbi.rx with
        | none => s
        | some r => if r.kind = .flood then s.badEnd else s.discardBroadcast := by
  have still := s.cutReception_part
  cases part : s.cbi.part with
  | none | contender | caller =>
    rw [State.cutReception_of_other (by rw [part]; decide) (by rw [part]; decide)]
    unfold State.cutOwn
    rw [part] <;> cases s.cbi.call <;> rfl
  | callee | listener =>
    rw [State.cutOwn_of_other true (by rw [still, part]; decide) (by rw [still, part]; decide)]
    unfold State.cutReception
    rw [part]
    cases s.cbi.rx <;> rfl

theorem State.busFree_of_now {s : State} {t : Nat} (time : s.now = t) :
    s.busFree = { s with cbi := { s.cbi with
      phase := .free, part := .none, bsyDrive := false, idDrive := false, urgDrive := false, contending := none
      call := none, rx := none, reservedOver := none, freeSince := some t } } := by
  subst time
  rfl

/-- Settles O26: what ended and was cut, by the part played, and then the bus FREE. -/
theorem busFallAndResetEndTheCall : Obligations.BusFallAndResetEndTheCall := by
  refine ⟨fun s => ?_, fun s => ?_⟩
  · intro f low free discarded whole
    have time : (low.endReception.cutOwn false).now = s.now := (State.cutOwn_now _ _).trans low.endReception_now
    have freed : (low.endReception.cutOwn false).busFree = free (low.endReception.cutOwn false) :=
      State.busFree_of_now time
    rw [low.endReception_cutOwn_eq] at freed
    refine congrArg (fun u => Host.Outcome.next (State.settle s u)) (if_congr Iff.rfl rfl ?_)
    rw [State.endReception_cutOwn_eq]
    exact freed
  · refine congrArg (fun u => Host.Outcome.next (State.settle s u)) (if_congr Iff.rfl rfl ?_)
    rw [State.cutReception_cutOwn_eq]
    rfl

end Sys2Proof.Machine
end

section
/-! SUPPORT. The quiet gap, the watchdog of CB_BSY, and the self-check of the bus lines. -/

namespace Sys2Proof

/-! ## The result of the self-check loop (R81) -/

/-- What is driven for word n of the loop, as a number. -/
def selfCheckPattern (n : Nat) : Nat := if n / 16 % 2 = 0 then 2 ^ (n % 16) else 65535 - 2 ^ (n % 16)

/-- Word n read back with a parity line that is not the odd one. -/
def selfCheckFlagged (readBack : List (Word × Bool)) (n : Nat) : Bool := readBack[n]?.any fun x => x.2 != oddParity x.1

/-- Word n read back unequal to what was driven. -/
def selfCheckUnequal (readBack : List (Word × Bool)) (n : Nat) : Bool :=
  readBack[n]?.any fun x => x.1.toNat != selfCheckPattern n

/-- Word n of the loop has failed: flagged where word 40 alone should be, or unequal. -/
def selfCheckFails (readBack : List (Word × Bool)) (n : Nat) : Bool :=
  (selfCheckFlagged readBack n != (n == 40)) || selfCheckUnequal readBack n

theorem selfCheckFails_iff (readBack : List (Word × Bool)) (n : Nat) :
    selfCheckFails readBack n = true ↔
      ¬(selfCheckFlagged readBack n = true ↔ n = 40) ∨ selfCheckUnequal readBack n = true := by
  rw [selfCheckFails, Bool.or_eq_true, bne_iff_ne, ne_eq, Bool.eq_iff_iff, beq_iff_eq]

theorem selfCheckWord_toNat (n : Nat) : (selfCheckWord n).toNat = selfCheckPattern n := by
  have below : 2 ^ (n % 16) < 2 ^ 16 := Nat.pow_lt_pow_right (by decide) (Nat.mod_lt n (by decide))
  have bit : (wordOf (2 ^ (n % 16))).toNat = 2 ^ (n % 16) := by
    rw [wordOf, BitVec.toNat_ofNat, Nat.mod_eq_of_lt below]
  unfold selfCheckWord selfCheckPattern
  split
  · exact bit
  · rw [BitVec.toNat_not, bit]

theorem selfCheckFlags_eq {readBack : List (Word × Bool)} {n : Nat} (read : n < readBack.length) :
    selfCheckFlags readBack n = (selfCheckFlagged readBack n, selfCheckUnequal readBack n) := by
  have word (w : Word) : (w != selfCheckWord n) = (w.toNat != selfCheckPattern n) := by
    rw [Bool.eq_iff_iff, bne_iff_ne, bne_iff_ne, ne_eq, ne_eq, ← selfCheckWord_toNat, BitVec.toNat_inj]
  rw [selfCheckFlags, selfCheckFlagged, selfCheckUnequal, List.getElem?_eq_getElem read]
  exact Prod.ext rfl (word _)

theorem selfCheckResult_eq {readBack : List (Word × Bool)} (whole : readBack.length = 64) :
    selfCheckResult readBack =
      { pass := !(List.range 64).any (selfCheckFails readBack)
        flagged := ((List.range 64).filter (selfCheckFlagged readBack)).length
        unequal := ((List.range 64).filter (selfCheckUnequal readBack)).length
        first := (List.range 64).find? (selfCheckFails readBack) } := by
  have flags (n : Nat) (m : n ∈ List.range 64) :
      selfCheckFlags readBack n = (selfCheckFlagged readBack n, selfCheckUnequal readBack n) :=
    selfCheckFlags_eq (whole ▸ List.mem_range.mp m)
  have fails (n : Nat) (m : n ∈ List.range 64) :
      ((selfCheckFlags readBack n).1 != (n == 40) || (selfCheckFlags readBack n).2) = selfCheckFails readBack n := by
    rw [flags n m, selfCheckFails]
  have first := List.find?_congr fails
  have any := congrArg (fun x => !Option.isSome x) first
  rw [List.isSome_find?, List.isSome_find?] at any
  exact SelfCheckResult.mk.injEq .. ▸ ⟨any, congrArg List.length (List.filter_congr fun n m => congrArg Prod.fst (flags n m)),
    congrArg List.length (List.filter_congr fun n m => congrArg Prod.snd (flags n m)), first⟩

end Sys2Proof

namespace Sys2Proof.Machine

/-! ## The self-check's start and end (R59, R80, R81) -/

theorem execSelfCheckStart_eq (s : State) :
    let seen : State := if s.cbi.phase = .unknown ∧ s.cbi.bsy = false
      then { s with out := [], cbi := { s.cbi with phase := .free, freeSince := some s.now } } else { s with out := [] }
    execSelfCheckStart s = .next (
      if s.cbi.selfWanted = true ∧ seen.cbi.phase = .free ∧ s.cbi.part = .none then
        { s with out := [], cbi := { s.cbi with
          selfWanted := false, phase := .selfCheck, watch := none, selfSince := some s.now, freeSince := none } }
      else seen) := by
  unfold execSelfCheckStart
  rw [State.observeBus_fresh]
  by_cases unknown : s.cbi.phase = .unknown ∧ s.cbi.bsy = false
  · simp only [if_pos unknown]
  · simp only [if_neg unknown]

theorem State.observeBus_reply (result : Result) (data : ReplyData) (s : State) :
    (s.reply result data).observeBus = s.observeBus.reply result data := by
  unfold State.reply
  have same : s.observeBus.orh = s.orh := rfl
  rw [same]
  cases s.orh.executing <;> rfl

theorem execSelfCheckEnd_eq (readBack : List (Word × Bool)) (s : State) :
    execSelfCheckEnd readBack s = .next (State.settle s (
      if s.cbi.phase ≠ .selfCheck then s.fresh
      else State.reply .done (.selfCheck (selfCheckResult readBack)) { s.fresh with cbi := { s.cbi with
        selfSince := none
        phase := if s.cbi.bsy = false then .free else .unknown
        freeSince := if s.cbi.bsy = false then some s.now else s.cbi.freeSince } })) := by
  unfold execSelfCheckEnd
  dsimp only
  rw [State.observeBus_reply, ite_not]
  cases low : s.cbi.bsy <;> simp [State.observeBus, low, State.fresh]

/-- Settles O28: one equation for each of the four instructions, and the result of the loop. -/
theorem gapWatchdogAndSelfCheck : Obligations.GapWatchdogAndSelfCheck := by
  refine ⟨⟨fun s => ⟨?_, ?_⟩, fun readBack s => ⟨execSelfCheckStart_eq s, execSelfCheckEnd_eq readBack s⟩⟩,
    fun readBack whole => ?_⟩
  · refine congrArg Host.Outcome.next (if_congr ?_ rfl rfl)
    rw [Option.isSome_iff_ne_none]
  · refine congrArg Host.Outcome.next (if_congr ?_ rfl rfl)
    rw [Option.isSome_iff_ne_none]
  · intro pattern flagged unequal fails r
    have holds : r = _ := selfCheckResult_eq whole
    have failing (n : Nat) : selfCheckFails readBack n = true ↔ fails n := selfCheckFails_iff readBack n
    clear_value fails r
    subst holds
    have passes : (!(List.range 64).any (selfCheckFails readBack)) = true ↔ ∀ n, n < 64 → ¬fails n := by
      simp only [Bool.not_eq_true', List.any_eq_false, List.mem_range, failing]
    refine ⟨passes, passes.trans ?_, fun n => ?_, rfl, rfl⟩
    · simp only [List.find?_eq_none, List.mem_range, failing]
    · simp only [List.find?_range_eq_some, List.mem_range, Bool.not_eq_true', ← Bool.not_eq_true, failing]
      exact and_left_comm

end Sys2Proof.Machine
end

section
/-! SUPPORT. Words on the bus lines: parity, and the fields of notices, claims and quiets. -/

namespace Sys2Proof

/-! ## Parity (R58, R76) -/

/-- Two predicates that differ at one place of a list without duplicates count differently, by parity. -/
theorem length_filter_mod_two_ne {l : List Nat} (distinct : l.Nodup) {i : Nat} (here : i ∈ l) {p q : Nat → Bool}
    (differ : p i = !q i) (agree : ∀ k, k ≠ i → p k = q k) :
    (l.filter p).length % 2 ≠ (l.filter q).length % 2 := by
  have others : (l.erase i).countP p = (l.erase i).countP q :=
    List.countP_congr fun k m => by rw [agree k (distinct.mem_erase_iff.mp m).1]
  rw [← List.countP_eq_length_filter, ← List.countP_eq_length_filter, (List.perm_cons_erase here).countP_eq,
    (List.perm_cons_erase here).countP_eq, List.countP_cons, List.countP_cons, others, differ]
  cases q i <;> simp <;> omega

theorem getLsbD_flip (w : Word) (i : Fin 16) (k : Nat) :
    (w ^^^ BitVec.ofNat 16 (2 ^ i.val)).getLsbD k = (w.getLsbD k ^^ decide (i.val = k)) := by
  have := i.isLt
  rw [BitVec.getLsbD_xor, BitVec.getLsbD_ofNat, Nat.testBit_two_pow]
  by_cases at_ : i.val = k
  · rw [decide_eq_true at_, decide_eq_true (show k < 16 by omega), Bool.and_true]
  · rw [decide_eq_false at_, Bool.and_false]

theorem oddParity_flip (w : Word) (i : Fin 16) : oddParity (w ^^^ BitVec.ofNat 16 (2 ^ i.val)) = !oddParity w := by
  have differ : asserted (w ^^^ BitVec.ofNat 16 (2 ^ i.val)) % 2 ≠ asserted w % 2 := by
    refine length_filter_mod_two_ne List.nodup_range (List.mem_range.mpr i.isLt) ?_ fun k other => ?_
    · rw [getLsbD_flip, decide_eq_true rfl, Bool.xor_true]
    · rw [getLsbD_flip, decide_eq_false (Ne.symm other), Bool.xor_false]
  have two (n : Nat) : n % 2 = 0 ∨ n % 2 = 1 := by omega
  unfold oddParity
  rcases two (asserted w) with even | odd
  · rw [even, (two _).resolve_left (even ▸ differ)]
    rfl
  · rw [odd, (two _).resolve_right (odd ▸ differ)]
    rfl

/-! ## Fields of a word -/

theorem toNat_extractLsb'_eq_field (w : Word) (lo len : Nat) : (w.extractLsb' lo len).toNat = field w lo len := by
  rw [BitVec.extractLsb'_toNat, Nat.shiftRight_eq_div_pow, field]

theorem extractLsb'_eq_of_field {w : Word} {lo len : Nat} {c : BitVec len} (h : field w lo len = c.toNat) :
    w.extractLsb' lo len = c := BitVec.eq_of_toNat_eq ((toNat_extractLsb'_eq_field w lo len).trans h)

theorem getLsbD_eq_field (w : Word) (k : Nat) : w.getLsbD k = (field w k 1 == 1) := by
  rw [BitVec.getLsbD, Nat.testBit_eq_decide_div_mod_eq, field]
  rfl

theorem wordOf_toNat {n : Nat} (fits : n < 65536) : (wordOf n).toNat = n := by
  rw [wordOf, BitVec.toNat_ofNat, Nat.mod_eq_of_lt fits]

theorem field_wordOf {n : Nat} (fits : n < 65536) (lo len : Nat) : field (wordOf n) lo len = n / 2 ^ lo % 2 ^ len := by
  rw [field, wordOf_toNat fits]

theorem flagAt_eq_mul (b : Bool) (k : Nat) : flagAt b k = b.toNat * 2 ^ k := by cases b <;> simp [flagAt]

theorem toNat_beq_one (b : Bool) : (b.toNat == 1) = b := by cases b <;> rfl

/-! ## The words of a NOTICE (section 4.10) -/

theorem Role.code_le (r : Role) : r.code ≤ 2 := by cases r <;> decide
theorem PowerMode.code_le (p : PowerMode) : p.code ≤ 2 := by cases p <;> decide
theorem NoticeTest.code_le (t : NoticeTest) : t.code ≤ 2 := by cases t <;> decide

@[simp] theorem Role.ofCode_code (r : Role) : Role.ofCode r.code = some r := by cases r <;> rfl
@[simp] theorem PowerMode.ofCode_code (p : PowerMode) : PowerMode.ofCode p.code = some p := by cases p <;> rfl
@[simp] theorem NoticeTest.ofCode_code (t : NoticeTest) : NoticeTest.ofCode t.code = some t := by cases t <;> rfl

/-- The number of a notice's first word. -/
def noticeHead (n : Notice) : Nat :=
  n.role.code * 16384 + n.mains.code * 4096 + flagAt n.storm 11 + n.test.code * 512 + n.group.val * 32 +
    flagAt n.dup 4 + flagAt n.uplinkUp 3

/-- The fields of a notice's first word. -/
theorem noticeHead_fields (n : Notice) :
    field (wordOf (noticeHead n)) 14 2 = n.role.code ∧ field (wordOf (noticeHead n)) 12 2 = n.mains.code ∧
      field (wordOf (noticeHead n)) 11 1 = n.storm.toNat ∧ field (wordOf (noticeHead n)) 9 2 = n.test.code ∧
      field (wordOf (noticeHead n)) 5 4 = n.group.val ∧ field (wordOf (noticeHead n)) 4 1 = n.dup.toNat ∧
      field (wordOf (noticeHead n)) 3 1 = n.uplinkUp.toNat ∧ field (wordOf (noticeHead n)) 0 3 = 0 := by
  have role := n.role.code_le
  have mains := n.mains.code_le
  have test := n.test.code_le
  have group := n.group.isLt
  have storm := n.storm.toNat_le
  have dup := n.dup.toNat_le
  have up := n.uplinkUp.toNat_le
  have head : noticeHead n = n.role.code * 16384 + n.mains.code * 4096 + n.storm.toNat * 2048 + n.test.code * 512 +
      n.group.val * 32 + n.dup.toNat * 16 + n.uplinkUp.toNat * 8 := by
    simp only [noticeHead, flagAt_eq_mul]
    rfl
  generalize noticeHead n = a at *
  have fits : a < 65536 := by omega
  simp only [field_wordOf fits]
  refine ⟨?_, ?_, ?_, ?_, ?_, ?_, ?_, ?_⟩ <;> omega

theorem Notice.wf_iff (n : Notice) :
    n.wf = true ↔ n.powerWeight ≤ 128 ∧ n.weight ≤ 120 ∧ n.demand < 65536 ∧ n.powerDemand < 65536 ∧ n.u < 65536 ∧
      n.b < 65536 := by
  simp only [Notice.wf, Bool.and_eq_true, decide_eq_true_eq, and_assoc]

/-- The fields of a notice's second word. -/
theorem noticeWeights_fields {n : Notice} (power : n.powerWeight ≤ 128) (weight : n.weight ≤ 120) :
    field (wordOf (n.powerWeight * 256 + n.weight)) 8 8 = n.powerWeight ∧
      field (wordOf (n.powerWeight * 256 + n.weight)) 7 1 = 0 ∧
      field (wordOf (n.powerWeight * 256 + n.weight)) 0 7 = n.weight := by
  simp only [field_wordOf (show n.powerWeight * 256 + n.weight < 65536 by omega)]
  refine ⟨?_, ?_, ?_⟩ <;> omega

theorem noticeOf_noticeWords {n : Notice} (wf : n.wf = true) : noticeOf (noticeWords n) = some n := by
  obtain ⟨power, weight, demand, powerDemand, u, b⟩ := n.wf_iff.mp wf
  obtain ⟨role, mains, storm, test, group, dup, up, -⟩ := noticeHead_fields n
  obtain ⟨powerField, -, weightField⟩ := noticeWeights_fields power weight
  have same : groupOf n.group.val = n.group := Fin.ofNat_val_eq_self ..
  change noticeOf [wordOf (noticeHead n), _, _, _, _, _] = _
  simp only [noticeOf, role, mains, storm, test, group, dup, up, powerField, weightField, Role.ofCode_code,
    PowerMode.ofCode_code, NoticeTest.ofCode_code, toNat_beq_one, same, wordOf_toNat demand, wordOf_toNat powerDemand,
    wordOf_toNat u, wordOf_toNat b, if_pos (And.intro power weight)]

theorem noticeOf_wf {ws : List Word} {n : Notice} (h : noticeOf ws = some n) : ws.length = 6 ∧ n.wf = true := by
  unfold noticeOf at h
  split at h
  · rename_i a b d p u bb
    split at h
    · split at h
      · rename_i weights
        obtain rfl := Option.some.inj h
        exact ⟨rfl, Notice.wf_iff _ |>.mpr ⟨weights.1, weights.2, d.isLt, p.isLt, u.isLt, bb.isLt⟩⟩
      · cases h
    · cases h
  · cases h

/-! ## The words of a CLAIM and of a QUIET (section 4.10) -/

theorem claimWord_fields (h : HomeId) (g : Group) :
    field (wordOf (h.val * 256 + g.val)) 11 5 = 0 ∧ field (wordOf (h.val * 256 + g.val)) 8 3 = h.val ∧
      field (wordOf (h.val * 256 + g.val)) 4 4 = 0 ∧ field (wordOf (h.val * 256 + g.val)) 0 4 = g.val := by
  have := h.isLt
  have := g.isLt
  simp only [field_wordOf (show h.val * 256 + g.val < 65536 by omega)]
  refine ⟨?_, ?_, ?_, ?_⟩ <;> omega

theorem heardOf_claimWords (caller : StationId) (h : HomeId) (g : Group) :
    heardOf .claim caller (claimWords h g) = some (.claim caller h g) := by
  obtain ⟨-, home, -, group⟩ := claimWord_fields h g
  have sameHome : octal h.val = h := Fin.ofNat_val_eq_self ..
  have sameGroup : groupOf g.val = g := Fin.ofNat_val_eq_self ..
  simp only [heardOf, claimWords, home, group, sameHome, sameGroup]

theorem heardOf_quietWords (caller : StationId) (g : Group) {ms : Nat} (pos : 1 ≤ ms) (fits : ms < 65536) :
    heardOf .quiet caller (quietWords g ms) = some (.quiet g (wordOf ms)) := by
  have := g.isLt
  have group : field (wordOf g.val) 0 4 = g.val := by
    rw [field_wordOf (by omega)]
    omega
  have same : groupOf g.val = g := Fin.ofNat_val_eq_self ..
  simp only [heardOf, quietWords, wordOf_toNat fits, if_neg (show ¬ms = 0 by omega), group, same]

/-- Settles O29: parity under one changed line, the fields, and the notices read from words. -/
theorem wordsCarryParityAndNotices : Obligations.WordsCarryParityAndNotices := by
  refine ⟨fun w i => ⟨?_, ?_, ?_⟩, fun n wf => ?_, fun h g => ?_, fun g ms fits => ?_, fun n wf => noticeOf_noticeWords wf,
    fun ws n h => noticeOf_wf h, fun caller h g ms pos fits => ⟨heardOf_claimWords caller h g, heardOf_quietWords caller g pos fits⟩⟩
  · exact (goodParity_eq_true_iff w _).mpr rfl
  · rw [goodParity, Bool.not_beq_self]
  · rw [goodParity, oddParity_flip, Bool.beq_not_self]
  · obtain ⟨power, weight, demand, powerDemand, u, b⟩ := n.wf_iff.mp wf
    obtain ⟨role, mains, storm, test, group, dup, up, low⟩ := noticeHead_fields n
    obtain ⟨powerField, gap, weightField⟩ := noticeWeights_fields power weight
    refine ⟨wordOf (noticeHead n), _, _, _, _, _, rfl, extractLsb'_eq_of_field (role.trans ?_),
      extractLsb'_eq_of_field (mains.trans ?_), ?_, extractLsb'_eq_of_field (test.trans ?_),
      (toNat_extractLsb'_eq_field ..).trans group, ?_, ?_, extractLsb'_eq_of_field low,
      (toNat_extractLsb'_eq_field ..).trans powerField, ?_, (toNat_extractLsb'_eq_field ..).trans weightField,
      wordOf_toNat demand, wordOf_toNat powerDemand, wordOf_toNat u, wordOf_toNat b⟩
    · cases n.role <;> rfl
    · cases n.mains <;> rfl
    · rw [getLsbD_eq_field, storm, toNat_beq_one]
    · cases n.test <;> rfl
    · rw [getLsbD_eq_field, dup, toNat_beq_one]
    · rw [getLsbD_eq_field, up, toNat_beq_one]
    · rw [getLsbD_eq_field, gap]
      rfl
  · obtain ⟨high, home, mid, group⟩ := claimWord_fields h g
    exact ⟨_, rfl, extractLsb'_eq_of_field high, (toNat_extractLsb'_eq_field ..).trans home, extractLsb'_eq_of_field mid,
      (toNat_extractLsb'_eq_field ..).trans group⟩
  · have := g.isLt
    exact ⟨_, _, rfl, wordOf_toNat (by omega), wordOf_toNat fits⟩

end Sys2Proof
end

section
/-! SUPPORT. Claims: a rival's heard, an own one withdrawn, and the withdrawal settled. -/

namespace Sys2Proof.Machine

/-! ## A CLAIM heard (R151, R153) -/

/-- A test in hand ends where a conflict is heard; in any other state nothing does. -/
theorem State.endTest_conflict (caller : StationId) (s : State) :
    (if s.testHolding = true ∧ s.orh.stn ≤ caller then s.endTest .abortedConflict else s) =
      if (s.ten.state = .connecting ∨ s.ten.state = .measuring) ∧ s.orh.stn ≤ caller then
        s.enterReleasing (some .abortedConflict) none
      else s := by
  by_cases held : (s.ten.state = .connecting ∨ s.ten.state = .measuring) ∧ s.orh.stn ≤ caller
  · rw [if_pos held, if_pos ⟨s.testHolding_iff.mpr held.1, held.2⟩, State.endTest_eq, if_pos held.1]
  · rw [if_neg held, if_neg fun h => held ⟨s.testHolding_iff.mp h.1, h.2⟩]

theorem execClaimHeard_eq (caller : StationId) (h : HomeId) (g : Group) (s : State) :
    let heard : State := { s.fresh with cbi := { s.cbi with heard := s.cbi.heard.erase (.claim caller h g) } }
    let w := heard.withdrawClaim (some caller)
    execClaimHeard caller h g s = .next (State.settle s (
      if s.ten.state = .claiming then { w with ten := { w.ten with state := .waiting } }
      else if (s.ten.state = .connecting ∨ s.ten.state = .measuring) ∧ s.orh.stn ≤ caller then
        heard.enterReleasing (some .abortedConflict) none
      else heard)) := by
  intro heard w
  exact congrArg (fun u => Host.Outcome.next (State.settle s u)) (if_congr Iff.rfl rfl (State.endTest_conflict caller heard))

/-! ## The withdrawal (R61, R151, R152) -/

theorem State.claimsAnyway_iff (s : State) (w : Withdrawal) :
    s.claimsAnyway w = true ↔ w.settled = some true ∧ s.ten.state = .waiting ∧ w.rival.any (· < s.orh.stn) = true ∧
      s.ten.queue.head?.map TestEntry.home = some w.home := by
  unfold State.claimsAnyway
  cases w.rival <;> simp [and_assoc]

theorem execClaimWithdrawalSettled_eq {s : State} {w : Withdrawal} (withdrawn : s.ten.withdrawal = some w) :
    let u : State := { s.fresh with ten := { s.ten with withdrawal := none } }
    execClaimWithdrawalSettled s = .next (State.settle s (
      if w.settled = none then s.fresh
      else if w.settled = some true ∧ s.ten.state = .waiting ∧ w.rival.any (· < s.orh.stn) = true ∧
          s.ten.queue.head?.map TestEntry.home = some w.home then u.connect
      else if w.owed = true then u.examine
      else u)) := by
  unfold execClaimWithdrawalSettled
  rw [withdrawn]
  exact congrArg (fun u => Host.Outcome.next (State.settle s u))
    (if_congr Iff.rfl rfl (if_congr (State.claimsAnyway_iff s w) rfl rfl))

theorem execClaimWithdrawalSettled_of_none {s : State} (nothing : s.ten.withdrawal = none) :
    execClaimWithdrawalSettled s = .next (State.settle s s.fresh) := by
  unfold execClaimWithdrawalSettled
  rw [nothing]

theorem State.withdrawClaim_of_waiting (rival : Option StationId) {s : State} {c : ClaimCall} (claim : s.cbi.claim = some c)
    (waits : s.cbi.contending ≠ some .claim) :
    s.withdrawClaim rival = { s with
      cbi := { s.cbi with claim := none }
      ten := { s.ten with withdrawal := some ⟨rival, c.home, some false, s.ten.withdrawal.any Withdrawal.owed⟩ } } := by
  unfold State.withdrawClaim
  rw [claim]
  exact if_neg waits

theorem State.withdrawClaim_of_contending (rival : Option StationId) {s : State} {c : ClaimCall}
    (claim : s.cbi.claim = some c) (contends : s.cbi.contending = some .claim) :
    s.withdrawClaim rival = { s with
      cbi := { s.cbi with claim := some { c with withdrawn := true } }
      ten := { s.ten with withdrawal := some ⟨rival, c.home, none, s.ten.withdrawal.any Withdrawal.owed⟩ } } := by
  unfold State.withdrawClaim
  rw [claim]
  exact if_pos contends

theorem State.withdrawClaim_of_call (rival : Option StationId) {s : State} {c : ClaimCall} {t : StationId} {ws : List Word}
    (claim : s.cbi.claim = none) (call : s.cbi.call = some ⟨.claim c, t, ws⟩) :
    s.withdrawClaim rival = { s with
      cbi := { s.cbi with call := some ⟨.claim { c with withdrawn := true }, t, ws⟩ }
      ten := { s.ten with withdrawal := some ⟨rival, c.home, none, s.ten.withdrawal.any Withdrawal.owed⟩ } } := by
  unfold State.withdrawClaim
  rw [claim, call]

theorem State.withdrawClaim_of_none (rival : Option StationId) {s : State} (claim : s.cbi.claim = none)
    (call : ¬∃ c t ws, s.cbi.call = some ⟨.claim c, t, ws⟩) :
    s.withdrawClaim rival = { s with ten := { s.ten with
      withdrawal := s.ten.withdrawal.map fun w => { w with rival := rival } } } := by
  unfold State.withdrawClaim
  rw [claim]
  split
  · exact absurd ‹none = some _› (by simp)
  · exact absurd ⟨_, _, _, ‹_›⟩ call
  · rfl

/-- Settles O31: claims heard and settled, claims gone out, and the four cases of a withdrawal. -/
theorem rivalClaimsAndWithdrawalsSettled : Obligations.RivalClaimsAndWithdrawalsSettled :=
  ⟨fun caller h g s => ⟨execClaimHeard_eq caller h g s, execClaimWithdrawalSettled_of_none,
      fun _ withdrawn => execClaimWithdrawalSettled_eq withdrawn⟩,
    fun _ => ⟨rfl, rfl⟩,
    fun rival _ => ⟨fun _ claim waits => State.withdrawClaim_of_waiting rival claim waits,
      fun _ claim contends => State.withdrawClaim_of_contending rival claim contends,
      fun _ _ _ claim call => State.withdrawClaim_of_call rival claim call,
      fun claim call => State.withdrawClaim_of_none rival claim call⟩⟩

end Sys2Proof.Machine
end

section
/-! SUPPORT. Orders and reports handed on: the entries taken, and the data words of a report. -/

namespace Sys2Proof

/-! ## The data of a report (R182 to R184) -/

theorem ReportBody.bare_iff (b : ReportBody) :
    b.bare = true ↔ (∃ c r, b = .reply c r .none ∨ b = .reply c r .restarting) ∨ b = .event .stormEnd ∨
      b = .event .gatewayLost ∨ b = .event .duplicateId ∨ b = .event .tbusyStuck ∨ b = .event .tbusyClear ∨
      b = .event .configDefaulted := by
  cases b with
  | reply c r d => cases d <;> simp [ReportBody.bare]
  | event e => cases e <;> simp [ReportBody.bare]

theorem ReportBody.fits_iff (b : ReportBody) :
    b.fits = true ↔ ∃ c r, (∃ st hs, b = .reply c r (.lineStatus st hs) ∧ hs.length ≤ 8) ∨
      ∃ rs left, b = .reply c r (.results rs left) ∧ rs.length ≤ 16 := by
  cases b with
  | reply c r d => cases d <;> simp [ReportBody.fits]
  | event e => simp [ReportBody.fits]

/-- The last of the places that pass a test is the first of them from the end. -/
theorem find?_reverse_eq_getLast?_filter {α : Type} (p : α → Bool) (l : List α) :
    l.reverse.find? p = (l.filter p).getLast? := by
  rw [← List.head?_filter, List.filter_reverse, List.head?_reverse]

/-- The data of a report that has data and is not of those that fit: at most 1024 words, whole records of a reply (R183). -/
theorem ReportBody.words_of_coded {b : ReportBody} (bare : ¬b.bare = true) (fits : ¬b.fits = true) :
    (∀ e, b = .event e → b.words = (Config.reportWords b none).take 1024) ∧
      ∀ c r d, b = .reply c r d → b.words =
        if (Config.reportWords b none).length ≤ 1024 then Config.reportWords b none
        else (cutWords c r d ((((List.range d.records).filter fun n =>
          decide ((cutWords c r d n).length ≤ 1024)).getLast?).getD 0)).take 1024 := by
  unfold ReportBody.words
  rw [if_neg bare, if_neg fits]
  refine ⟨?_, ?_⟩
  · rintro e rfl
    by_cases short : (Config.reportWords (.event e) none).length ≤ 1024
    · rw [if_pos short, List.take_of_length_le short]
    · exact if_neg short
  · rintro c r d rfl
    rw [← find?_reverse_eq_getLast?_filter]

end Sys2Proof

namespace Sys2Proof.Machine

/-! ## The entries taken (R66, R143, R182) -/

/-- The entry that an ORDER or REPORT call holds reserved, as a number (R66). -/
theorem reserved_eq (k : CallKind) (c : Cbi) :
    (if c.reserves k then 1 else 0) =
      if (c.part = .callee ∧ (c.rx.any fun r => decide (r.kind = k)) = true) ∨ c.reservedOver = some k then 1 else 0 := by
  refine if_congr ?_ rfl rfl
  simp only [Cbi.reserves, Bool.or_eq_true, Bool.and_eq_true, beq_iff_eq]
  rfl

theorem State.stalled_eq_false_iff (s : State) :
    s.stalled = false ↔ s.orh.queue.length + (if s.orh.executing.isSome then 1 else 0) < 16 ∧ s.orh.restart = none := by
  rw [State.stalled, Bool.or_eq_false_iff, decide_eq_false_iff_not, Nat.not_le, Option.isSome_eq_false_iff,
    Option.isNone_iff_eq_none]
  rfl

theorem State.working_iff (s : State) : s.working = true ↔ s.pvw.role = .active := by
  simp [State.working]

theorem execManagementOrderHandoff_of_own {s : State} {m : MgmtOrder}
    (own : s.gwu.orders.find? (fun m => m.target == s.orh.stn) = some m) :
    execManagementOrderHandoff s = .next (State.settle s (
      if s.working = true ∧ s.orderEntries < 4 ∧ s.stalled = false then { s.fresh with
        gwu := { s.gwu with orders := s.gwu.orders.eraseP fun m => m.target == s.orh.stn }
        cbi := { s.cbi with orders := s.cbi.orders ++ [m.order] } }
      else s.fresh)) := by
  unfold execManagementOrderHandoff
  rw [own]
  rfl

theorem execManagementOrderHandoff_of_none {s : State} (others : ∀ m ∈ s.gwu.orders, m.target ≠ s.orh.stn) :
    execManagementOrderHandoff s = .next (State.settle s s.fresh) := by
  have nothing : s.gwu.orders.find? (fun m => m.target == s.orh.stn) = none :=
    List.find?_eq_none.mpr fun m mem => by simpa using others m mem
  unfold execManagementOrderHandoff
  rw [nothing]

theorem execOwnReportPass_eq (s : State) :
    execOwnReportPass s = .next (State.settle s (
      match s.orh.queue with
      | r :: q =>
        if s.working = true ∧ s.reportEntries < 32 then { s.fresh with
          orh := { s.orh with queue := q }
          gwu := { s.gwu with reports := s.gwu.reports ++ [⟨r.tag, BitVec.ofNat 8 s.orh.stn.val, .own r.body⟩] } }
        else s.fresh
      | [] => s.fresh)) := by
  unfold execOwnReportPass
  cases s.working with
  | false => cases s.orh.queue <;> simp
  | true => cases s.orh.queue <;> simp only [true_and] <;> rfl

theorem execOrderStart_eq (s : State) :
    execOrderStart s = .next (State.settle s (
      match s.cbi.orders with
      | o :: q =>
        if s.orh.executing = none ∧ s.orh.restart = none ∧ s.orh.queue.length < 16 then { s.fresh with
          cbi := { s.cbi with orders := q }, orh := { s.orh with executing := some o } }
        else s.fresh
      | [] => s.fresh)) := by
  have room (idle : s.orh.executing = none) : s.orh.entries = s.orh.queue.length := by
    rw [Orh.entries, idle]
    rfl
  have starts : (s.orh.executing = none ∧ s.orh.restart = none ∧ s.orh.entries < 16) ↔
      s.orh.executing = none ∧ s.orh.restart = none ∧ s.orh.queue.length < 16 :=
    and_congr_right fun idle => by rw [room idle]
  unfold execOrderStart
  cases s.cbi.orders with
  | nil => rfl
  | cons o q => exact congrArg (fun u => Host.Outcome.next (State.settle s u)) (if_congr starts rfl rfl)

/-- Settles O43: the three hand-overs, the management handler's report, and the data of a report. -/
theorem ordersAndReportsHandedOn : Obligations.OrdersAndReportsHandedOn := by
  intro s f reserved orderRoom entries
  have orders : s.orderEntries = s.cbi.orders.length + reserved .order := congrArg (_ + ·) (reserved_eq .order s.cbi)
  have reports : s.reportEntries = s.gwu.reports.length + reserved .report := congrArg (_ + ·) (reserved_eq .report s.cbi)
  refine ⟨fun m own => ?_, execManagementOrderHandoff_of_none, ?_, execOrderStart_eq s, fun tag station code result => ?_,
    fun r => ⟨?_, r.body.words_length_le⟩, fun b => ⟨fun bare => ?_, fun fits => ?_, fun bare fits => ?_⟩⟩
  · refine (execManagementOrderHandoff_of_own own).trans ?_
    refine congrArg (fun u => Host.Outcome.next (State.settle s u)) (if_congr ?_ rfl rfl)
    rw [s.working_iff, orders, s.stalled_eq_false_iff]
  · refine (execOwnReportPass_eq s).trans ?_
    have passes : (s.working = true ∧ s.reportEntries < 32) ↔
        s.pvw.role = .active ∧ s.gwu.reports.length + reserved .report < 32 := by rw [s.working_iff, reports]
    cases s.orh.queue with
    | nil => rfl
    | cons => exact congrArg (fun u => Host.Outcome.next (State.settle s u)) (if_congr passes rfl rfl)
  · rw [State.handlerReport, reports]
    by_cases room : s.gwu.reports.length + reserved .report < 32
    · rw [if_pos room, if_pos room]
    · rw [if_neg room, if_neg room]
  · have kind : flagAt r.body.isEvent 15 = if r.body.isEvent then 32768 else 0 := rfl
    rw [reportCallWords, kind]
  · exact b.words_of_bare (b.bare_iff.mpr bare)
  · exact b.words_of_fits (b.fits_iff.mpr fits)
  · exact ReportBody.words_of_coded (mt b.bare_iff.mp bare) (mt b.fits_iff.mp fits)

end Sys2Proof.Machine
end

section
/-! SUPPORT. The orders on tests, the self-check order and the restart. -/

namespace Sys2Proof

/-! ## Requests merged (R149) -/

theorem MeasureKind.ofFv_eq (k : MeasureKind) : k.ofFv = decide (k = .dcvTG ∨ k = .dcvRG ∨ k = .acvTR) := by
  cases k <;> rfl

theorem MeasureKind.ofIr_eq (k : MeasureKind) : k.ofIr = decide (k = .resTR ∨ k = .resTG ∨ k = .resRG) := by
  cases k <;> rfl

theorem MeasureKind.ofCap_eq (k : MeasureKind) : k.ofCap = decide (k = .capTR) := by
  cases k <;> rfl

/-- Whether an entry carries a measurement of a kind that passes. -/
def TestEntry.carries (e : TestEntry) (p : MeasureKind → Bool) : Bool :=
  (e.carried.elim [] Carried.meas).any fun m => p m.kind

theorem TestEntry.merge_eq (e : TestEntry) (set : TestSet) (quiet : Bool) :
    e.merge set quiet = { e with
      quiet := e.quiet || quiet
      set := ⟨(e.set.fv || set.fv) && !e.carries fun k => decide (k = .dcvTG ∨ k = .dcvRG ∨ k = .acvTR),
              (e.set.ir || set.ir) && !e.carries fun k => decide (k = .resTR ∨ k = .resTG ∨ k = .resRG),
              (e.set.cap || set.cap) && !e.carries fun k => decide (k = .capTR)⟩ } := by
  have carried : (e.carried.map Carried.meas).getD [] = e.carried.elim [] Carried.meas := by cases e.carried <;> rfl
  simp only [TestEntry.merge, TestEntry.carriedSteps, carried, stepsOf_eq, MeasureKind.ofFv_eq, MeasureKind.ofIr_eq,
    MeasureKind.ofCap_eq]
  rfl

end Sys2Proof

namespace Sys2Proof.Machine

theorem Ten.request_eq (h : HomeId) (set : TestSet) (quiet : Bool) (origin : Origin) (t : Ten) :
    t.request h set quiet origin =
      if ∃ e ∈ t.queue, e.home = h then
        some { t with queue := t.queue.map fun e => if e.home = h then e.merge set quiet else e }
      else if 8 ≤ t.queue.length + (if t.current.isSome then 1 else 0) then none
      else some { t with queue := t.queue ++ [⟨h, set, quiet, origin, origin, none⟩] } := by
  refine if_congr ?_ rfl rfl
  simp only [List.any_eq_true, beq_iff_eq]

theorem Ten.placeOf_of_absent {h : HomeId} {t : Ten} (absent : ∀ e ∈ t.queue, e.home ≠ h) : t.placeOf h = .none := by
  have nowhere : t.queue.findIdx? (fun e => e.home == h) = none :=
    List.findIdx?_eq_none_iff.mpr fun e mem => by simpa using absent e mem
  rw [Ten.placeOf, nowhere]

theorem Ten.placeOf_of_first {h : HomeId} {t : Ten} {a b : List TestEntry} {e : TestEntry} (queue : t.queue = a ++ e :: b)
    (before : ∀ x ∈ a, x.home ≠ h) (home : e.home = h) : t.placeOf h = .testPlace (a.length + 1) e.set := by
  have place : t.queue.findIdx? (fun e => e.home == h) = some a.length := by
    have nowhere : a.findIdx? (fun e => e.home == h) = none :=
      List.findIdx?_eq_none_iff.mpr fun x mem => by simpa using before x mem
    rw [queue, List.findIdx?_append, nowhere, List.findIdx?_cons, beq_iff_eq.mpr home]
    simp
  have entry : t.queue[a.length]? = some e := by
    rw [queue, List.getElem?_append_right (Nat.le_refl _), Nat.sub_self]
    rfl
  rw [Ten.placeOf, place]
  simp only [entry]
  rfl

/-! ## Cancellations (R165) -/

theorem Ten.currentHome_eq_some_iff (h : HomeId) (t : Ten) :
    t.currentHome = some h ↔ t.current.any (fun c => decide (c.home = h)) = true := by
  unfold Ten.currentHome
  cases t.current <;> simp

theorem Ten.suspending_iff (t : Ten) :
    t.suspending = true ↔
      t.state = .releasing ∧ t.current.any (fun c => decide (c.outcome = none ∧ c.cause ≠ none)) = true := by
  unfold Ten.suspending
  cases t.current <;> simp [Option.isSome_iff_ne_none]

theorem State.cancelCurrent_eq (h : HomeId) (s : State) :
    s.cancelCurrent h =
      if s.ten.current.any (fun c => decide (c.home = h)) = false then s
      else if s.ten.state = .connecting ∨ s.ten.state = .measuring then
        s.enterReleasing (some .abortedCancel) none
      else if s.ten.state = .releasing ∧
          s.ten.current.any (fun c => decide (c.outcome = none ∧ c.cause ≠ none)) = true then
        { s with ten := { s.ten with current := s.ten.current.map fun c => { c with cancelled := true } } }
      else s := by
  rw [State.cancelCurrent, if_congr (s.ten.currentHome_eq_some_iff h) rfl rfl]
  by_cases own : s.ten.current.any (fun c => decide (c.home = h)) = true
  · rw [if_pos own, if_neg (Bool.not_eq_false _ |>.mpr own)]
    by_cases held : s.ten.state = .connecting ∨ s.ten.state = .measuring
    · rw [if_pos held, if_pos (s.testHolding_iff.mpr held), State.endTest_eq, if_pos held]
    · rw [if_neg held, if_neg (mt s.testHolding_iff.mp held)]
      exact if_congr s.ten.suspending_iff rfl rfl
  · rw [if_neg own, if_pos (Bool.eq_false_iff.mpr own)]

/-- A current test neither in hand nor suspended is left as it is. -/
theorem State.cancelCurrent_of_refused {h : HomeId} {s : State}
    (refused : ¬(s.ten.current.any (fun c => decide (c.home = h)) = true ∧
      ((s.ten.state = .connecting ∨ s.ten.state = .measuring) ∨ (s.ten.state = .releasing ∧
        s.ten.current.any (fun c => decide (c.outcome = none ∧ c.cause ≠ none)) = true)))) :
    s.cancelCurrent h = s := by
  rw [State.cancelCurrent_eq]
  split
  · rfl
  · rename_i own
    have neither := not_or.mp fun takes => refused ⟨(Bool.not_eq_false _).mp own, takes⟩
    rw [if_neg neither.1, if_neg neither.2]

/-- A cancellation finds an entry, or a current test in hand or suspended. -/
theorem State.cancels_iff (h : HomeId) (s : State) :
    s.cancels h = true ↔ (∃ e ∈ s.ten.queue, e.home = h) ∨
      (s.ten.current.any (fun c => decide (c.home = h)) = true ∧
        ((s.ten.state = .connecting ∨ s.ten.state = .measuring) ∨
          (s.ten.state = .releasing ∧
            s.ten.current.any (fun c => decide (c.outcome = none ∧ c.cause ≠ none)) = true))) := by
  rw [State.cancels, Bool.or_eq_true, Bool.and_eq_true, Bool.or_eq_true, beq_iff_eq, s.ten.currentHome_eq_some_iff,
    s.testHolding_iff, s.ten.suspending_iff, List.any_eq_true]
  simp only [beq_iff_eq]

/-- The record that a removed entry leaves. -/
theorem State.removedRecord_eq (e : TestEntry) (s : State) :
    s.removedRecord e = match e.carried with
      | some ⟨[], _⟩ => s
      | some ⟨m :: ms, .storm⟩ => s.writeRecord e.home e.firstOrigin .abortedStorm true (m :: ms)
      | some ⟨m :: ms, .power⟩ => s.writeRecord e.home e.firstOrigin .abortedCancel true (m :: ms)
      | none => s := by
  unfold State.removedRecord
  rcases e.carried with _ | ⟨_ | ⟨m, ms⟩, _ | _⟩ <;> rfl

theorem State.cancelEntry_eq (e : TestEntry) (s : State) :
    s.cancelEntry e = State.removedRecord e (
      let t := if s.ten.state = .claiming ∧ s.ten.queue.head? = some e then s.withdrawClaim none else s
      { t with ten := { t.ten with queue := s.ten.queue.filter fun x => x.home != e.home } }) := by
  unfold State.cancelEntry
  split
  · obtain ⟨c, call, w, withdrawn⟩ := s.withdrawClaim_spec none
    rw [withdrawn]
  · rfl

/-! ## The orders carried out -/

/-- The reply to a request for a test: the place and set of its entry, or that the queue is full (R149). -/
def State.replyRequest (h : HomeId) (r : Option Ten) (s : State) : State :=
  match r with
  | none => s.reply .refusedFull .none
  | some q => State.reply .done (q.placeOf h) { s with ten := q }

theorem State.replyRequest_eq (h : HomeId) (r : Option Ten) {s : State} {o : Order} (runs : s.orh.executing = some o) :
    s.fresh.replyRequest h r = match r with
      | none => { s.fresh with orh := { s.orh with
          queue := s.orh.queue ++ [⟨o.tag, .reply o.code .refusedFull .none⟩], executing := none } }
      | some q => { s.fresh with
          ten := q
          orh := { s.orh with
            queue := s.orh.queue ++ [⟨o.tag, .reply o.code .done (q.placeOf h)⟩], executing := none } } := by
  cases r with
  | none => exact State.reply_fresh _ _ runs
  | some q => exact State.reply_of_executing _ _ _ o (by exact runs)

/-- TEST_LINE carried out (R149, R183). -/
theorem execTestLine_eq {s : State} {o : Order} (runs : s.orh.executing = some o) (code : o.code = 5) :
    exec .testLine s = .next (State.settle s (
      if o.args.length < 3 ∨ 7 < o.arg 0 ∨ o.arg 1 = 0 ∨ 7 < o.arg 1 ∨ 1 < o.arg 2 then s.fresh.reply .refusedRange .none
      else if s.service (octal (o.arg 0)) = .unequipped ∨ s.service (octal (o.arg 0)) = .adminDown then
        s.fresh.reply .refusedState .none
      else s.fresh.replyRequest (octal (o.arg 0))
        (s.ten.request (octal (o.arg 0)) (testSetOf (o.arg 1)) (o.arg 2 == 1) .order))) := by
  rw [exec, execTestLine, State.execute_of_executing (code := 5) 3 true _ runs (congrArg BitVec.toNat code)]
  simp only [true_and, holdRefused_iff, ← ite_or, or_assoc]
  rfl

/-- CANCEL_TEST carried out (R165). -/
theorem execCancelTest_eq {s : State} {o : Order} (runs : s.orh.executing = some o) (code : o.code = 6) :
    exec .cancelTest s = .next (State.settle s (
      if o.args.length < 1 ∨ 7 < o.arg 0 then s.fresh.reply .refusedRange .none
      else State.reply (if s.cancels (octal (o.arg 0)) then .done else .refusedState) .none
        (((s.ten.queue.find? fun e => e.home == octal (o.arg 0)).elim s.fresh s.fresh.cancelEntry).cancelCurrent
          (octal (o.arg 0))))) := by
  rw [exec, execCancelTest, State.execute_of_executing (code := 6) 1 true _ runs (congrArg BitVec.toNat code)]
  simp only [true_and]
  have removed : (match s.fresh.ten.queue.find? fun e => e.home == octal (o.arg 0) with
      | some e => s.fresh.cancelEntry e
      | none => s.fresh) =
      (s.ten.queue.find? fun e => e.home == octal (o.arg 0)).elim s.fresh s.fresh.cancelEntry := by
    rw [State.fresh_ten]
    cases s.ten.queue.find? fun e => e.home == octal (o.arg 0) <;> rfl
  rw [← removed] <;> rfl

/-- A cancellation that finds no entry: the current test takes it, or it is refused (R165). -/
theorem State.replyCancel_eq {h : HomeId} {s : State} {o : Order} (absent : ∀ e ∈ s.ten.queue, e.home ≠ h)
    (runs : s.orh.executing = some o) :
    State.reply (if s.cancels h then .done else .refusedState) .none (s.fresh.cancelCurrent h) =
      if s.ten.current.any (fun c => decide (c.home = h)) = true ∧
          ((s.ten.state = .connecting ∨ s.ten.state = .measuring) ∨ (s.ten.state = .releasing ∧
            s.ten.current.any (fun c => decide (c.outcome = none ∧ c.cause ≠ none)) = true)) then
        State.reply .done .none (s.fresh.cancelCurrent h)
      else { s.fresh with orh := { s.orh with
        queue := s.orh.queue ++ [⟨o.tag, .reply o.code .refusedState .none⟩], executing := none } } := by
  have unqueued : ¬∃ e ∈ s.ten.queue, e.home = h := fun ⟨e, mem, home⟩ => absent e mem home
  have takes := (s.cancels_iff h).trans (or_iff_right unqueued)
  by_cases found : s.cancels h = true
  · rw [if_pos found, if_pos (takes.mp found)]
  · rw [if_neg found, if_neg (mt takes.mpr found),
      State.cancelCurrent_of_refused (s := s.fresh) (by exact mt takes.mpr found), State.reply_fresh _ _ runs]

theorem execCancelTest_of_found {s : State} {o : Order} {e : TestEntry} (runs : s.orh.executing = some o)
    (code : o.code = 6) (given : 1 ≤ o.args.length) (near : o.arg 0 ≤ 7)
    (found : s.ten.queue.find? (fun e => e.home == octal (o.arg 0)) = some e) :
    exec .cancelTest s = .next (State.settle s (
      ((s.fresh.cancelEntry e).cancelCurrent (octal (o.arg 0))).reply .done .none)) := by
  have home : e.home = octal (o.arg 0) := beq_iff_eq.mp (List.find?_some (p := fun e : TestEntry => e.home == _) found)
  have finds : s.cancels (octal (o.arg 0)) = true :=
    (s.cancels_iff _).mpr (.inl ⟨e, List.mem_of_find?_eq_some found, home⟩)
  rw [execCancelTest_eq runs code, if_neg (not_or.mpr ⟨Nat.not_lt.mpr given, Nat.not_lt.mpr near⟩), if_pos finds, found]
  rfl

theorem execCancelTest_of_absent {s : State} {o : Order} (runs : s.orh.executing = some o)
    (code : o.code = 6) (given : 1 ≤ o.args.length) (near : o.arg 0 ≤ 7)
    (absent : ∀ e ∈ s.ten.queue, e.home ≠ octal (o.arg 0)) :
    exec .cancelTest s = .next (State.settle s (
      if s.ten.current.any (fun c => decide (c.home = octal (o.arg 0))) = true ∧
          ((s.ten.state = .connecting ∨ s.ten.state = .measuring) ∨ (s.ten.state = .releasing ∧
            s.ten.current.any (fun c => decide (c.outcome = none ∧ c.cause ≠ none)) = true)) then
        State.reply .done .none (s.fresh.cancelCurrent (octal (o.arg 0)))
      else { s.fresh with orh := { s.orh with
        queue := s.orh.queue ++ [⟨o.tag, .reply o.code .refusedState .none⟩], executing := none } })) := by
  have unqueued : s.ten.queue.find? (fun e => e.home == octal (o.arg 0)) = none :=
    List.find?_eq_none.mpr fun e mem => by simpa only [beq_iff_eq] using absent e mem
  rw [execCancelTest_eq runs code, if_neg (not_or.mpr ⟨Nat.not_lt.mpr given, Nat.not_lt.mpr near⟩), unqueued,
    ← State.replyCancel_eq absent runs]
  rfl

/-- BUS_SELF_CHECK carried out (R80). -/
theorem execBusSelfCheck_eq {s : State} {o : Order} (runs : s.orh.executing = some o) (code : o.code = 14) :
    exec .busSelfCheck s = .next (State.settle s (
      if s.cbi.phase = .selfCheck then s.fresh else { s.fresh with cbi := { s.cbi with selfWanted := true } })) := by
  rw [exec, execBusSelfCheck, State.execute_of_executing (code := 14) 0 false _ runs (congrArg BitVec.toNat code)]
  simp only [Nat.not_lt_zero, Bool.false_eq_true, false_and, or_false, if_false]
  rfl

/-- RESTART carried out (R187). -/
theorem execRestart_eq {s : State} {o : Order} (runs : s.orh.executing = some o) (code : o.code = 15) :
    exec .restart s = .next (State.settle s (
      let u := s.fresh.reply .done .restarting
      { u with orh := { u.orh with restart := some u.now } })) := by
  rw [exec, execRestart, State.execute_of_executing (code := 15) 0 false _ runs (congrArg BitVec.toNat code)]
  simp only [Nat.not_lt_zero, Bool.false_eq_true, false_and, or_false, if_false]

/-! ## What a soft restart keeps (R188) -/

/-- Without a current test a soft restart writes no record: it starts up with what is kept. -/
theorem State.softRestart_of_untested {s : State} (untested : s.ten.current = none) :
    s.softRestart = { startUp s.pins.reread s.kept s.pending with
      out := s.out ++ (startUp s.pins.reread s.kept s.pending).out } := by
  have same : s.restartTest = s := by rw [State.restartTest, untested]
  rw [State.softRestart, same]

theorem State.softRestart_home {s : State} (untested : s.ten.current = none) (h : HomeId) :
    (s.softRestart.home h).ctr = (s.home h).ctr ∧
      (s.service h = .adminDown → ((loadHomes (Config.restartBoard s.pins.restarts).2.2).at h).equipped = true →
        s.softRestart.service h = .adminDown) := by
  obtain ⟨-, -, -, homes, -⟩ := startUp_startsEveryBlock s.pins.reread s.kept s.pending
  have started : s.softRestart.home h = (startUp s.pins.reread s.kept s.pending).home h := by
    rw [State.softRestart_of_untested untested]
    rfl
  refine ⟨?_, fun down equipped => ?_⟩
  · rw [started, homes h]
    exact Tab.at_make _ h
  · have kept : s.kept.adminDown.at h = true := (Tab.at_make _ h).trans (beq_iff_eq.mpr down)
    rw [State.service, started, homes h]
    exact (if_pos equipped).trans (if_pos kept)

theorem State.softRestart_keeps {s : State} (untested : s.ten.current = none) :
    s.softRestart.cbi.ctr = s.cbi.ctr ∧ s.softRestart.gwu.ctr = s.gwu.ctr ∧ s.softRestart.ten.log = s.ten.log ∧
      s.softRestart.orh.lostEvents = s.orh.lostEvents ∧ s.softRestart.cqm.free = 2048 ∧
      s.softRestart.pending = s.pending := by
  rw [State.softRestart_of_untested untested, startUp, startPower_startState]
  exact ⟨rfl, rfl, rfl, rfl, rfl, rfl⟩

/-- Settles O46: each order by its equation, then the request, the place and the removal that they use. -/
theorem testAndRestartOrdersCarriedOut : Obligations.TestAndRestartOrdersCarriedOut := by
  refine ⟨⟨fun s o runs => ?_, State.cancelCurrent_eq, fun s => ?_, fun s untested => ?_⟩, fun h set quiet origin t => ?_,
    fun h t => ⟨Ten.placeOf_of_absent, fun a e b queue before home => Ten.placeOf_of_first queue before home⟩,
    fun e s => ?_⟩
  · refine ⟨fun code => ?_, fun code far => ?_, fun code given near => ⟨fun e found => ?_, fun absent => ?_⟩, fun code => ?_,
      fun code => ?_⟩
    · refine (execTestLine_eq runs code).trans ?_
      rw [State.reply_fresh _ _ runs, State.reply_fresh _ _ runs]
      refine congrArg (fun u => Host.Outcome.next (State.settle s u)) (if_congr Iff.rfl rfl (if_congr Iff.rfl rfl ?_))
      exact State.replyRequest_eq _ _ runs
    · refine (execCancelTest_eq runs code).trans ?_
      rw [if_pos (by exact far), State.reply_fresh _ _ runs]
      rfl
    · exact execCancelTest_of_found runs code given near found
    · exact execCancelTest_of_absent runs code given near absent
    · exact execBusSelfCheck_eq runs code
    · refine (execRestart_eq runs code).trans ?_
      rw [State.reply_fresh _ _ runs]
      rfl
  · refine congrArg (fun u => Host.Outcome.next (State.settle s u)) ?_
    rw [← ite_not]
    exact if_congr (not_congr Option.isSome_iff_ne_none |>.trans not_not) rfl rfl
  · obtain ⟨bus, gateway, log, lost, free, pending⟩ := State.softRestart_keeps untested
    exact ⟨fun h => (State.softRestart_home untested h).1, bus, gateway, log, lost, free, pending,
      fun h => (State.softRestart_home untested h).2⟩
  · rw [Ten.request_eq]
    simp only [TestEntry.merge_eq]
    rfl
  · exact (s.cancelEntry_eq e).trans (State.removedRecord_eq e _)

end Sys2Proof.Machine
end

section
/-! SUPPORT. The notice latched: the homes that count and that want FULL, the test told, and the bytes that wait. -/

namespace Sys2Proof.Machine

/-! ## Bandwidth (R86, R87) -/

theorem State.assembledOf_iff (s : State) (h : HomeId) :
    s.assembledOf h = true ↔ ∃ f ∈ s.cqm.updataFrames, f.home = some h := by
  unfold State.assembledOf Cqm.updataFrames
  split <;> simp

theorem State.queuedBytes_eq (s : State) :
    s.queuedBytes = (homeIds.map fun h => byteCount (s.cqm.up.at h)).sum + byteCount s.cqm.updataFrames := by
  unfold State.queuedBytes Cqm.updataFrames
  split <;> rfl

theorem State.homeActive_iff (s : State) (h : HomeId) :
    s.homeActive h = true ↔
      (s.service h ≠ .unequipped ∧ s.service h ≠ .adminDown ∧ s.service h ≠ .testHeld) ∧
      (s.pvw.traffic.at h = true ∨ s.cqm.up.at h ≠ [] ∨ ∃ f ∈ s.cqm.updataFrames, f.home = some h) := by
  have rated : (!ignoresRates (s.service h)) = true ↔
      s.service h ≠ .unequipped ∧ s.service h ≠ .adminDown ∧ s.service h ≠ .testHeld := by
    rw [Bool.not_eq_true', ← Bool.not_eq_true, ignoresRates_iff]
    tauto
  rw [State.homeActive, Bool.and_eq_true, rated, Bool.or_eq_true, Bool.or_eq_true, s.assembledOf_iff, or_assoc,
    Bool.not_eq_true', List.isEmpty_eq_false_iff]

/-! ## Power (R88) -/

theorem inService_iff (st : Service) : inService st = true ↔ st = .upFull ∨ st = .upLow ∨ st = .quiet := by
  simp [inService, or_assoc]

theorem State.wantsFull_iff (s : State) (h : HomeId) :
    s.wantsFull h = true ↔ s.service h = .training ∨ s.service h = .waking ∨ h ∈ s.bhu.wakeQ ∨
      ((s.service h = .upFull ∨ s.service h = .upLow ∨ s.service h = .quiet) ∧ s.idleSeconds h < 30) := by
  simp only [State.wantsFull, Bool.or_eq_true, Bool.and_eq_true, beq_iff_eq, List.contains_iff_mem, decide_eq_true_iff,
    inService_iff, or_assoc]

theorem State.testPresent_iff (s : State) :
    s.testPresent = true ↔
      s.ten.queue ≠ [] ∨ s.ten.state = .connecting ∨ s.ten.state = .measuring ∨ s.ten.state = .releasing := by
  rw [State.testPresent, Bool.or_eq_true, Bool.or_eq_true, s.testHolding_iff, beq_iff_eq, Bool.not_eq_true',
    List.isEmpty_eq_false_iff, or_assoc, or_assoc]

/-! ## The test told (R89) -/

theorem noticeTestOf_eq (t : TestState) :
    noticeTestOf t =
      if t = .connecting ∨ t = .measuring ∨ t = .releasing then .holding else if t = .idle then .idle else .waiting := by
  cases t <;> rfl

theorem noticeTestOf_eq_holding_iff (t : TestState) :
    noticeTestOf t = .holding ↔ t = .connecting ∨ t = .measuring ∨ t = .releasing := by
  cases t <;> simp [noticeTestOf]

theorem State.noticeGroup_eq (s : State) :
    s.noticeGroup =
      if s.ten.state = .connecting ∨ s.ten.state = .measuring ∨ s.ten.state = .releasing then
        s.ten.current.elim 0 fun c => (s.home c.home).group
      else 0 := by
  refine if_congr (noticeTestOf_eq_holding_iff _) ?_ rfl
  unfold Ten.currentHome
  cases s.ten.current <;> rfl

/-! ## The latch (R85) -/

theorem State.latch_eq (s : State) :
    s.latch = { s with
      pvw := { s.pvw with latched := some s.noticeNow, sent := 0, traffic := Tab.all false, roundStart := s.now }
      cbi := { s.cbi with
        notice := some s.noticeNow
        ctr := if s.cbi.notice = none then s.cbi.ctr
          else { s.cbi.ctr with noticesReplaced := sat32 s.cbi.ctr.noticesReplaced 1 } } } := by
  unfold State.latch
  cases s.cbi.notice <;> rfl

/-- Settles O34: each field that the notice computes by its equation, then the latch. -/
theorem latchedNoticeTellsTheState : Obligations.LatchedNoticeTellsTheState := by
  intro s inAssembly counts wants test holds eff queued wanting n
  have active : s.homeActive = fun h => decide (counts h) :=
    funext fun h => Bool.eq_iff_iff.mpr ((s.homeActive_iff h).trans decide_eq_true_iff.symm)
  have wantsFull : s.wantsFull = fun h => decide (wants h) :=
    funext fun h => Bool.eq_iff_iff.mpr ((s.wantsFull_iff h).trans decide_eq_true_iff.symm)
  have present (k : Nat) : (if s.testPresent then k else 0) = if test then k else 0 :=
    if_congr s.testPresent_iff rfl rfl
  have gateway : (s.pvw.role != .line) = decide (s.pvw.role ≠ .line) :=
    Bool.eq_iff_iff.mpr (bne_iff_ne.trans decide_eq_true_iff.symm)
  have weight : s.bandwidthWeight = ((homeIds.filter fun h => decide (counts h)).map eff).sum := by
    rw [State.bandwidthWeight, active]
    rfl
  have demand : s.demand = min 65535 ((s.pvw.sent + queued + 127) / 128) := by
    rw [State.demand, s.queuedBytes_eq]
    rfl
  have powerWeight : s.powerWeight = (wanting.map eff).sum + if test then 8 else 0 := by
    rw [State.powerWeight, wantsFull, present]
    rfl
  have powerDemand : s.powerDemand = min 65535 (s.floor + (s.cfg.pFull - s.cfg.pSleep) * wanting.length +
      if test then s.cfg.pTest else 0) := by
    rw [State.powerDemand, wantsFull, present]
    rfl
  have told : s.noticeNow = n := (Notice.mk.injEq ..).mpr
    ⟨rfl, rfl, rfl, noticeTestOf_eq _, s.noticeGroup_eq, rfl, congrArg (· && s.gwu.uplinkUp) gateway, powerWeight, weight,
      demand, powerDemand, rfl, rfl⟩
  rw [s.latch_eq, told]

end Sys2Proof.Machine
end

section
/-! SUPPORT. The peer view: entries placed by station ID, the highest active one, the choices and watches of the
boundary. -/

namespace Sys2Proof

/-! ## The view in ID order (R90) -/

theorem mem_insertPeer {e : PeerEntry} {ps : List PeerEntry} (ordered : (ps.map PeerEntry.id).Pairwise (· < ·))
    (x : PeerEntry) : x ∈ insertPeer e ps ↔ x = e ∨ (x ∈ ps ∧ x.id ≠ e.id) := by
  induction ps with
  | nil => simp [insertPeer]
  | cons y rest ih =>
    obtain ⟨below, ordered⟩ := List.pairwise_cons.mp ordered
    have after (inRest : x ∈ rest) : y.id < x.id := below _ (List.mem_map_of_mem inRest)
    unfold insertPeer
    split
    · -- `e` takes the place of `y`, and no later entry has its ID
      rename_i same
      have later (inRest : x ∈ rest) : x.id ≠ e.id := same ▸ (after inRest).ne'
      have replaced (isY : x = y) : x.id = e.id := isY ▸ same.symm
      simp only [List.mem_cons]
      grind
    · rename_i differs
      have head (isY : x = y) : x.id ≠ e.id := isY ▸ Ne.symm differs
      split
      · rename_i first
        have later (inRest : x ∈ rest) : x.id ≠ e.id := (first.trans (after inRest)).ne'
        simp only [List.mem_cons]
        grind
      · rw [List.mem_cons, List.mem_cons, ih ordered]
        grind

theorem insertPeer_ordered (e : PeerEntry) {ps : List PeerEntry} (ordered : (ps.map PeerEntry.id).Pairwise (· < ·)) :
    ((insertPeer e ps).map PeerEntry.id).Pairwise (· < ·) := by
  induction ps with
  | nil => exact List.pairwise_singleton _ _
  | cons y rest ih =>
    obtain ⟨below, ordered'⟩ := List.pairwise_cons.mp ordered
    unfold insertPeer
    split
    · rename_i same
      exact List.pairwise_cons.mpr ⟨same ▸ below, ordered'⟩
    · rename_i differs
      split
      · rename_i first
        exact List.pairwise_cons.mpr
          ⟨List.forall_mem_cons.mpr ⟨first, fun i inRest => first.trans (below i inRest)⟩, ordered⟩
      · rename_i behind
        refine List.pairwise_cons.mpr ⟨List.forall_mem_map.mpr fun x inserted => ?_, ih ordered'⟩
        obtain rfl | ⟨inRest, -⟩ := (mem_insertPeer ordered' x).mp inserted
        · exact lt_of_le_of_ne (not_lt.mp behind) (Ne.symm differs)
        · exact below _ (List.mem_map_of_mem inRest)

/-! ## The own role and the active gateway (R93, R94) -/

theorem chooseRole_eq (fitted : Bool) (own : StationId) (ps : List PeerEntry) :
    chooseRole fitted own ps =
      if fitted = false then .line
      else if ∃ p ∈ ps, own < p.id ∧ p.notice.role ≠ .line then .standby else .active := by
  have above : (ps.any fun p => decide (own < p.id) && p.notice.role != .line) = true ↔
      ∃ p ∈ ps, own < p.id ∧ p.notice.role ≠ .line := by
    simp
  cases fitted with
  | false => rfl
  | true => exact (if_pos rfl).trans ((if_congr above rfl rfl).trans (if_neg Bool.noConfusion).symm)

/-- The IDs of the entries that say GATEWAY_ACTIVE. -/
def activeIds (ps : List PeerEntry) : List StationId :=
  (ps.filter fun p => decide (p.notice.role = .active)).map PeerEntry.id

theorem mem_activeIds (g : StationId) (ps : List PeerEntry) :
    g ∈ activeIds ps ↔ ∃ p ∈ ps, p.id = g ∧ p.notice.role = .active := by
  simp only [activeIds, List.mem_map, List.mem_filter, decide_eq_true_iff, and_assoc]
  exact exists_congr fun p => and_congr_right fun _ => and_comm

theorem activeIds_cons_of_active {p : PeerEntry} (ps : List PeerEntry) (active : p.notice.role = .active) :
    activeIds (p :: ps) = p.id :: activeIds ps := by
  simp [activeIds, active]

theorem activeIds_cons_of_not_active {p : PeerEntry} (ps : List PeerEntry) (other : p.notice.role ≠ .active) :
    activeIds (p :: ps) = activeIds ps := by
  simp [activeIds, other]

/-- One entry of the scan for the highest active ID (R94). -/
def higherActive (found : Option StationId) (p : PeerEntry) : Option StationId :=
  if p.notice.role = .active then some (match found with | some a => max a p.id | none => p.id) else found

theorem highestActive_eq_foldl (ps : List PeerEntry) : highestActive ps = ps.foldl higherActive none := rfl

theorem foldl_higherActive (ps : List PeerEntry) (a : StationId) :
    ps.foldl higherActive (some a) = some ((activeIds ps).foldl max a) := by
  induction ps generalizing a with
  | nil => rfl
  | cons p ps ih =>
    by_cases active : p.notice.role = .active
    · rw [List.foldl_cons, higherActive, if_pos active, activeIds_cons_of_active ps active]
      exact ih _
    · rw [List.foldl_cons, higherActive, if_neg active, activeIds_cons_of_not_active ps active]
      exact ih a

theorem highestActive_eq_max? (ps : List PeerEntry) : highestActive ps = (activeIds ps).max? := by
  rw [highestActive_eq_foldl]
  induction ps with
  | nil => rfl
  | cons p ps ih =>
    by_cases active : p.notice.role = .active
    · rw [List.foldl_cons, higherActive, if_pos active, activeIds_cons_of_active ps active, List.max?_cons']
      exact foldl_higherActive ps p.id
    · rw [List.foldl_cons, higherActive, if_neg active, activeIds_cons_of_not_active ps active]
      exact ih

theorem highestActive_eq_some_iff (ps : List PeerEntry) (g : StationId) :
    highestActive ps = some g ↔
      (∃ p ∈ ps, p.id = g ∧ p.notice.role = .active) ∧ ∀ p ∈ ps, p.notice.role = .active → p.id ≤ g := by
  rw [highestActive_eq_max?, List.max?_eq_some_iff, mem_activeIds]
  refine and_congr Iff.rfl ⟨fun bound p inView active => bound _ ((mem_activeIds _ _).mpr ⟨p, inView, rfl, active⟩), ?_⟩
  intro bound i isActive
  obtain ⟨p, inView, rfl, active⟩ := (mem_activeIds _ _).mp isActive
  exact bound p inView active

theorem highestActive_eq_none_iff (ps : List PeerEntry) :
    highestActive ps = none ↔ ∀ p ∈ ps, p.notice.role ≠ .active := by
  rw [highestActive_eq_max?, List.max?_eq_none_iff, activeIds, List.map_eq_nil_iff, List.filter_eq_nil_iff]
  simp only [decide_eq_true_iff]

end Sys2Proof

namespace Sys2Proof.Machine

/-! ## A notice heard (R90, R92) -/

theorem State.hearDuplicate_eq (s : State) :
    s.hearDuplicate =
      if s.pvw.dupHold = 0 then
        { s with pvw := { s.pvw with dup := true, dupQuiet := 0, dupHold := 256 }, orh := s.orh.offer .duplicateId }
      else { s with pvw := { s.pvw with dup := true, dupQuiet := 0 } } := by
  unfold State.hearDuplicate
  by_cases rundown : s.pvw.dupHold = 0
  · simp only [if_pos rundown]
  · simp only [if_neg rundown]

theorem execNoticeHeard_eq (caller : StationId) (n : Notice) (s : State) :
    let heard : State := { s.fresh with cbi := { s.cbi with heard := s.cbi.heard.erase (.notice caller n) } }
    execNoticeHeard caller n s = .next (State.settle s (
      if caller ≠ s.orh.stn then { heard with pvw := { s.pvw with peers := insertPeer ⟨caller, n, 0⟩ s.pvw.peers } }
      else heard.hearDuplicate)) := by
  intro heard
  rw [ite_not]
  rfl

/-! ## The choices of the boundary (R85, R91, R93, R94) -/

theorem Orh.foldl_offer_toList (event : Option Event) (o : Orh) :
    event.toList.foldl (fun o e => o.offer e) o = event.elim o fun e => o.offer e := by
  cases event <;> rfl

theorem State.choose_eq (s : State) :
    let aged := agePeers s.pvw.peers
    let role := chooseRole s.orh.fitted s.orh.stn aged
    let active := chooseActive role s.orh.stn aged
    s.choose = { s with
      pvw := { s.pvw with
        peers := aged, role := role, active := active, foundOnce := s.pvw.foundOnce || active.isSome }
      orh := (gatewayEvent s.pvw.active active s.pvw.foundOnce).elim s.orh fun e => s.orh.offer e } := by
  intro aged role active
  rw [← Orh.foldl_offer_toList]
  rfl

/-! ## The watches of the boundary (R92, R95) -/

theorem State.heldByNobody_iff (s : State) :
    s.heldByNobody = true ↔ s.tbusy = true ∧ (∀ p ∈ s.pvw.peers, p.notice.test ≠ .holding) ∧
      s.ten.state ≠ .connecting ∧ s.ten.state ≠ .measuring ∧ s.ten.state ≠ .releasing := by
  simp [State.heldByNobody, State.testHolding, and_assoc]

theorem State.nextStuckCount_eq (s : State) :
    s.nextStuckCount =
      if s.tbusy = true ∧ (∀ p ∈ s.pvw.peers, p.notice.test ≠ .holding) ∧
          s.ten.state ≠ .connecting ∧ s.ten.state ≠ .measuring ∧ s.ten.state ≠ .releasing
        then min 4 (s.pvw.stuckCount + 1) else 0 :=
  if_congr s.heldByNobody_iff rfl rfl

theorem State.watches_eq (s : State) :
    let newly : Prop := s.nextStuckCount = 4 ∧ s.pvw.stuckCount ≠ 4
    s.watches = { s with
      pvw := { s.pvw with
        stuckCount := s.nextStuckCount
        stuck := s.pvw.stuck || decide newly
        dupHold := s.pvw.dupHold - 1
        dupQuiet := min 4 (s.pvw.dupQuiet + 1)
        dup := s.pvw.dup && decide (s.pvw.dupQuiet + 1 < 4) }
      orh := if newly then s.orh.offer .tbusyStuck else s.orh } := by
  intro newly
  have risen : (s.nextStuckCount == 4 && s.pvw.stuckCount != 4) = decide newly := by
    rw [Bool.eq_iff_iff, Bool.and_eq_true, beq_iff_eq, bne_iff_ne, decide_eq_true_iff]
  rw [State.watches, risen]
  simp only [decide_eq_true_iff]

/-- Settles O30: a notice heard and its place in the view, then the choices, the highest active entry and the watches. -/
theorem peerViewFollowsNotices : Obligations.PeerViewFollowsNotices := by
  refine ⟨⟨fun caller n s => ?_, fun e ps ordered => ⟨insertPeer_ordered e ordered, mem_insertPeer ordered⟩⟩, fun s => ?_,
    fun ps g => highestActive_eq_some_iff ps g, highestActive_eq_none_iff, fun s => ?_⟩
  · refine (execNoticeHeard_eq caller n s).trans ?_
    rw [State.hearDuplicate_eq]
    rfl
  · intro aged role active event
    have ownRole : chooseRole s.orh.fitted s.orh.stn (agePeers s.pvw.peers) = role := chooseRole_eq ..
    refine s.choose_eq.trans ?_
    rw [ownRole]
    rfl
  · intro nobody count newly
    have next : s.nextStuckCount = count := s.nextStuckCount_eq
    rw [s.watches_eq, next]

end Sys2Proof.Machine
end

section
/-! SUPPORT. The share function: what a pass satisfies, that no pass allocates more than there is, and that the passes meet
demands that fit. -/

namespace Sys2Proof

/-! ## Sums over the open participants (R98, R99) -/

/-- A figure summed over the open participants. -/
def openSum (f : Participant → Nat) (ps : List Participant) : Nat := (ps.map fun p => if p.alloc.isSome then 0 else f p).sum

/-- What the satisfied participants hold. -/
def allocated (ps : List Participant) : Nat := (ps.map fun p => p.alloc.getD 0).sum

/-- A satisfied participant holds its demand (R99, step 2). -/
def HoldDemands (ps : List Participant) : Prop := ∀ p ∈ ps, p.alloc = none ∨ p.alloc = some p.demand

/-- An open participant's figure is within the sum. -/
theorem le_openSum (f : Participant → Nat) {p : Participant} {ps : List Participant} (mem : p ∈ ps) (fresh : p.alloc = none) :
    f p ≤ openSum f ps := by
  have part : (if p.alloc.isSome then 0 else f p) ≤ openSum f ps :=
    List.single_le_sum (fun _ _ => Nat.zero_le _) _
      (List.mem_map_of_mem (f := fun p : Participant => if p.alloc.isSome then 0 else f p) mem)
  simpa [fresh] using part

/-- Shares by floor of parts whose weights sum to at most the whole weight sum to at most the capacity. -/
theorem sum_shares_le {α : Type} (c total : Nat) (weight : α → Nat) (l : List α) (whole : (l.map weight).sum ≤ total) :
    (l.map fun x => c * weight x / total).sum ≤ c := by
  have floors : (l.map fun x => c * weight x / total).sum ≤ (l.map fun x => c * weight x).sum / total := by
    clear whole
    induction l with
    | nil => exact Nat.zero_le _
    | cons x l ih =>
      simp only [List.map_cons, List.sum_cons]
      exact (Nat.add_le_add_left ih _).trans (Nat.div_add_div_le_add_div ..)
  rw [List.sum_map_mul_left] at floors
  calc _ ≤ c * (l.map weight).sum / total := floors
    _ ≤ c * total / total := Nat.div_le_div_right (Nat.mul_le_mul_left c whole)
    _ ≤ c := Nat.div_le_of_le_mul (Nat.mul_comm c total).le

/-- The fair shares of the open participants sum to at most the capacity (R99, step 1). -/
theorem openSum_fairShare_le (c : Nat) (ps : List Participant) : openSum (fairShare c (openWeight ps)) ps ≤ c := by
  have parts : openSum (fairShare c (openWeight ps)) ps =
      (ps.map fun p => c * (if p.alloc.isSome then 0 else p.weight) / openWeight ps).sum := by
    refine congrArg List.sum (List.map_congr_left fun p _ => ?_)
    split
    · simp
    · rfl
  rw [parts]
  exact sum_shares_le c _ (fun p : Participant => if p.alloc.isSome then 0 else p.weight) ps (Nat.le_refl _)

/-! ## What a pass satisfies (R99, step 2) -/

theorem satisfiedNow_iff (c wt : Nat) (p : Participant) :
    satisfiedNow c wt p = true ↔ p.alloc = none ∧ p.demand ≤ fairShare c wt p := by
  simp [satisfiedNow]

theorem satisfy_of_satisfied {c wt : Nat} {p : Participant} (now : satisfiedNow c wt p = true) :
    satisfy c wt p = { p with alloc := some p.demand } := if_pos now

theorem satisfy_of_not {c wt : Nat} {p : Participant} (now : ¬satisfiedNow c wt p = true) : satisfy c wt p = p := if_neg now

@[simp] theorem satisfy_weight (c wt : Nat) (p : Participant) : (satisfy c wt p).weight = p.weight := by
  unfold satisfy
  split <;> rfl

@[simp] theorem satisfy_demand (c wt : Nat) (p : Participant) : (satisfy c wt p).demand = p.demand := by
  unfold satisfy
  split <;> rfl

theorem holdDemands_satisfy {ps : List Participant} (holds : HoldDemands ps) (c wt : Nat) :
    HoldDemands (ps.map (satisfy c wt)) := by
  intro q mem
  obtain ⟨p, here, rfl⟩ := List.mem_map.mp mem
  unfold satisfy
  split
  · exact .inr rfl
  · exact holds p here

/-- What the open participants sum to falls by what the satisfied ones had of it. -/
theorem openSum_satisfy (f : Participant → Nat) (c wt : Nat) (ps : List Participant) :
    openSum f (ps.map (satisfy c wt)) + (ps.map fun p => if satisfiedNow c wt p then f p else 0).sum = openSum f ps := by
  unfold openSum
  rw [List.map_map, ← List.sum_map_add]
  refine congrArg List.sum (List.map_congr_left fun p _ => ?_)
  by_cases now : satisfiedNow c wt p = true
  · have fresh := ((satisfiedNow_iff c wt p).mp now).1
    simp [satisfy_of_satisfied now, now, fresh]
  · simp [satisfy_of_not now, now]

/-- The satisfied participants take their demands. -/
theorem allocated_satisfy (c wt : Nat) (ps : List Participant) :
    allocated (ps.map (satisfy c wt)) = allocated ps + satisfiedDemand c wt ps := by
  unfold allocated satisfiedDemand
  rw [List.map_map, ← List.sum_map_add]
  refine congrArg List.sum (List.map_congr_left fun p _ => ?_)
  by_cases now : satisfiedNow c wt p = true
  · have fresh := ((satisfiedNow_iff c wt p).mp now).1
    simp [satisfy_of_satisfied now, now, fresh]
  · simp [satisfy_of_not now, now]

/-- The demands satisfied in a pass are within their fair shares, and so within the capacity left. -/
theorem satisfiedDemand_le (c : Nat) (ps : List Participant) : satisfiedDemand c (openWeight ps) ps ≤ c := by
  refine (List.sum_le_sum fun p _ => ?_).trans (openSum_fairShare_le c ps)
  split
  · rename_i now
    obtain ⟨fresh, within⟩ := (satisfiedNow_iff _ _ p).mp now
    simpa [fresh] using within
  · exact Nat.zero_le _

/-! ## The three ends of a pass (R99, R100) -/

/-- No participant is satisfied in a pass: each open one gets its fair share. -/
theorem sharePasses_of_none (n wAll : Nat) {c : Nat} {ps : List Participant}
    (none : ∀ p ∈ ps, ¬satisfiedNow c (openWeight ps) p = true) :
    sharePasses (n + 1) wAll c ps = (ps.map fun p => p.alloc.getD (fairShare c (openWeight ps) p), 1) := by
  have nobody : ps.any (satisfiedNow c (openWeight ps)) = false := by simpa using none
  simp [sharePasses, nobody]

/-- The pass satisfies the last of the participants: what is left is spread by weight. -/
theorem sharePasses_of_last (n wAll : Nat) {c : Nat} {ps : List Participant}
    (some : ∃ p ∈ ps, satisfiedNow c (openWeight ps) p = true)
    (closed : ∀ p ∈ ps.map (satisfy c (openWeight ps)), p.alloc ≠ none) :
    sharePasses (n + 1) wAll c ps = ((ps.map (satisfy c (openWeight ps))).map fun p =>
      p.alloc.getD 0 + (c - satisfiedDemand c (openWeight ps) ps) * p.weight / wAll, 1) := by
  have somebody : ps.any (satisfiedNow c (openWeight ps)) = true := by simpa using some
  have all : (ps.map (satisfy c (openWeight ps))).all (fun p => p.alloc.isSome) = true := by
    simpa only [List.all_eq_true, Option.isSome_iff_ne_none] using closed
  simp only [sharePasses, somebody, all, if_true]

/-- The pass leaves some participants open: the next one shares what is left among them. -/
theorem sharePasses_of_open (n wAll : Nat) {c : Nat} {ps : List Participant}
    (some : ∃ p ∈ ps, satisfiedNow c (openWeight ps) p = true)
    (opens : ∃ p ∈ ps.map (satisfy c (openWeight ps)), p.alloc = none) :
    sharePasses (n + 1) wAll c ps =
      ((sharePasses n wAll (c - satisfiedDemand c (openWeight ps) ps) (ps.map (satisfy c (openWeight ps)))).1,
        (sharePasses n wAll (c - satisfiedDemand c (openWeight ps) ps) (ps.map (satisfy c (openWeight ps)))).2 + 1) := by
  have somebody : ps.any (satisfiedNow c (openWeight ps)) = true := by simpa using some
  have all : (ps.map (satisfy c (openWeight ps))).all (fun p => p.alloc.isSome) = false := by
    obtain ⟨p, mem, still⟩ := opens
    exact List.all_eq_false.mpr ⟨p, mem, by simp [still]⟩
  simp only [sharePasses, somebody, all, if_true, if_false, Bool.false_eq_true]

/-- How a pass ends: the property holds of all passes if it holds without one, and of each end of a pass. -/
theorem sharePasses_induction {P : Nat → Nat → List Participant → List Nat × Nat → Prop} (wAll : Nat)
    (zero : ∀ c ps, P 0 c ps (ps.map fun p => p.alloc.getD 0, 0))
    (nobody : ∀ n c ps, (∀ p ∈ ps, ¬satisfiedNow c (openWeight ps) p = true) →
      P (n + 1) c ps (ps.map fun p => p.alloc.getD (fairShare c (openWeight ps) p), 1))
    (last : ∀ n c ps, (∃ p ∈ ps, satisfiedNow c (openWeight ps) p = true) →
      (∀ p ∈ ps.map (satisfy c (openWeight ps)), p.alloc ≠ none) →
      P (n + 1) c ps ((ps.map (satisfy c (openWeight ps))).map fun p =>
        p.alloc.getD 0 + (c - satisfiedDemand c (openWeight ps) ps) * p.weight / wAll, 1))
    (next : ∀ n c ps r, (∃ p ∈ ps, satisfiedNow c (openWeight ps) p = true) →
      P n (c - satisfiedDemand c (openWeight ps) ps) (ps.map (satisfy c (openWeight ps))) r → P (n + 1) c ps (r.1, r.2 + 1))
    (n c : Nat) (ps : List Participant) : P n c ps (sharePasses n wAll c ps) := by
  induction n generalizing c ps with
  | zero => exact zero c ps
  | succ n ih =>
    by_cases some : ∃ p ∈ ps, satisfiedNow c (openWeight ps) p = true
    · by_cases opens : ∃ p ∈ ps.map (satisfy c (openWeight ps)), p.alloc = none
      · rw [sharePasses_of_open n wAll some opens]
        exact next n c ps _ some (ih _ _)
      · have closed : ∀ p ∈ ps.map (satisfy c (openWeight ps)), p.alloc ≠ none := fun p mem e => opens ⟨p, mem, e⟩
        rw [sharePasses_of_last n wAll some closed]
        exact last n c ps some closed
    · have unsatisfied : ∀ p ∈ ps, ¬satisfiedNow c (openWeight ps) p = true := fun p mem e => some ⟨p, mem, e⟩
      rw [sharePasses_of_none n wAll unsatisfied]
      exact nobody n c ps unsatisfied

/-! ## All passes -/

theorem sharePasses_length (n wAll c : Nat) (ps : List Participant) : (sharePasses n wAll c ps).1.length = ps.length :=
  sharePasses_induction (P := fun _ _ ps r => r.1.length = ps.length) wAll (by simp) (by simp) (by simp)
    (fun _ _ _ _ _ same => by simpa using same) n c ps

theorem sharePasses_passes_le (n wAll c : Nat) (ps : List Participant) : (sharePasses n wAll c ps).2 ≤ n :=
  sharePasses_induction (P := fun n _ _ r => r.2 ≤ n) wAll (by simp) (by simp) (by simp)
    (fun _ _ _ _ _ few => Nat.succ_le_succ few) n c ps

/-- The passes allocate no more than the capacity beyond what the satisfied participants hold (R99, R100). -/
theorem sharePasses_sum_le {wAll : Nat} (n c : Nat) (ps : List Participant) (whole : (ps.map Participant.weight).sum ≤ wAll) :
    (sharePasses n wAll c ps).1.sum ≤ allocated ps + c := by
  refine sharePasses_induction (P := fun _ c ps r => (ps.map Participant.weight).sum ≤ wAll → r.1.sum ≤ allocated ps + c)
    wAll (fun c ps _ => Nat.le_add_right _ _) (fun n c ps _ _ => ?_) (fun n c ps _ _ whole => ?_)
    (fun n c ps r _ ih whole => ?_) n c ps whole
  · have parts : (ps.map fun p => p.alloc.getD (fairShare c (openWeight ps) p)).sum =
        allocated ps + openSum (fairShare c (openWeight ps)) ps := by
      unfold allocated openSum
      rw [← List.sum_map_add]
      refine congrArg List.sum (List.map_congr_left fun p _ => ?_)
      cases p.alloc <;> simp
    exact parts.le.trans (Nat.add_le_add_left (openSum_fairShare_le c ps) _)
  · have spread := sum_shares_le (c - satisfiedDemand c (openWeight ps) ps) wAll Participant.weight
      (ps.map (satisfy c (openWeight ps))) (by simpa [Function.comp_def] using whole)
    have held := allocated_satisfy c (openWeight ps) ps
    have within := satisfiedDemand_le c ps
    rw [List.sum_map_add]
    unfold allocated at *
    omega
  · have more := ih (by simpa [Function.comp_def] using whole)
    have held := allocated_satisfy c (openWeight ps) ps
    have within := satisfiedDemand_le c ps
    dsimp only
    omega

/-- While the open demands fit the capacity, some open participant is satisfied (R99). -/
theorem exists_satisfied {c : Nat} {ps : List Participant} (weights : ∀ p ∈ ps, 1 ≤ p.weight)
    (fits : openSum Participant.demand ps ≤ c) (opens : ∃ p ∈ ps, p.alloc = none) :
    ∃ p ∈ ps, satisfiedNow c (openWeight ps) p = true := by
  by_contra nobody
  have short (p : Participant) (mem : p ∈ ps) (fresh : p.alloc = none) : c * p.weight < p.demand * openWeight ps := by
    have positive : 0 < openWeight ps := (weights p mem).trans (le_openSum Participant.weight mem fresh)
    have more : fairShare c (openWeight ps) p < p.demand := by
      by_contra within
      exact nobody ⟨p, mem, (satisfiedNow_iff _ _ p).mpr ⟨fresh, by omega⟩⟩
    exact (Nat.div_lt_iff_lt_mul positive).mp more
  have sums : (ps.map fun p => c * (if p.alloc.isSome then 0 else p.weight)).sum <
      (ps.map fun p => (if p.alloc.isSome then 0 else p.demand) * openWeight ps).sum := by
    refine List.sum_lt_sum _ _ (fun p mem => ?_) ?_
    · cases alloc : p.alloc with
      | none => simpa using (short p mem alloc).le
      | some x => simp
    · obtain ⟨p, mem, fresh⟩ := opens
      exact ⟨p, mem, by simpa [fresh] using short p mem fresh⟩
  rw [List.sum_map_mul_left, List.sum_map_mul_right] at sums
  exact absurd (Nat.lt_of_mul_lt_mul_right (show c * openWeight ps < openSum Participant.demand ps * openWeight ps from sums))
    (Nat.not_lt.mpr fits)

/-- Enough passes meet demands that fit the capacity (R99, R100). -/
theorem sharePasses_meets {wAll n c : Nat} {ps : List Participant} (weights : ∀ p ∈ ps, 1 ≤ p.weight)
    (holds : HoldDemands ps) (fits : openSum Participant.demand ps ≤ c) (enough : openSum (fun _ => 1) ps ≤ n) :
    List.Forall₂ (fun p x => p.demand ≤ x) ps (sharePasses n wAll c ps).1 := by
  have held {f : Participant → Nat} {qs : List Participant} (holds : HoldDemands qs) (closed : ∀ p ∈ qs, p.alloc ≠ none)
      (more : ∀ p ∈ qs, p.alloc.getD 0 ≤ f p) : List.Forall₂ (fun p x => p.demand ≤ x) qs (qs.map f) := by
    rw [List.forall₂_map_right_iff, List.forall₂_same]
    intro p mem
    have took := (holds p mem).resolve_left (closed p mem)
    simpa [took] using more p mem
  have same {c wt : Nat} {qs : List Participant} {l : List Nat}
      (met : List.Forall₂ (fun p x => p.demand ≤ x) (qs.map (satisfy c wt)) l) :
      List.Forall₂ (fun p x => p.demand ≤ x) qs l := by
    simpa [List.forall₂_map_left_iff] using met
  refine sharePasses_induction (P := fun n c ps r => (∀ p ∈ ps, 1 ≤ p.weight) → HoldDemands ps →
      openSum Participant.demand ps ≤ c → openSum (fun _ => 1) ps ≤ n → List.Forall₂ (fun p x => p.demand ≤ x) ps r.1)
    wAll (fun c ps _ holds _ enough => ?_) (fun n c ps nobody weights holds fits _ => ?_)
    (fun n c ps _ closed _ holds _ _ => ?_) (fun n c ps r some ih weights holds fits enough => ?_) n c ps weights holds fits enough
  · refine held holds (fun p mem fresh => ?_) fun _ _ => Nat.le_refl _
    exact absurd ((le_openSum (fun _ => 1) mem fresh).trans enough) (by simp)
  · have closed : ∀ p ∈ ps, p.alloc ≠ none := by
      intro p mem fresh
      obtain ⟨q, here, now⟩ := exists_satisfied weights fits ⟨p, mem, fresh⟩
      exact nobody q here now
    refine held holds closed fun p mem => ?_
    obtain ⟨x, alloc⟩ := Option.ne_none_iff_exists'.mp (closed p mem)
    simp [alloc]
  · exact same (held (holdDemands_satisfy holds _ _) closed fun p _ => Nat.le_add_right _ _)
  · have demands := openSum_satisfy Participant.demand c (openWeight ps) ps
    have count := openSum_satisfy (fun _ => 1) c (openWeight ps) ps
    have fewer : 1 ≤ (ps.map fun p => if satisfiedNow c (openWeight ps) p then 1 else 0).sum := by
      obtain ⟨p, mem, now⟩ := some
      refine List.single_le_sum (fun _ _ => Nat.zero_le _) _ (List.mem_map.mpr ⟨p, mem, ?_⟩)
      simp [now]
    refine same (ih (fun q mem => ?_) (holdDemands_satisfy holds _ _) ?_ ?_)
    · obtain ⟨p, here, rfl⟩ := List.mem_map.mp mem
      simpa using weights p here
    · change _ ≤ c - (ps.map fun p => if satisfiedNow c (openWeight ps) p then p.demand else 0).sum
      omega
    · omega

/-! ## The share function -/

theorem share_eq {c0 : Nat} {ps : List (Nat × Nat)} (some : ps ≠ []) :
    share c0 ps = sharePasses ps.length (ps.map Prod.fst).sum c0 (ps.map fun p => ⟨p.1, p.2, none⟩) := by
  unfold share
  rw [if_neg (by simpa using some)]
  rfl

theorem share_length (c0 : Nat) (ps : List (Nat × Nat)) : (share c0 ps).1.length = ps.length := by
  by_cases empty : ps = []
  · subst empty; rfl
  · rw [share_eq empty, sharePasses_length, List.length_map]

theorem share_passes_le (c0 : Nat) (ps : List (Nat × Nat)) : (share c0 ps).2 ≤ ps.length := by
  by_cases empty : ps = []
  · subst empty; exact Nat.le_refl _
  · rw [share_eq empty]; exact sharePasses_passes_le ..

/-- The share function never allocates more than the capacity (R99, R100). -/
theorem share_sum_le (c0 : Nat) (ps : List (Nat × Nat)) : (share c0 ps).1.sum ≤ c0 := by
  by_cases empty : ps = []
  · subst empty; exact Nat.zero_le _
  · rw [share_eq empty]
    have bound := sharePasses_sum_le ps.length c0 (ps.map fun p => ⟨p.1, p.2, none⟩ : List Participant)
      (wAll := (ps.map Prod.fst).sum) (by simp [Function.comp_def])
    simpa [allocated, Function.comp_def] using bound

/-- The share function meets demands that fit the capacity (R99, R100). -/
theorem share_meets {c0 : Nat} {ps : List (Nat × Nat)} (weights : ∀ p ∈ ps, 1 ≤ p.1)
    (fits : (ps.map Prod.snd).sum ≤ c0) : List.Forall₂ (fun d x => d ≤ x) (ps.map Prod.snd) (share c0 ps).1 := by
  by_cases empty : ps = []
  · subst empty; exact .nil
  · rw [share_eq empty]
    have met := sharePasses_meets (wAll := (ps.map Prod.fst).sum) (n := ps.length) (c := c0)
      (ps := ps.map fun p => ⟨p.1, p.2, none⟩) (List.forall_mem_map.mpr weights)
      (fun p mem => .inl (by obtain ⟨_, _, rfl⟩ := List.mem_map.mp mem; rfl))
      (by simpa [openSum, Function.comp_def] using fits) (by simp [openSum, Function.comp_def])
    simpa [List.forall₂_map_left_iff] using met

/-- Settles O35: the bounds of all passes by induction on the pass, and a pass by the three ways in which it ends. -/
theorem sharesStayWithinCapacity : Obligations.SharesStayWithinCapacity := by
  refine ⟨fun c0 ps weights => ⟨share_length c0 ps, share_passes_le c0 ps, share_sum_le c0 ps, fun fits i => ?_⟩, fun _ => rfl,
    fun c0 ps some => share_eq some, fun n wAll c ps => ?_⟩
  · obtain ⟨same, met⟩ := List.forall₂_iff_get.mp (share_meets weights fits)
    by_cases inside : i < (ps.map Prod.snd).length
    · have here : i < (share c0 ps).1.length := same ▸ inside
      rw [List.getD_eq_getElem _ _ inside, List.getD_eq_getElem _ _ here]
      exact met i inside here
    · rw [List.getD_eq_default _ _ (Nat.not_lt.mp inside)]
      exact Nat.zero_le _
  · intro wt fair sat after left
    have weight : openWeight ps = wt := by
      refine congrArg List.sum (List.map_congr_left fun p _ => ?_)
      cases p.alloc <;> rfl
    have now (p : Participant) : satisfiedNow c wt p = true ↔ sat p := satisfiedNow_iff c wt p
    have taken : ps.map (satisfy c wt) = after := by
      refine List.map_congr_left fun p _ => ?_
      simp only [satisfy, now]
    have rest : c - satisfiedDemand c wt ps = left := by
      simp only [satisfiedDemand, now, left]
    have none := sharePasses_of_none n wAll (c := c) (ps := ps)
    have last := sharePasses_of_last n wAll (c := c) (ps := ps)
    have opens := sharePasses_of_open n wAll (c := c) (ps := ps)
    simp only [weight, now, taken, rest] at none last opens
    exact ⟨none, last, opens⟩

end Sys2Proof
end

section
/-! SUPPORT. The two share calculations: the capacity, the participants and the target of each. -/

namespace Sys2Proof.Machine

theorem State.bwCapacity_eq (s : State) :
    s.bwCapacity =
      if s.pvw.active = none then 0
      else if s.pvw.active = some s.orh.stn then (if s.gwu.uplinkUp then s.cfg.u else 0)
      else s.gatewayEntry.elim 0 fun e => if e.notice.uplinkUp then e.notice.u else 0 := by
  unfold State.bwCapacity
  cases s.gatewayEntry <;> rfl

theorem State.pwCapacity_eq (s : State) :
    s.pwCapacity =
      if s.pvw.active = none then s.cfg.fallback
      else if s.pvw.active = some s.orh.stn then s.cfg.b
      else s.gatewayEntry.elim s.cfg.fallback fun e => e.notice.b := by
  unfold State.pwCapacity
  cases s.gatewayEntry <;> rfl

theorem ownAllocation_eq (c0 : Nat) (self : Option (Nat × Nat)) (others : List (Nat × Nat)) :
    ownAllocation c0 self others = if self = none then none else (share c0 (self.toList ++ others)).1.head? := by
  cases self <;> rfl

/-- Settles O36: each calculation through its capacity and this station's allocation. -/
theorem calculationsSetRateAndAllowance : Obligations.CalculationsSetRateAndAllowance := by
  intro s own gateway bw bwSelf bwOthers bwShare target pw pwSelf pwOthers
  have bwCap : s.bwCapacity = bw := s.bwCapacity_eq
  have pwCap : s.pwCapacity = pw := s.pwCapacity_eq
  have share (c0 : Nat) (self : Option (Nat × Nat)) (others : List (Nat × Nat)) :
      ownAllocation c0 self others = own c0 self others := ownAllocation_eq c0 self others
  constructor
  · unfold State.bandwidthCalc
    simp only [bwCap, share]
    rfl
  · unfold State.powerCalc
    simp only [pwCap, share]
    rfl

end Sys2Proof.Machine
end

section
/-! SUPPORT. The view of the supply: what the invariants of the wake queue, the allowance, the effective weights and the
shaped rate read of a state, and the transitions of that view that keep them. -/

namespace Sys2Proof

/-- What a home's effective weight is made from (R111, R125, R127). -/
structure WeightView where
  eff : Nat
  stepFloor : Option Nat
  stagedTier : Option Nat
  threshold : Option Threshold
  staged : List Threshold

/-- The weights of a home's items in the scheduler: no count, no deficit, no volume. -/
def UpsHome.weights (m : UpsHome) : WeightView := ⟨m.eff, m.stepFloor, m.stagedTier, m.threshold, m.staged⟩

/-- One home's clause of `WeightsBounded`. -/
structure WeightView.Fits (tier : Nat) (w : WeightView) : Prop where
  positive : 1 ≤ w.eff
  within : w.eff ≤ tier
  tier : tier ≤ 15
  floor : ∀ n, w.stepFloor = some n → 1 ≤ n
  next : ∀ n, w.stagedTier = some n → 1 ≤ n ∧ n ≤ 15
  active : ∀ t, w.threshold = some t → 1 ≤ t.weight
  staged : ∀ t ∈ w.staged, 1 ≤ t.weight

end Sys2Proof

namespace Sys2Proof.Machine

/-- What the invariants of the supply read of a state. -/
@[ext] structure SupplyView where
  service : HomeId → Service
  queue : List HomeId
  mains : Bool
  shc : Shc
  capK : Nat
  tier : HomeId → Nat
  weights : HomeId → WeightView

/-- The weights that the scheduler holds. -/
def Ups.weights (u : Ups) (h : HomeId) : WeightView := (u.homes.at h).weights

/-- The view of the supply that a state shows. -/
def State.supply (s : State) : SupplyView :=
  { service := s.service, queue := s.bhu.wakeQ, mains := s.pins.mainsOk, shc := s.shc, capK := s.cfg.capK
    tier := fun h => (s.home h).tier, weights := s.ups.weights }

/-- The wake queue holds distinct homes, all in SLEEP (R176). -/
structure SupplyView.QueueSleeps (V : SupplyView) : Prop where
  distinct : V.queue.Nodup
  asleep : ∀ h ∈ V.queue, V.service h = .sleep

/-- The allowance is present on battery only (R97, R106, R108). -/
def SupplyView.AllowanceFits (V : SupplyView) : Prop := V.shc.a.isSome = true ↔ V.mains = false

/-- Every home's weights fit its tier (R125). -/
def SupplyView.WeightsFit (V : SupplyView) : Prop := ∀ h, (V.weights h).Fits (V.tier h)

/-- The shaped rate within its target, and that within K and the capacity last used (R105). -/
def SupplyView.RateFits (V : SupplyView) : Prop := V.shc.s ≤ V.shc.t ∧ V.shc.t ≤ min V.capK V.shc.bwCap

/-- The second view keeps each invariant that the first meets. -/
structure SupplyView.Leads (V W : SupplyView) : Prop where
  queue : V.QueueSleeps → W.QueueSleeps
  allowance : V.AllowanceFits → W.AllowanceFits
  weights : V.WeightsFit → W.WeightsFit
  rate : V.RateFits → W.RateFits

/-- The second state keeps each invariant of the supply that the first meets. -/
def SupplyKept (s t : State) : Prop := s.supply.Leads t.supply

theorem SupplyKept.of_eq {s t : State} (h : t.supply = s.supply) : SupplyKept s t := by
  unfold SupplyKept
  rw [h]
  exact ⟨id, id, id, id⟩

theorem SupplyKept.refl (s : State) : SupplyKept s s := .of_eq rfl

theorem SupplyKept.trans {s t u : State} (h : SupplyKept s t) (k : SupplyKept t u) : SupplyKept s u :=
  ⟨k.queue ∘ h.queue, k.allowance ∘ h.allowance, k.weights ∘ h.weights, k.rate ∘ h.rate⟩

theorem SupplyKept.foldl {α : Type} (f : State → α → State) (h : ∀ s x, SupplyKept s (f s x)) (l : List α) (s : State) :
    SupplyKept s (l.foldl f s) := by
  induction l generalizing s with
  | nil => exact .refl s
  | cons x l ih => exact (h s x).trans (ih (f s x))

/-! ## The view and the invariants -/

theorem queueSleeps_iff (s : State) : s.supply.QueueSleeps ↔ WakeQueueSleeps s :=
  ⟨fun ⟨distinct, asleep⟩ => ⟨distinct, asleep⟩, fun ⟨distinct, asleep⟩ => ⟨distinct, asleep⟩⟩

theorem State.power_eq_mains_iff (s : State) : s.power = .mains ↔ s.pins.mainsOk = true := by
  unfold State.power
  split
  · rename_i mains; simp [mains]
  · rename_i battery
    split <;> simpa using battery

theorem allowanceFits_iff (s : State) : s.supply.AllowanceFits ↔ AllowanceOnBatteryOnly s := by
  rw [SupplyView.AllowanceFits, AllowanceOnBatteryOnly, Ne, s.power_eq_mains_iff, Bool.not_eq_true]
  rfl

theorem weightsFit_iff (s : State) : s.supply.WeightsFit ↔ WeightsBounded s := by
  refine forall_congr' fun h => ⟨fun fit => ?_, fun ⟨⟨positive, within⟩, tier, floor, next, active, staged⟩ => ?_⟩
  · exact ⟨⟨fit.positive, fit.within⟩, fit.tier, fit.floor, fit.next, fit.active, fit.staged⟩
  · exact ⟨positive, within, tier, floor, next, active, staged⟩

theorem rateFits_iff (s : State) : s.supply.RateFits ↔ ShapedRateBounded s := Iff.rfl

/-! ## Transitions of the view -/

/-- The wake queue changes. -/
theorem SupplyKept.of_queue {s t : State} {q : List HomeId} (view : t.supply = { s.supply with queue := q })
    (sleeps : s.supply.QueueSleeps → q.Nodup ∧ ∀ h ∈ q, s.service h = .sleep) : SupplyKept s t := by
  unfold SupplyKept
  rw [view]
  refine ⟨fun Q => ?_, id, id, id⟩
  obtain ⟨distinct, asleep⟩ := sleeps Q
  exact ⟨distinct, asleep⟩

/-- Homes leave the wake queue. -/
theorem SupplyKept.of_sublist {s t : State} {q : List HomeId} (view : t.supply = { s.supply with queue := q })
    (fewer : q.Sublist s.bhu.wakeQ) : SupplyKept s t :=
  .of_queue view fun Q => ⟨Q.distinct.sublist fewer, fun h mem => Q.asleep h (fewer.subset mem)⟩

/-- A home moves to a service state: it stays in the wake queue only if that is SLEEP (R176). -/
theorem State.moveTo_supply (st : Service) (h : HomeId) (s : State) :
    (s.moveTo st h).supply = { s.supply with
      service := Function.update s.supply.service h st
      queue := if st = .sleep then s.bhu.wakeQ else s.bhu.wakeQ.erase h } := by
  refine SupplyView.ext ?_ rfl rfl rfl rfl ?_ rfl
  · funext k
    by_cases here : k = h
    · subst here; simp [State.supply]
    · simp [State.supply, State.service_moveTo_of_ne st h k s here, here]
  · funext k
    by_cases here : k = h
    · subst here; simp [State.supply]
    · simp [State.supply, State.home_moveTo_of_ne st h k s here]

theorem State.moveTo_supplied (st : Service) (h : HomeId) (s : State) : SupplyKept s (s.moveTo st h) := by
  unfold SupplyKept
  rw [State.moveTo_supply]
  refine ⟨fun Q => ?_, id, id, id⟩
  by_cases sleeps : st = .sleep
  · rw [if_pos sleeps]
    refine ⟨Q.distinct, fun k mem => ?_⟩
    by_cases here : k = h
    · subst here; simpa using sleeps
    · simpa [here] using Q.asleep k mem
  · rw [if_neg sleeps]
    refine ⟨Q.distinct.erase h, fun k mem => ?_⟩
    obtain ⟨here, queued⟩ := Q.distinct.mem_erase_iff.mp mem
    simpa [here] using Q.asleep k queued

/-- A home record changed in what the view does not show. -/
theorem State.updHome_supply {h : HomeId} {f : Home → Home} (s : State)
    (same : ∀ m, (f m).service = m.service ∧ (f m).tier = m.tier) : (s.updHome h f).supply = s.supply := by
  refine SupplyView.ext ?_ rfl rfl rfl rfl ?_ rfl
  · funext k
    exact State.service_updHome s fun m => (same m).1
  · funext k
    by_cases here : k = h
    · subst here; simp [State.supply, same]
    · simp [State.supply, State.home_updHome_of_ne h k f s here]

@[simp] theorem State.count_supply (h : HomeId) (f : HomeCounters → HomeCounters) (s : State) :
    (s.count h f).supply = s.supply := s.updHome_supply fun _ => ⟨rfl, rfl⟩

theorem State.count_supplied (h : HomeId) (f : HomeCounters → HomeCounters) (s : State) : SupplyKept s (s.count h f) :=
  .of_eq (s.count_supply h f)

/-- The scheduler changed in what the view does not show. -/
theorem State.withUps_supply {u : Ups} (s : State) (same : u.weights = s.ups.weights) :
    State.supply { s with ups := u } = s.supply := SupplyView.ext rfl rfl rfl rfl rfl rfl same

theorem Ups.weights_upd {u : Ups} {h : HomeId} {f : UpsHome → UpsHome} (same : ∀ m, (f m).weights = m.weights) :
    Ups.weights { u with homes := u.homes.upd h f } = u.weights := by
  funext k
  simp only [Ups.weights, Tab.at_upd]
  split
  · exact same _
  · rfl

theorem Ups.weights_put (u : Ups) (h : HomeId) (m : UpsHome) :
    Ups.weights { u with homes := u.homes.put h m } = Function.update u.weights h m.weights := by
  funext k
  simp only [Ups.weights, Tab.at_put, Function.update_apply]
  split <;> rfl

/-- One home's items in the scheduler change. -/
theorem SupplyKept.of_home {s t : State} {h : HomeId} {m : UpsHome}
    (view : t.supply = State.supply { s with ups := { s.ups with homes := s.ups.homes.put h m } })
    (fits : ∀ tier, (s.ups.weights h).Fits tier → m.weights.Fits tier) : SupplyKept s t := by
  have put : t.supply = { s.supply with weights := Function.update s.ups.weights h m.weights } :=
    view.trans (SupplyView.ext rfl rfl rfl rfl rfl rfl (Ups.weights_put s.ups h m))
  unfold SupplyKept
  rw [put]
  refine ⟨fun Q => ⟨Q.distinct, Q.asleep⟩, id, fun W k => ?_, id⟩
  change (Function.update s.ups.weights h m.weights k).Fits (s.supply.tier k)
  rw [Function.update_apply]
  split
  · rename_i here
    subst here
    exact fits _ (W k)
  · exact W k

@[simp] theorem Ups.weights_emptied (h : HomeId) (u : Ups) : (u.emptied h).weights = u.weights :=
  Ups.weights_upd (u := { u with visitOpen := u.visitOpen && u.drrPos != h }) fun _ => rfl

/-! ## The shared operations of homes -/

theorem State.toSleep_supplied (h : HomeId) (s : State) : SupplyKept s (s.toSleep h) := by
  refine SupplyKept.trans (.of_eq ?_) (State.moveTo_supplied .sleep h _)
  exact s.updHome_supply fun _ => ⟨rfl, rfl⟩

@[simp] theorem State.freeDown_supply (r : DownDrop) (h : HomeId) (s : State) : (s.freeDown r h).supply = s.supply :=
  s.count_supply h (countDownDrop r (s.cqm.down.at h).length)

@[simp] theorem State.freeUp_supply (r : UpDrop) (h : HomeId) (s : State) : (s.freeUp r h).supply = s.supply :=
  (State.withUps_supply (s.count h (countUpDrop r (s.cqm.up.at h).length)) (Ups.weights_emptied h s.ups)).trans
    (s.count_supply h _)

theorem State.enterDown_supplied (h : HomeId) (s : State) : SupplyKept s (s.enterDown h) := by
  refine SupplyKept.trans (.of_eq ?_) (State.moveTo_supplied .down h _)
  rw [State.freeDown_supply]
  exact s.updHome_supply fun _ => ⟨rfl, rfl⟩

/-- A home torn down on its way to another service state (R11, R13, R14). -/
theorem State.close_supplied {f : Home → Home} (up : UpDrop) (down : DownDrop) (st : Service) (h : HomeId) (s : State)
    (same : ∀ m, (f m).service = m.service ∧ (f m).tier = m.tier) :
    SupplyKept s (((s.updHome h f).teardown up down h).moveTo st h) := by
  refine SupplyKept.trans (.of_eq ?_) (State.moveTo_supplied st h _)
  rw [State.teardown, State.freeDown_supply, State.freeUp_supply]
  refine Eq.trans (State.updHome_supply _ ?_) (s.updHome_supply same)
  exact fun _ => ⟨rfl, rfl⟩

theorem State.hold_supplied (h : HomeId) (s : State) : SupplyKept s (s.hold h) :=
  s.close_supplied .test .test .testHeld h fun _ => ⟨rfl, rfl⟩

theorem State.enterAdminDown_supplied (h : HomeId) (s : State) : SupplyKept s (s.enterAdminDown h) :=
  s.close_supplied .admin .admin .adminDown h fun _ => ⟨rfl, rfl⟩

theorem State.wakeFailed_supplied (cause : WakeFailCause) (h : HomeId) (s : State) :
    SupplyKept s (s.wakeFailed cause h) :=
  (s.count_supplied h _).trans (State.toSleep_supplied h _)

/-! ## The wake queue (R176) -/

theorem State.wakeCause_supplied (h : HomeId) (s : State) : SupplyKept s (s.wakeCause h) := by
  by_cases new : s.service h = .sleep ∧ h ∉ s.bhu.wakeQ
  · obtain ⟨asleep, absent⟩ := new
    by_cases atOnce : s.wakesAtOnce h = true
    · refine .of_eq ?_
      rw [State.wakeCause, if_pos ⟨asleep, absent⟩, if_pos atOnce]
      rfl
    · refine .of_queue (q := s.bhu.wakeQ ++ [h]) ?_ fun Q => ⟨?_, fun k mem => ?_⟩
      · rw [State.wakeCause, if_pos ⟨asleep, absent⟩, if_neg atOnce]
        rfl
      · exact List.nodup_append.mpr ⟨Q.distinct, List.nodup_singleton h, fun a ha b hb e =>
          absent (List.mem_singleton.mp hb ▸ e ▸ ha)⟩
      · rcases List.mem_append.mp mem with queued | here
        · exact Q.asleep k queued
        · exact List.mem_singleton.mp here ▸ asleep
  · refine .of_eq ?_
    rw [State.wakeCause, if_neg new]

/-- A home in SLEEP joins the head of the wake queue. -/
theorem State.wakeHead_supplied {h : HomeId} {s : State} (asleep : s.service h = .sleep) : SupplyKept s (s.wakeHead h) := by
  by_cases atOnce : s.wakesAtOnce h = true
  · refine .of_eq ?_
    rw [State.wakeHead, if_pos atOnce]
    rfl
  · have view : (s.wakeHead h).supply = { s.supply with queue := (s.bhu.joinHead h).wakeQ } := by
      rw [State.wakeHead, if_neg atOnce]
      rfl
    have places : (s.bhu.joinHead h).wakeQ.Perm (h :: s.bhu.wakeQ.erase h) := by
      have split := List.perm_middle (a := h) (l₁ := (s.bhu.wakeQ.erase h).takeWhile (· ∈ s.bhu.batch))
        (l₂ := (s.bhu.wakeQ.erase h).dropWhile (· ∈ s.bhu.batch))
      rwa [List.takeWhile_append_dropWhile] at split
    refine .of_queue view fun Q => ⟨places.nodup_iff.mpr ?_, fun k mem => ?_⟩
    · exact List.nodup_cons.mpr ⟨Q.distinct.not_mem_erase, Q.distinct.erase h⟩
    · rcases List.mem_cons.mp (places.mem_iff.mp mem) with rfl | queued
      · exact asleep
      · exact Q.asleep k (List.mem_of_mem_erase queued)

theorem nodup_eraseDups {α : Type} [DecidableEq α] (l : List α) : l.eraseDups.Nodup := by
  induction size : l.length using Nat.strong_induction_on generalizing l with
  | _ n ih =>
    cases l with
    | nil => exact List.nodup_nil
    | cons x l =>
      have fewer : (l.filter fun y => !y == x).length < n := by
        rw [← size, List.length_cons]
        exact Nat.lt_succ_of_le (List.length_filter_le ..)
      rw [List.eraseDups_cons]
      exact List.nodup_cons.mpr ⟨by simp, ih _ fewer _ rfl⟩

/-- The homes whose WAKE is recalled go to the head of the wake queue (log 59). -/
theorem State.recall_supplied (s : State) : SupplyKept s s.recall := by
  refine .of_queue rfl fun Q => ⟨List.nodup_append.mpr ⟨?_, Q.distinct, fun a ha b hb e => ?_⟩, ?_⟩
  · exact List.Nodup.filter _ (nodup_eraseDups _)
  · exact (s.mem_unwoken a ha).2 (e ▸ hb)
  · exact s.recall_wakeQ_sleeps Q.asleep

theorem State.fit_supplied (a : Nat) (s : State) : SupplyKept s (s.fit a) :=
  s.recall_supplied.trans (.of_sublist rfl List.filter_sublist)

/-! ## The power calculation (R106, R107) -/

@[simp] theorem State.enterReleasing_supply (o : Option TestOutcome) (k : Option SuspendCause) (s : State) :
    (s.enterReleasing o k).supply = s.supply := rfl

@[simp] theorem State.suspend_supply (k : SuspendCause) (s : State) : (s.suspend k).supply = s.supply := by
  unfold State.suspend
  split <;> rfl

@[simp] theorem State.endTest_supply (o : TestOutcome) (s : State) : (s.endTest o).supply = s.supply := by
  unfold State.endTest
  split <;> rfl

@[simp] theorem State.enterLow_supply (s : State) : s.enterLow.supply = s.supply := by
  unfold State.enterLow
  split
  · exact s.suspend_supply _
  · rfl

/-- A power round on battery, whatever the power was: it makes an allowance (R106). -/
theorem SupplyKept.powerRound {s t : State} (battery : t.supply = { s.supply with mains := false }) :
    SupplyKept s t.powerRound := by
  have calculated : SupplyKept s t.powerCalc := by
    have view : t.powerCalc.supply = { t.supply with shc := t.powerCalc.shc } := rfl
    have rates : t.powerCalc.shc.s = t.supply.shc.s ∧ t.powerCalc.shc.t = t.supply.shc.t ∧
        t.powerCalc.shc.bwCap = t.supply.shc.bwCap := ⟨rfl, rfl, rfl⟩
    have present : t.powerCalc.shc.a.isSome = true := rfl
    unfold SupplyKept
    rw [battery] at view rates
    rw [view]
    obtain ⟨rate, target, capacity⟩ := rates
    refine ⟨fun Q => ⟨Q.distinct, Q.asleep⟩, fun _ => ?_, id, fun R => ?_⟩
    · exact iff_of_true present rfl
    · unfold SupplyView.RateFits
      dsimp only
      rw [rate, target, capacity]
      exact R
  have fitted := calculated.trans (t.powerCalc.fit_supplied (t.powerCalc.shc.a.getD 0))
  rcases t.powerRound_spec with e | e <;> rw [e]
  · exact fitted
  · exact fitted.trans (.of_eq (State.suspend_supply _ _))

/-- A power round of a station on battery. -/
theorem State.powerRound_supplied {s : State} (battery : s.pins.mainsOk = false) : SupplyKept s s.powerRound :=
  .powerRound (SupplyView.ext rfl rfl battery rfl rfl rfl rfl)

theorem State.enterTraining_supplied (h : HomeId) (s : State) : SupplyKept s (s.enterTraining h) := by
  have trained : SupplyKept s (s.moveTo .training h) := s.moveTo_supplied .training h
  have slept : SupplyKept s ((s.moveTo .training h).toSleep h) := trained.trans (State.toSleep_supplied h _)
  unfold State.enterTraining
  dsimp only
  split
  · exact trained
  · rename_i battery
    split
    · exact trained
    · split
      · exact slept
      · rw [s.power_eq_mains_iff, Bool.not_eq_true] at battery
        exact slept.trans (State.powerRound_supplied battery)

theorem State.upFromDown_supplied (h : HomeId) (s : State) : SupplyKept s (s.upFromDown h) := by
  unfold State.upFromDown
  dsimp only
  split
  · exact (s.enterTraining_supplied h).trans (State.moveTo_supplied .upFull h _)
  · exact s.enterTraining_supplied h

end Sys2Proof.Machine
end

section
/-! SUPPORT. Quiets, weights, rates and the start keep the invariants of the supply. -/

namespace Sys2Proof.Machine

/-! ## Quiets (R9, R10, R155) -/

theorem State.quietHome_supplied (g : Group) (s : State) (h : HomeId) : SupplyKept s (s.quietHome g h) := by
  have silenced (m : Mode) :
      SupplyKept s ((s.updHome h fun x => { x with ret := some m, resume := false }).moveTo .quiet h) := by
    refine SupplyKept.trans (.of_eq ?_) (State.moveTo_supplied .quiet h _)
    exact s.updHome_supply fun _ => ⟨rfl, rfl⟩
  unfold State.quietHome
  split
  · exact .refl s
  · split
    · exact silenced .full
    · exact silenced .low
    · exact s.toSleep_supplied h
    · exact .refl s

theorem State.home_quietHome_of_ne {g : Group} {h k : HomeId} (s : State) (ne : k ≠ h) :
    (s.quietHome g h).home k = s.home k := by
  have moved (f : Home → Home) (st : Service) : ((s.updHome h f).moveTo st h).home k = s.home k := by
    rw [State.home_moveTo_of_ne _ _ _ _ ne, State.home_updHome_of_ne _ _ _ _ ne]
  unfold State.quietHome
  split
  · rfl
  · split
    · exact moved _ _
    · exact moved _ _
    · exact moved _ _
    · rfl

/-- A QUIET ends the wake of a WAKING home of its group, and leaves a home in SLEEP there (R8, R9). -/
theorem State.service_quietHome_self {g : Group} {h : HomeId} {s : State}
    (wakes : s.service h = .waking ∧ (s.home h).group = g ∨ s.service h = .sleep) :
    (s.quietHome g h).service h = .sleep := by
  rcases wakes with ⟨waking, group⟩ | asleep
  · simp [State.quietHome, waking, group, State.toSleep]
  · unfold State.quietHome
    split
    · exact asleep
    · rw [asleep]
      exact asleep

/-- A QUIET taken by every home leaves the WAKING homes of its group in SLEEP (R9). -/
theorem State.service_quietHomes {g : Group} {h : HomeId} (l : List HomeId) {s : State}
    (wakes : s.service h = .waking ∧ (s.home h).group = g ∧ h ∈ l ∨ s.service h = .sleep) :
    (l.foldl (State.quietHome g) s).service h = .sleep := by
  induction l generalizing s with
  | nil => exact wakes.resolve_left fun ⟨_, _, mem⟩ => List.not_mem_nil mem
  | cons k l ih =>
    refine ih ?_
    by_cases here : h = k
    · subst here
      exact .inr (State.service_quietHome_self (wakes.imp_left fun ⟨waking, group, _⟩ => ⟨waking, group⟩))
    · have same := State.home_quietHome_of_ne (g := g) s here
      unfold State.service at *
      rw [same]
      exact wakes.imp_left fun ⟨waking, group, mem⟩ => ⟨waking, group, (List.mem_cons.mp mem).resolve_left here⟩

theorem State.quietGroup_supplied (g : Group) (s : State) : SupplyKept s (s.quietGroup g) := by
  have silenced := SupplyKept.foldl (State.quietHome g) (State.quietHome_supplied g) homeIds s
  have asleep (h : HomeId) (waking : s.service h = .waking) (group : (s.home h).group = g) :
      (homeIds.foldl (State.quietHome g) s).service h = .sleep :=
    State.service_quietHomes homeIds (.inl ⟨waking, group, mem_homeIds h⟩)
  rw [State.quietGroup_eq]
  generalize homeIds.foldl (State.quietHome g) s = t at silenced asleep ⊢
  refine silenced.trans ?_
  refine .of_queue rfl fun Q => ⟨List.nodup_append.mpr ⟨nodup_homeIds.filter _, Q.distinct.filter _, ?_⟩, fun h mem => ?_⟩
  · intro a woken b queued e
    exact (of_decide_eq_true (List.mem_filter.mp queued).2) (e ▸ woken)
  · rcases List.mem_append.mp mem with woken | queued
    · obtain ⟨waking, group⟩ := of_decide_eq_true (List.mem_filter.mp woken).2
      exact asleep h waking group
    · exact Q.asleep h (List.mem_of_mem_filter queued)

theorem State.hearQuiet_supplied (g : Group) (ms : Nat) (s : State) : SupplyKept s (s.hearQuiet g ms) :=
  SupplyKept.trans (.of_eq rfl) ((s.setQuietEnd g ms).quietGroup_supplied g)

theorem State.unquietHome_supplied (g : Group) (s : State) (h : HomeId) : SupplyKept s (s.unquietHome g h) := by
  have returned (st : Service) :
      SupplyKept s ((s.updHome h fun x => { x with ret := none, resume := true }).moveTo st h) := by
    refine SupplyKept.trans (.of_eq ?_) (State.moveTo_supplied st h _)
    exact s.updHome_supply fun _ => ⟨rfl, rfl⟩
  unfold State.unquietHome
  split
  · exact .refl s
  · split
    · exact returned .upLow
    · exact s.toSleep_supplied h
    · exact returned .upFull

theorem State.endQuiet_supplied (s : State) (g : Group) : SupplyKept s (s.endQuiet g) := by
  have woken (t : State) : SupplyKept t (t.wakeGroup g) := by
    unfold State.wakeGroup
    dsimp only
    split
    · exact .of_sublist rfl List.filter_sublist
    · exact .refl t
  unfold State.endQuiet
  split
  · refine SupplyKept.trans (SupplyKept.trans ?_ (.foldl (State.unquietHome g) (State.unquietHome_supplied g) homeIds _))
      (woken _)
    exact .of_eq rfl
  · exact .refl s

theorem State.tbusyFell_supplied (s : State) : SupplyKept s s.tbusyFell := by
  unfold State.tbusyFell
  refine SupplyKept.trans ?_ (SupplyKept.foldl State.endQuiet State.endQuiet_supplied groupIds _)
  exact .of_eq rfl

/-! ## Weights (R111, R124 to R127) -/

/-- Crossing a threshold lowers the effective weight to the threshold's weight at most (R125). -/
theorem crossThresholds_fits (n : Nat) (h : HomeId) {tier : Nat} {m : UpsHome} (fits : m.weights.Fits tier) :
    (crossThresholds n h m).1.weights.Fits tier := by
  induction n generalizing m with
  | zero => exact fits
  | succ n ih =>
    unfold crossThresholds
    split
    · exact fits
    · rename_i t threshold
      split
      · have weight : 1 ≤ t.weight := fits.active t threshold
        refine ih ⟨le_min weight fits.positive, (min_le_right _ _).trans fits.within, fits.tier, fun w e => ?_, fits.next,
          fun u e => fits.staged u (List.mem_of_mem_head? e), fun u mem => fits.staged u (List.mem_of_mem_tail mem)⟩
        rw [← Option.some.inj e]
        refine le_min weight ?_
        cases floor : m.stepFloor with
        | none => exact weight
        | some f => exact fits.floor f floor
      · exact fits

/-- The thresholds of a home compared (R125), for items whose weights fit if the old ones do. -/
theorem SupplyKept.compared {s t : State} {h : HomeId} {m : UpsHome}
    (view : t.supply = State.supply { s with ups := { s.ups with homes := s.ups.homes.put h (compareThresholds h m).1 } })
    (fits : ∀ tier, (s.ups.weights h).Fits tier → m.weights.Fits tier) : SupplyKept s t :=
  .of_home view fun tier old => crossThresholds_fits _ h (fits tier old)

theorem State.addVolume_supplied (h : HomeId) (len : Nat) (s : State) : SupplyKept s (s.addVolume h len) :=
  .compared (h := h) (m := { s.ups.homes.at h with volume := sat48 (s.ups.homes.at h).volume len }) rfl fun _ => id

theorem State.updUps_supplied {h : HomeId} {f : UpsHome → UpsHome} (s : State)
    (fits : ∀ m tier, m.weights.Fits tier → (f m).weights.Fits tier) : SupplyKept s (s.updUps h f) :=
  .of_home (h := h) rfl fun tier => fits _ tier

/-- The effective weight of a tier under a step floor lies between 1 and the tier (R127). -/
theorem effOf_bounds {tier : Nat} {floor : Option Nat} (positive : 1 ≤ tier) (floors : ∀ n, floor = some n → 1 ≤ n) :
    1 ≤ effOf tier floor ∧ effOf tier floor ≤ tier := by
  cases floor with
  | none => exact ⟨positive, Nat.le_refl _⟩
  | some n => exact ⟨le_min (floors n rfl) positive, min_le_right _ _⟩

/-- A staged tier is taken at the boundary with the effective weight that it gives (R120, R127). -/
theorem State.upsBoundary_fits {s : State} {h : HomeId} (fits : (s.ups.weights h).Fits (s.home h).tier) :
    (s.upsBoundary.ups.weights h).Fits (s.upsBoundary.home h).tier := by
  obtain ⟨positive, within, tier, floor, next, active, staged⟩ := fits
  simp only [State.upsBoundary, Ups.weights, State.home, Tab.at_make]
  cases staging : (s.ups.homes.at h).stagedTier with
  | none => exact ⟨positive, within, tier, floor, fun _ e => (nomatch e), active, staged⟩
  | some t =>
    obtain ⟨low, high⟩ := next t staging
    obtain ⟨effLow, effHigh⟩ := effOf_bounds low floor
    exact ⟨effLow, effHigh, high, floor, fun _ e => (nomatch e), active, staged⟩

theorem State.upsBoundary_supplied (s : State) : SupplyKept s s.upsBoundary := by
  have service (h : HomeId) : s.upsBoundary.service h = s.service h := by
    simp [State.service, State.home, State.upsBoundary]
  exact ⟨fun Q => ⟨Q.distinct, fun h mem => (service h).trans (Q.asleep h mem)⟩, id,
    fun W h => State.upsBoundary_fits (W h), id⟩

/-! ## The shaped rate (R104, R105) -/

theorem nextRate_le (s t ramp : Nat) : nextRate s t ramp ≤ t := by
  unfold nextRate
  split
  · exact Nat.le_refl t
  · exact min_le_left _ _

/-- A station's allocation is within the capacity (R99, R100). -/
theorem ownAllocation_le {c0 x : Nat} {self : Option (Nat × Nat)} {others : List (Nat × Nat)}
    (own : ownAllocation c0 self others = some x) : x ≤ c0 := by
  unfold ownAllocation at own
  split at own
  · cases own
  · exact (List.single_le_sum (fun _ _ => Nat.zero_le _) x (List.mem_of_mem_head? own)).trans (share_sum_le ..)

/-- The target is within K and the capacity (R104). -/
theorem bandwidthTarget_le {k c0 : Nat} {own : Option Nat} (within : ∀ x, own = some x → x ≤ c0) :
    bandwidthTarget k c0 own ≤ min k c0 := by
  unfold bandwidthTarget
  split
  · exact Nat.zero_le _
  · split
    · exact min_le_min_left k (min_le_right _ _)
    · rename_i x
      exact min_le_min_left k (max_le (min_le_right _ _) (within x rfl))

theorem State.bandwidthCalc_supplied (s : State) : SupplyKept s s.bandwidthCalc := by
  have view : s.bandwidthCalc.supply = { s.supply with shc := s.bandwidthCalc.shc } := rfl
  unfold SupplyKept
  rw [view]
  refine ⟨fun Q => ⟨Q.distinct, Q.asleep⟩, id, id, fun _ => ⟨nextRate_le .., bandwidthTarget_le fun x own => ?_⟩⟩
  split at own
  · cases own
  · exact ownAllocation_le own

theorem State.shareBoundary_supplied (s : State) : SupplyKept s s.shareBoundary := by
  unfold State.shareBoundary
  dsimp only
  split
  · exact s.bandwidthCalc_supplied
  · rename_i battery
    rw [s.power_eq_mains_iff, Bool.not_eq_true] at battery
    exact s.bandwidthCalc_supplied.trans (State.powerRound_supplied battery)

/-! ## The start of the station (R186, R188) -/

/-- A station that starts meets the invariants of the supply. -/
theorem startUp_supplied (s : State) (pins : Pins) (k : Kept) (pending : List Instr) :
    SupplyKept s (startUp pins k pending) := by
  obtain ⟨hpins, -, -, home, -, -, -, -, -, hshc, ⟨-, -, -, -, -, -, -, -, ups⟩, -, -, ⟨queue, -⟩, -⟩ :=
    startUp_startsEveryBlock pins k pending
  refine ⟨fun _ => ?_, fun _ => ?_, fun _ h => ?_, fun _ => ?_⟩
  · constructor <;> simp [State.supply, queue]
  · unfold SupplyView.AllowanceFits State.supply
    rw [hshc, hpins]
    cases pins.mainsOk <;> simp
  · obtain ⟨low, high⟩ := loadHomes_tier_mem pins.mem h
    have tier : ((startUp pins k pending).home h).tier = ((loadHomes pins.mem).at h).tier := by rw [home]
    have weights : (startUp pins k pending).ups.weights h = ⟨((loadHomes pins.mem).at h).tier, none, none, none, []⟩ := by
      unfold Ups.weights
      rw [ups]
      rfl
    unfold State.supply
    dsimp only
    rw [tier, weights]
    constructor <;> simp [low, high]
  · unfold SupplyView.RateFits State.supply
    rw [hshc]
    simp

theorem State.softRestart_supplied (s t : State) : SupplyKept t s.softRestart :=
  (startUp_supplied t s.restartTest.pins.reread s.restartTest.kept s.restartTest.pending).trans (.of_eq rfl)

theorem State.restartIfLeft_supplied (left : Bool) (s : State) : SupplyKept s (s.restartIfLeft left) := by
  unfold State.restartIfLeft
  split
  · exact s.softRestart_supplied s
  · exact .refl s

end Sys2Proof.Machine
end

section
/-! SUPPORT. The scheduler, frames, receptions, tests and calls keep the invariants of the supply. -/

namespace Sys2Proof.Machine

/-! ## The scheduler takes frames (R115) -/

theorem Sched.visitNext_weights {x y : Sched} (h : x.visitNext = some y) : y.ups.weights = x.ups.weights := by
  unfold Sched.visitNext at h
  obtain ⟨k, -, rfl⟩ := Option.map_eq_some_iff.mp h
  exact Ups.weights_upd (u := { x.ups with drrPos := k, visitOpen := true }) fun _ => rfl

theorem Sched.drrChoice_weights {n : Nat} {x : Sched} {r : HomeId × Sched} (h : x.drrChoice n = some r) :
    r.2.ups.weights = x.ups.weights := by
  induction n generalizing x with
  | zero => cases h
  | succ n ih =>
    simp only [Sched.drrChoice] at h
    generalize (x.ups.visitOpen && _) = here at h
    split at h
    · cases h; rfl
    · split at h
      · cases h
      · rename_i y visited
        exact (ih h).trans (Sched.visitNext_weights visited)

theorem Sched.choose_weights {x : Sched} {r : ChoiceRule × HomeId × Sched} (h : x.choose = some r) :
    r.2.2.ups.weights = x.ups.weights := by
  unfold Sched.choose at h
  split at h
  · cases h; rfl
  · obtain ⟨q, chosen, rfl⟩ := Option.map_eq_some_iff.mp h
    exact Sched.drrChoice_weights chosen

theorem Ups.weights_chargeTake (rule : ChoiceRule) (h : HomeId) (len : Nat) (nowEmpty : Bool) (u : Ups) :
    (chargeTake rule h len nowEmpty u).weights = u.weights := by
  have charged : (chargeTake rule h len false u).weights = u.weights := by
    cases rule with
    | expedited => exact Ups.weights_upd (u := { u with credit := u.credit - len, expLast := h }) fun _ => rfl
    | drr => exact Ups.weights_upd (u := { u with credit := u.credit - len }) fun _ => rfl
  cases nowEmpty with
  | false => exact charged
  | true => exact (Ups.weights_emptied h _).trans charged

theorem Sched.take_weights (rule : ChoiceRule) (h : HomeId) (x : Sched) : (x.take rule h).ups.weights = x.ups.weights := by
  unfold Sched.take
  split
  · rfl
  · exact Ups.weights_chargeTake ..

theorem Sched.fill_weights (n room : Nat) (x : Sched) (fs : List Frame) :
    (x.fill n room fs).1.ups.weights = x.ups.weights := by
  induction n generalizing x fs with
  | zero => rfl
  | succ n ih =>
    simp only [Sched.fill]
    split
    · rfl
    · rename_i rule h y chosen
      split
      · rfl
      · split
        · exact (ih _ _).trans ((Sched.take_weights rule h y).trans (Sched.choose_weights chosen))
        · rfl

@[simp] theorem State.moveOnce_supply (s : State) : s.moveOnce.supply = s.supply := by
  unfold State.moveOnce
  split
  · rfl
  · rename_i rule h y chosen
    split
    · rfl
    · split
      · exact s.withUps_supply ((Sched.take_weights rule h y).trans (Sched.choose_weights chosen))
      · rfl

@[simp] theorem State.startTransfer_supply (c : OwnCall) (room : Nat) (s : State) :
    (s.startTransfer c room).supply = s.supply := by
  unfold State.startTransfer
  dsimp only
  split
  · exact s.withUps_supply (Sched.fill_weights 9 room s.sched [])
  all_goals rfl

/-! ## Bursts (R36) -/

theorem State.foldl_supply {α : Type} (f : State → α → State) (h : ∀ s x, (f s x).supply = s.supply) (l : List α)
    (s : State) : (l.foldl f s).supply = s.supply :=
  State.foldl_same State.supply f h l s

@[simp] theorem State.failBurst_supply (s : State) : s.failBurst.supply = s.supply := by
  have unseen (f : Frame → State → State) (h : ∀ x t, (f x t).supply = t.supply) (l : List Frame) (t : State) :
      (l.foldr f t).supply = t.supply := by
    induction l with
    | nil => rfl
    | cons x l ih => exact (h x _).trans ih
  unfold State.failBurst
  split
  · rfl
  · dsimp only
    split
    · refine unseen _ (fun x t => ?_) _ _
      unfold State.returnUp
      dsimp only
      split
      · exact State.count_supply _ _ (t.release x.cells)
      · rfl
    · refine unseen _ (fun x t => ?_) _ _
      unfold State.returnStn
      split <;> rfl
    · refine unseen _ (fun x t => ?_) _ _
      unfold State.returnFlood
      split <;> rfl

@[simp] theorem State.sendBurst_supply (s : State) : s.sendBurst.supply = s.supply := by
  unfold State.sendBurst
  split
  · rfl
  · dsimp only
    split <;> rfl

/-! ## Frames placed (R15, R27 to R29) -/

@[simp] theorem State.alloc_supply (n : Nat) (s : State) : (s.alloc n).supply = s.supply := rfl
@[simp] theorem State.traffic_supply (h : HomeId) (s : State) : (s.traffic h).supply = s.supply := rfl
@[simp] theorem State.fresh_supply (s : State) : s.fresh.supply = s.supply := rfl

theorem State.placeUp_supplied (h : HomeId) (f : Frame) (s : State) : SupplyKept s (s.placeUp h f) := by
  rcases s.placeUp_spec h f with ⟨r, e⟩ | ⟨-, -, e⟩ <;> rw [e]
  · exact s.count_supplied h _
  · have counted : SupplyKept s (((s.alloc f.cells).joinUp h f).count h (countUpFrame f.length)) :=
      SupplyKept.trans (.of_eq rfl) (State.count_supplied h _ ((s.alloc f.cells).joinUp h f))
    exact counted.trans (State.addVolume_supplied h _ _)

theorem State.takeUpstream_supplied (h : HomeId) (bytes : List Byte) (s : State) :
    SupplyKept s (s.takeUpstream h bytes) := by
  unfold State.takeUpstream
  dsimp only
  split
  · exact State.count_supplied h _ (s.traffic h)
  · split
    · exact State.count_supplied h _ (s.traffic h)
    · refine SupplyKept.trans (.of_eq ?_) (State.placeUp_supplied h _ _)
      exact (s.traffic h).updHome_supply fun _ => ⟨rfl, rfl⟩

@[simp] theorem State.placeChecked_supply (h : HomeId) (f : Frame) (s : State) : (s.placeChecked h f).supply = s.supply := by
  unfold State.placeChecked
  split
  · exact s.count_supply ..
  · rfl

theorem State.placeDown_supplied (bytes : List Byte) (s : State) (h : HomeId) : SupplyKept s (s.placeDown h bytes) := by
  unfold State.placeDown
  dsimp only
  split
  · exact s.count_supplied h _
  · split
    · split
      · exact s.count_supplied h _
      · have placed (f : Frame) (ids : List FilterId) :
            SupplyKept s ((s.placeChecked h f).offerWake h ids bytes.length (bytes.take 64) .uplink) :=
          .of_eq (s.placeChecked_supply h f)
        split
        · exact (placed _ _).trans (State.wakeCause_supplied h _)
        · exact placed _ _
    · exact .of_eq (s.placeChecked_supply ..)

theorem State.routeFrame_supplied (bytes : List Byte) (s : State) : SupplyKept s (s.routeFrame bytes) := by
  have flooded : SupplyKept s (s.floodFrame bytes) := by
    have last (t : State) : (t.placeFlood bytes).supply = t.supply := by
      unfold State.placeFlood
      dsimp only
      split <;> rfl
    exact (SupplyKept.foldl _ (State.placeDown_supplied bytes) (s.namedHomes (destinationOf bytes)) s).trans
      (.of_eq (last _))
  have stationed (i : StationId) (h : HomeId) : (s.placeStn i h bytes).supply = s.supply := by
    unfold State.placeStn
    dsimp only
    split <;> rfl
  unfold State.routeFrame
  dsimp only
  split
  · exact flooded
  · split
    · split
      · exact s.placeDown_supplied bytes _
      · exact .of_eq (stationed _ _)
    · exact flooded

/-! ## Receptions (R37, R38, R49, R50, R69) -/

@[simp] theorem State.setRx_supply (r : Reception) (s : State) : (s.setRx r).supply = s.supply := rfl

@[simp] theorem State.holdDown_supply (reserve : Nat) (f : ArrivingFrame) (s : State) (h : HomeId) :
    (s.holdDown reserve f h).supply = s.supply := by
  unfold State.holdDown
  split
  · exact s.count_supply ..
  · rfl

@[simp] theorem State.openFrame_supply (r : Reception) (f : ArrivingFrame) (s : State) :
    (s.openFrame r f).supply = s.supply := by
  unfold State.openFrame
  split
  · unfold State.holdUp
    split <;> rfl
  · exact s.holdDown_supply 0 f _
  · rfl
  · rfl

@[simp] theorem State.nameCopies_supply (f : ArrivingFrame) (s : State) : (s.nameCopies f).1.supply = s.supply := by
  unfold State.nameCopies
  split
  · rfl
  · exact State.foldl_supply _ (State.holdDown_supply 64 f) _ s

@[simp] theorem State.matchFrame_supply (k : CallKind) (f : ArrivingFrame) (s : State) :
    (s.matchFrame k f).supply = s.supply := by
  refine State.foldl_supply _ (fun t h => ?_) _ s
  unfold State.matchHome
  split
  · unfold State.freeUnmatched
    dsimp only
    split
    · exact State.count_supply h _ (t.release _)
    · rfl
  · split <;> rfl

@[simp] theorem State.dataWord_supply (r : Reception) (f : ArrivingFrame) (w : Word) (ok : Bool) (s : State) :
    (s.dataWord r f w ok).supply = s.supply := by
  have ends (q : State × ArrivingFrame) (same : q.1.supply = s.supply) :
      (if q.2.length ≤ q.2.bytes.length then (q.1.fillHeld q.2).setRx r.afterFrame
        else q.1.setRx { r with stage := .frameData q.2 }).supply = s.supply := by
    split <;> exact same
  unfold State.dataWord
  refine ends _ ?_
  dsimp only
  split
  · split <;> simp
  · split <;> simp

@[simp] theorem State.takeWord_supply (r : Reception) (w : Word) (p : Bool) (s : State) :
    (s.takeWord r w p).supply = s.supply := by
  have staged (q : Reception) (ok : Bool) : (s.stageWord q w ok).supply = s.supply := by
    unfold State.stageWord
    split
    case h_3 =>
      unfold State.lengthWord
      dsimp only
      split
      · rfl
      · exact State.openFrame_supply ..
    case h_4 => exact State.dataWord_supply ..
    all_goals rfl
  unfold State.takeWord
  dsimp only
  split
  · rfl
  · exact staged _ _

@[simp] theorem State.joinHeld_supply (caller : StationId) (s : State) (x : Held) :
    (s.joinHeld caller x).supply = s.supply := by
  unfold State.joinHeld
  split
  · split <;> rfl
  · split
    · exact State.count_supply _ _ (s.release x.frame.cells)
    · rfl

theorem State.applyWake_supplied (s : State) (w : PendingWake) : SupplyKept s (s.applyWake w) := by
  unfold State.applyWake
  split
  · exact SupplyKept.trans (.of_eq rfl) (State.wakeCause_supplied w.home _)
  · exact .of_eq rfl
  · exact .refl s

theorem State.goodEnd_supplied (caller : StationId) (s : State) : SupplyKept s (s.goodEnd caller) := by
  unfold State.goodEnd
  dsimp only
  refine SupplyKept.trans ?_ (SupplyKept.foldl _ State.applyWake_supplied _ _)
  refine SupplyKept.trans ?_ (.of_eq (State.foldl_supply _ (State.joinHeld_supply caller) _ _))
  exact .of_eq rfl

theorem State.closeIfComplete_supplied (s : State) : SupplyKept s s.closeIfComplete := by
  have placed (r : Reception) : SupplyKept s (s.closeGood r) := by
    unfold State.closeGood State.placeReceived
    split
    · exact .of_eq rfl
    · split <;> exact .of_eq rfl
    · have closed : SupplyKept s (s.driveClose true) := .of_eq rfl
      exact closed.trans (State.goodEnd_supplied _ _)
  unfold State.closeIfComplete
  split
  · split
    · split
      · exact .of_eq rfl
      · exact placed _
    · exact .refl s
  · exact .refl s

theorem State.endReception_supplied (s : State) : SupplyKept s s.endReception := by
  unfold State.endReception
  split
  · split
    · split
      · exact s.goodEnd_supplied _
      · exact .of_eq rfl
    · split <;> exact .of_eq rfl
  · exact .of_eq rfl
  · exact .refl s

@[simp] theorem State.cutReception_supply (s : State) : s.cutReception.supply = s.supply := by
  unfold State.cutReception
  split
  · split <;> rfl
  · rfl
  · rfl

/-! ## The end of a command (R150, R151) -/

@[simp] theorem State.withdrawClaim_supply (r : Option StationId) (s : State) : (s.withdrawClaim r).supply = s.supply := by
  obtain ⟨c, o, w, h⟩ := s.withdrawClaim_spec r
  rw [h]
  rfl

@[simp] theorem State.examine_supply (s : State) : s.examine.supply = s.supply := by
  obtain ⟨st, c, o, w, h⟩ := s.examine_spec
  rw [h]
  rfl

@[simp] theorem State.settle_supply (s0 s : State) : (State.settle s0 s).supply = s.supply := by
  obtain ⟨st, c, o, w, h⟩ := State.settle_spec s0 s
  rw [h]
  rfl

/-! ## The test (R11, R154, R157, R163) -/

@[simp] theorem State.emit_supply (o : List Pulse) (s : State) : (s.emit o).supply = s.supply := rfl

@[simp] theorem State.updTest_supply (f : CurrentTest → CurrentTest) (s : State) : (s.updTest f).supply = s.supply := rfl

@[simp] theorem State.closeRelay_supply (h : HomeId) (s : State) : (s.closeRelay h).supply = s.supply := by
  unfold State.closeRelay
  split <;> rfl

theorem State.connect_supplied (s : State) : SupplyKept s s.connect := by
  unfold State.connect
  split
  · exact .refl s
  · dsimp only
    split
    · exact .of_eq rfl
    · refine SupplyKept.trans ?_ (.of_eq ((State.closeRelay_supply _ _).trans (State.emit_supply _ _)))
      refine SupplyKept.trans ?_ (State.hold_supplied _ _)
      exact .of_eq rfl

theorem State.claimOut_supplied (withdrawn : Bool) (s : State) : SupplyKept s (s.claimOut withdrawn) := by
  unfold State.claimOut
  split
  · exact .of_eq rfl
  · split
    · exact s.connect_supplied
    · exact .refl s

@[simp] theorem State.nextStep_supply (s : State) : s.nextStep.supply = s.supply := by
  unfold State.nextStep
  split
  · rfl
  · split
    · unfold State.startStep
      split <;> rfl
    · exact s.endTest_supply _

@[simp] theorem State.measure_supply (s : State) : s.measure.supply = s.supply := State.nextStep_supply _

@[simp] theorem State.completeStep_supply (st : TestStep) (ms : List Measurement) (s : State) :
    (s.completeStep st ms).supply = s.supply := State.nextStep_supply _

@[simp] theorem State.takeReading_supply (st : TestStep) (n : Nat) (v i ac : Word) (s : State) :
    (s.takeReading st n v i ac).supply = s.supply := by
  unfold State.takeReading
  dsimp only
  split
  · rfl
  · split
    · exact State.completeStep_supply ..
    · exact State.completeStep_supply ..

@[simp] theorem State.abortForAdmin_supply (h : HomeId) (s : State) : (s.abortForAdmin h).supply = s.supply := by
  unfold State.abortForAdmin
  split
  · split
    · rfl
    · exact s.endTest_supply _
  · rfl

theorem State.disableHome_supplied (h : HomeId) (s : State) : SupplyKept s (s.disableHome h) := by
  unfold State.disableHome
  split
  · exact .refl s
  · exact SupplyKept.trans (.of_eq (s.abortForAdmin_supply h)) (State.enterAdminDown_supplied h _)

theorem State.enableHome_supplied (h : HomeId) (s : State) : SupplyKept s (s.enableHome h) := by
  unfold State.enableHome
  split
  · exact s.enterDown_supplied h
  · exact .refl s

@[simp] theorem State.writeRecord_supply (h : HomeId) (origin : Origin) (outcome : TestOutcome) (split : Bool)
    (meas : List Measurement) (s : State) : (s.writeRecord h origin outcome split meas).supply = s.supply := rfl

@[simp] theorem State.writeCancelled_supply (h : HomeId) (origin : Origin) (cause : SuspendCause) (meas : List Measurement)
    (s : State) : (s.writeCancelled h origin cause meas).supply = s.supply := by
  unfold State.writeCancelled
  split <;> rfl

@[simp] theorem State.fileTest_supply (c : CurrentTest) (s : State) : (s.fileTest c).supply = s.supply := by
  unfold State.fileTest
  split
  · rfl
  · split
    · exact State.writeCancelled_supply ..
    · rfl
  · rfl

theorem State.releaseHome_supplied (h : HomeId) (s : State) : SupplyKept s (s.releaseHome h) := by
  unfold State.releaseHome
  split
  · refine SupplyKept.trans ?_ (State.enterTraining_supplied h _)
    exact .of_eq rfl
  · exact .refl s

theorem State.releaseBus_supplied (s : State) : SupplyKept s s.releaseBus := by
  unfold State.releaseBus
  dsimp only
  split
  · refine SupplyKept.trans ?_ (State.tbusyFell_supplied _)
    exact .of_eq rfl
  · exact .of_eq rfl

theorem State.quietOut_supplied (q : QuietCall) (s : State) : SupplyKept s (s.quietOut q) := by
  have heard := s.hearQuiet_supplied q.group q.ms
  unfold State.quietOut
  generalize s.hearQuiet q.group q.ms = heardState at heard ⊢
  dsimp only
  split
  · exact heard.trans (.of_eq (State.updTest_supply _ _))
  · exact heard

/-! ## Link reports (R5, R6, R8, R21) -/

theorem State.linkLoss_supplied (h : HomeId) (s : State) : SupplyKept s (s.linkLoss h) := by
  have counted (t : State) : (t.countLoss h).supply = t.supply := by
    have flaps (l : List Nat) (n : Nat) :
        (t.updHome h fun m => { m with flaps := l, ctr := { m.ctr with flaps := sat32 m.ctr.flaps n } }).supply = t.supply :=
      t.updHome_supply fun _ => ⟨rfl, rfl⟩
    unfold State.countLoss
    dsimp only
    split <;> exact flaps _ 1
  unfold State.linkLoss
  dsimp only
  split
  · exact s.enterDown_supplied h
  · exact (s.enterDown_supplied h).trans (.of_eq (counted _))

theorem State.applyLink_supplied (h : HomeId) (st : LinkState) (s : State) : SupplyKept s (s.applyLink h st) := by
  have cleared : SupplyKept s (s.updHome h fun m => { m with resume := false }) :=
    .of_eq (s.updHome_supply fun _ => ⟨rfl, rfl⟩)
  unfold State.applyLink
  split
  case h_1 => exact s.enterTraining_supplied h
  case h_2 => exact s.upFromDown_supplied h
  case h_3 | h_6 => exact s.moveTo_supplied .upFull h
  case h_4 | h_5 => exact s.enterDown_supplied h
  case h_7 => exact s.wakeFailed_supplied .down h
  case h_8 | h_9 => exact cleared
  case h_10 | h_11 =>
    split
    · exact s.enterDown_supplied h
    · exact s.linkLoss_supplied h
  case h_12 | h_13 =>
    split
    · exact .refl s
    · exact s.linkLoss_supplied h
  case h_14 => exact .refl s

/-! ## Calls (R61, R71, R73, R79) -/

@[simp] theorem State.observeBus_supply (s : State) : s.observeBus.supply = s.supply := rfl

@[simp] theorem State.loseContention_supply (s : State) : s.loseContention.supply = s.supply := by
  obtain ⟨c, q, w, e, -⟩ := s.withdrawContended_spec
  have lost : s.loseContention.supply = s.withdrawContended.supply := rfl
  rw [lost, e]
  rfl

@[simp] theorem State.win_supply (k : Contending) (s : State) : (s.win k).supply = s.supply := by
  have nothing : s.winNothing.supply = s.supply := s.loseContention_supply
  unfold State.win
  split
  case h_6 => rfl
  case h_7 =>
    unfold State.callGateway
    split
    · dsimp only
      split <;> rfl
    · rfl
  all_goals
    split
    · rfl
    · exact nothing

theorem State.actOn_supplied (o : CallOutcome) (c : OwnCall) (s : State) : SupplyKept s (s.actOn o c) := by
  unfold State.actOn
  split
  · exact .of_eq s.sendBurst_supply
  · exact .of_eq s.sendBurst_supply
  · exact .of_eq s.failBurst_supply
  · exact .of_eq s.failBurst_supply
  · exact .of_eq rfl
  · unfold State.orderOutcome
    split
    · dsimp only
      split <;> exact .of_eq rfl
    · exact .refl s
  · unfold State.reportOutcome
    split
    · refine SupplyKept.trans ?_ (State.restartIfLeft_supplied _ _)
      exact .of_eq rfl
    · exact .refl s
  · exact .refl s

theorem State.endCall_supplied (o : CallOutcome) (c : OwnCall) (s : State) : SupplyKept s (s.endCall o c) := by
  unfold State.endCall
  refine SupplyKept.trans ?_ (State.actOn_supplied _ _ _)
  exact .of_eq rfl

theorem State.lastWordSent_supplied (c : OwnCall) (s : State) : SupplyKept s (s.lastWordSent c) := by
  have left : SupplyKept s s.leaveCall := .of_eq rfl
  unfold State.lastWordSent State.wentOut
  split
  · exact .of_eq rfl
  · refine left.trans ?_
    split
    · exact State.claimOut_supplied _ _
    · exact State.quietOut_supplied _ _
    · exact .of_eq (State.sendBurst_supply _)
    · exact .refl _

theorem State.cutOwn_supplied (reset : Bool) (s : State) : SupplyKept s (s.cutOwn reset) := by
  have failed : SupplyKept s s.leaveCall.failBurst := .of_eq s.leaveCall.failBurst_supply
  unfold State.cutOwn
  split
  · unfold State.cutCall
    dsimp only
    split
    · exact .of_eq rfl
    · exact .of_eq rfl
    · exact .of_eq rfl
    · exact failed
    · split
      · exact failed
      · exact s.endCall_supplied _ _
    · split
      · exact failed
      · exact s.endCall_supplied _ _
    · exact s.endCall_supplied _ _
    · exact s.endCall_supplied _ _
  · exact .of_eq s.loseContention_supply
  · exact .refl s

end Sys2Proof.Machine
end

section
/-! SUPPORT. Every command keeps the invariants of the supply. -/

namespace Sys2Proof.Machine

/-- A command's answer keeps the invariants of the supply. -/
def OutcomeSupplied (s : State) : Host.Outcome State Fault Refusal → Prop
  | .next t => SupplyKept s t
  | .fault _ | .refused _ => True

/-- A command that ends in the examination and the standing requests. -/
theorem OutcomeSupplied.settled {s t : State} (h : SupplyKept s t) : OutcomeSupplied s (.next (State.settle s t)) :=
  h.trans (.of_eq (State.settle_supply s t))

/-- A command that ends so and shows no change in the view of the supply. -/
theorem OutcomeSupplied.unseen {s t : State} (h : t.supply = s.supply) : OutcomeSupplied s (.next (State.settle s t)) :=
  .settled (.of_eq h)

/-! ## Line ports (R2, R5, R15, R16) -/

theorem execLinkStateReport_supplied (h : HomeId) (st : LinkState) (s : State) :
    OutcomeSupplied s (execLinkStateReport h st s) := by
  have recorded : SupplyKept s (s.fresh.updHome h fun m => { m with link := st }) :=
    .of_eq (s.fresh.updHome_supply fun _ => ⟨rfl, rfl⟩)
  exact .settled (recorded.trans (State.applyLink_supplied h st _))

theorem execRateReport_supplied (h : HomeId) (up down : Word) (s : State) :
    OutcomeSupplied s (execRateReport h up down s) := by
  unfold execRateReport OutcomeSupplied
  dsimp only
  split
  · exact .of_eq rfl
  · exact .of_eq (s.fresh.updHome_supply fun _ => ⟨rfl, rfl⟩)

theorem execWakeFailure_supplied (h : HomeId) (s : State) : OutcomeSupplied s (execWakeFailure h s) := by
  refine .settled ?_
  split
  · exact State.wakeFailed_supplied .failure h s.fresh
  · split
    · exact State.enterDown_supplied h s.fresh
    · exact .of_eq rfl

theorem execUpstreamFrame_supplied (h : HomeId) (bytes : List Byte) (s : State) :
    OutcomeSupplied s (execUpstreamFrame h bytes s) := by
  refine .settled ?_
  split
  · exact .of_eq rfl
  · exact State.count_supplied h _ s.fresh
  · exact State.count_supplied h _ s.fresh
  · exact State.takeUpstream_supplied h bytes s.fresh

theorem execDownstreamGiveStart_supplied (h : HomeId) (ready : Bool) (s : State) :
    OutcomeSupplied s (execDownstreamGiveStart h ready s) := by
  unfold execDownstreamGiveStart OutcomeSupplied
  dsimp only
  split <;> exact .of_eq rfl

theorem execDownstreamFrameTaken_supplied (h : HomeId) (s : State) :
    OutcomeSupplied s (execDownstreamFrameTaken h s) := by
  refine .settled ?_
  split
  · exact .of_eq rfl
  · refine SupplyKept.trans (.of_eq ?_) (State.addVolume_supplied h _ _)
    rw [State.traffic_supply, State.count_supply]
    rfl

/-! ## Mode requests (R7, R8, R173) -/

/-- A mode request taken, and what follows it. -/
theorem OutcomeSupplied.taken (r : ModeRequest) (h : HomeId) {s t : State}
    (kept : SupplyKept (s.fresh.takeRequest r h) t) : OutcomeSupplied s (.next (State.settle s t)) :=
  .settled (SupplyKept.trans (.of_eq rfl) kept)

/-- A return mode written for a home in QUIET (R7). -/
theorem State.setRet_supplied (h : HomeId) (m : Option Mode) (s : State) :
    SupplyKept s (s.updHome h fun x => { x with ret := m }) :=
  .of_eq (s.updHome_supply fun _ => ⟨rfl, rfl⟩)

theorem execModeRequestFull_supplied (h : HomeId) (s : State) : OutcomeSupplied s (execModeRequestFull h s) := by
  refine .taken .full h ?_
  split
  · exact State.moveTo_supplied .upFull h _
  · exact State.setRet_supplied h _ _
  · exact .refl _

theorem execModeRequestLow_supplied (h : HomeId) (s : State) : OutcomeSupplied s (execModeRequestLow h s) := by
  refine .taken .low h ?_
  split
  · exact State.moveTo_supplied .upLow h _
  · exact State.setRet_supplied h _ _
  · exact .refl _

theorem execModeRequestSleep_supplied (h : HomeId) (s : State) : OutcomeSupplied s (execModeRequestSleep h s) := by
  refine .taken .sleep h ?_
  split
  · exact State.toSleep_supplied h _
  · exact State.toSleep_supplied h _
  · exact State.toSleep_supplied h _
  · exact State.setRet_supplied h _ _
  · exact .refl _

theorem execModeRequestWake_supplied (h : HomeId) (s : State) : OutcomeSupplied s (execModeRequestWake h s) := by
  refine .taken .wake h ?_
  split
  · exact (State.count_supplied h _ _).trans (State.moveTo_supplied .waking h _)
  · exact .refl _

theorem State.service_toSleep (h : HomeId) (s : State) : (s.toSleep h).service h = .sleep := by simp [State.toSleep]

/-- A withdrawn home goes to SLEEP and to the head of the wake queue (R173). -/
theorem State.withdrawn_supplied (h : HomeId) (s : State) : SupplyKept s ((s.toSleep h).wakeHead h) :=
  (s.toSleep_supplied h).trans (State.wakeHead_supplied (s.service_toSleep h))

theorem execWakeWithdrawRequest_supplied (h : HomeId) (s : State) : OutcomeSupplied s (execWakeWithdrawRequest h s) := by
  refine .taken .withdraw h ?_
  split
  · exact State.withdrawn_supplied h _
  · exact State.withdrawn_supplied h _
  · exact .refl _

theorem execWakeAbandonRequest_supplied (h : HomeId) (s : State) : OutcomeSupplied s (execWakeAbandonRequest h s) := by
  refine .taken .abandon h ?_
  split
  · exact State.wakeFailed_supplied .timeLimit h _
  · exact .refl _

/-! ## STORM (R19, R20, R22) -/

@[simp] theorem State.stormRose_supply (s : State) : s.stormRose.supply = s.supply := State.suspend_supply .storm _

theorem execSurge_supplied (h : HomeId) (s : State) : OutcomeSupplied s (execSurge h s) := by
  have held : ((s.fresh.count h fun c => { c with surges := sat32 c.surges 1 }).startHold h).supply = s.supply :=
    s.fresh.count_supply h fun c => { c with surges := sat32 c.surges 1 }
  refine .unseen ?_
  split
  · rfl
  · dsimp only
    split
    · exact held
    · exact (State.stormRose_supply _).trans held

theorem execStormHoldExpiry_supplied (s : State) : OutcomeSupplied s (execStormHoldExpiry s) := by
  refine .unseen ?_
  split
  · dsimp only
    split <;> rfl
  · rfl

theorem execStormRise_supplied (s : State) : OutcomeSupplied s (execStormRise s) := by
  refine .unseen ?_
  split
  · rfl
  · exact State.stormRose_supply _

theorem execStormFall_supplied (s : State) : OutcomeSupplied s (execStormFall s) := by
  refine .unseen ?_
  split <;> rfl

/-! ## The cabinet bus -/

theorem execCbBsyRise_supplied (s : State) : OutcomeSupplied s (execCbBsyRise s) := by
  unfold execCbBsyRise OutcomeSupplied
  dsimp only
  split <;> exact .of_eq rfl

theorem execContendStart_supplied (s : State) : OutcomeSupplied s (execContendStart s) := by
  unfold execContendStart OutcomeSupplied
  dsimp only
  split <;> exact .of_eq rfl

theorem execContendMidpoint_supplied (d8 : Bool) (s : State) : OutcomeSupplied s (execContendMidpoint d8 s) := by
  refine .unseen ?_
  split
  · exact State.loseContention_supply s.fresh
  · rfl

theorem execContendWindowEnd_supplied (ids : Byte) (s : State) : OutcomeSupplied s (execContendWindowEnd ids s) := by
  have lost : s.fresh.loseContention.supply = s.supply := State.loseContention_supply s.fresh
  refine .unseen ?_
  split
  · split
    · exact lost
    · rfl
    · split
      · exact State.win_supply _ s.fresh
      · exact lost
    · rfl
  · rfl

theorem execCallWord_supplied (w : Word) (parity : Bool) (s : State) : OutcomeSupplied s (execCallWord w parity s) := by
  have taken : (s.fresh.takeCall w).supply = s.supply := by
    unfold State.takeCall
    dsimp only
    split
    · split <;> rfl
    · rfl
  refine .unseen ?_
  split
  · split
    · rfl
    · split
      · rfl
      · exact taken
  · rfl

theorem execAnswerWord_supplied (w : Word) (parity : Bool) (s : State) : OutcomeSupplied s (execAnswerWord w parity s) := by
  refine .settled ?_
  split
  · split
    · split
      · split
        · exact .of_eq (State.startTransfer_supply _ _ s.fresh)
        · split <;> exact State.endCall_supplied _ _ s.fresh
      · exact State.endCall_supplied _ _ s.fresh
    · split <;> exact .of_eq rfl
    · exact .of_eq rfl
  · exact .of_eq rfl

theorem execAnswerWindowExpiry_supplied (s : State) : OutcomeSupplied s (execAnswerWindowExpiry s) := by
  refine .settled ?_
  split
  · exact State.endCall_supplied _ _ s.fresh
  · exact .of_eq rfl

theorem execCloseWord_supplied (w : Word) (parity : Bool) (s : State) : OutcomeSupplied s (execCloseWord w parity s) := by
  refine .settled ?_
  split
  · split <;> exact State.endCall_supplied _ _ s.fresh
  · split <;> exact .of_eq rfl
  · exact .of_eq rfl

theorem execCloseWindowExpiry_supplied (s : State) : OutcomeSupplied s (execCloseWindowExpiry s) := by
  refine .settled ?_
  split
  · exact State.endCall_supplied _ _ s.fresh
  · exact .of_eq rfl

theorem execTransferWordSent_supplied (s : State) : OutcomeSupplied s (execTransferWordSent s) := by
  refine .settled ?_
  split
  · split
    · exact .of_eq rfl
    · dsimp only
      split
      · refine SupplyKept.trans ?_ (State.lastWordSent_supplied _ _)
        exact .of_eq rfl
      · exact .of_eq rfl
  · exact .of_eq rfl

theorem execTransferWordReceived_supplied (w : Word) (parity : Bool) (s : State) :
    OutcomeSupplied s (execTransferWordReceived w parity s) := by
  refine .settled ?_
  split
  · refine SupplyKept.trans (.of_eq ?_) (State.closeIfComplete_supplied _)
    rw [State.takeWord_supply]
    rfl
  · exact .of_eq rfl

theorem execBadCloseTimeout_supplied (s : State) : OutcomeSupplied s (execBadCloseTimeout s) := by
  refine .unseen ?_
  split
  · split <;> rfl
  · rfl

theorem execCbBsyFall_supplied (s : State) : OutcomeSupplied s (execCbBsyFall s) := by
  refine .settled ?_
  split
  · exact .of_eq rfl
  · refine (SupplyKept.trans ?_ (State.endReception_supplied _)).trans ((State.cutOwn_supplied false _).trans (.of_eq rfl))
    exact .of_eq rfl

theorem execBusReset_supplied (s : State) : OutcomeSupplied s (execBusReset s) := by
  refine .settled ?_
  split
  · exact .of_eq rfl
  · refine SupplyKept.trans ?_ ((State.cutOwn_supplied true _).trans (.of_eq rfl))
    exact .of_eq (State.cutReception_supply s.fresh)

theorem execBusWatchdogExpiry_supplied (s : State) : OutcomeSupplied s (execBusWatchdogExpiry s) := by
  unfold execBusWatchdogExpiry OutcomeSupplied
  dsimp only
  split <;> exact .of_eq rfl

theorem execQuietGap_supplied (s : State) : OutcomeSupplied s (execQuietGap s) := by
  unfold execQuietGap OutcomeSupplied
  dsimp only
  split <;> exact .of_eq rfl

theorem execSelfCheckStart_supplied (s : State) : OutcomeSupplied s (execSelfCheckStart s) := by
  unfold execSelfCheckStart OutcomeSupplied
  dsimp only
  split <;> exact .of_eq rfl

@[simp] theorem State.reply_supply (r : Result) (d : ReplyData) (s : State) : (s.reply r d).supply = s.supply := by
  obtain ⟨o, e, -⟩ := s.reply_spec r d
  rw [e]
  rfl

theorem execSelfCheckEnd_supplied (readBack : List (Word × Bool)) (s : State) :
    OutcomeSupplied s (execSelfCheckEnd readBack s) := by
  refine .unseen ?_
  split
  · rw [State.observeBus_supply, State.reply_supply]
    rfl
  · rfl

/-! ## Peers, claims, quiets -/

theorem execNoticeHeard_supplied (caller : StationId) (n : Notice) (s : State) :
    OutcomeSupplied s (execNoticeHeard caller n s) := by
  refine .unseen ?_
  split <;> rfl

theorem execClaimHeard_supplied (caller : StationId) (h : HomeId) (g : Group) (s : State) :
    OutcomeSupplied s (execClaimHeard caller h g s) := by
  refine .unseen ?_
  split
  · exact State.withdrawClaim_supply (some caller) _
  · split
    · exact State.endTest_supply _ _
    · rfl

theorem execQuietHeard_supplied (g : Group) (ms : Word) (s : State) : OutcomeSupplied s (execQuietHeard g ms s) := by
  refine .settled (SupplyKept.trans ?_ (State.hearQuiet_supplied _ _ _))
  exact .of_eq rfl

theorem execClaimWithdrawalSettled_supplied (s : State) : OutcomeSupplied s (execClaimWithdrawalSettled s) := by
  refine .settled ?_
  split
  · split
    · exact .of_eq rfl
    · dsimp only
      split
      · refine SupplyKept.trans ?_ (State.connect_supplied _)
        exact .of_eq rfl
      · split
        · exact .of_eq (State.examine_supply _)
        · exact .of_eq rfl
  · exact .of_eq rfl

theorem execTbusyRise_supplied (s : State) : OutcomeSupplied s (execTbusyRise s) := by
  refine .unseen ?_
  split
  · exact State.withdrawClaim_supply none _
  · rfl

theorem execTbusyFall_supplied (s : State) : OutcomeSupplied s (execTbusyFall s) := by
  refine .settled ?_
  split
  · refine SupplyKept.trans ?_ (State.tbusyFell_supplied _)
    exact .of_eq rfl
  · exact .of_eq rfl

/-! ## The round boundary, moves, the gateway -/

@[simp] theorem State.lostRounds_supply (s : State) : s.lostRounds.supply = s.supply := by
  unfold State.lostRounds
  split
  · rfl
  · split
    · refine (State.foldl_supply (fun t h => t.freeUp .gatewayLost h) (fun t h => t.freeUp_supply _ h) homeIds _).trans ?_
      rfl
    · rfl

@[simp] theorem State.roleChange_supply (wasWorking : Bool) (s : State) :
    (s.roleChange wasWorking).supply = s.supply := by
  unfold State.roleChange
  split
  · rfl
  · split <;> rfl

theorem execRoundBoundary_supplied (s : State) : OutcomeSupplied s (execRoundBoundary s) := by
  have aged : SupplyKept s s.fresh.upsBoundary := State.upsBoundary_supplied s.fresh
  have viewed : SupplyKept s s.fresh.upsBoundary.choose.watches := aged.trans (.of_eq rfl)
  have counted := viewed.trans (.of_eq (State.lostRounds_supply _))
  have latched (t : State) : SupplyKept t (t.roleChange s.working).latch := .of_eq (State.roleChange_supply s.working t)
  have shared := counted.trans ((latched _).trans (State.shareBoundary_supplied _))
  exact .settled (shared.trans (.of_eq (State.examine_supply _)))

theorem execMove_supplied (s : State) : OutcomeSupplied s (execMove s) := by
  refine .unseen ?_
  split
  · exact State.moveOnce_supply s.fresh
  · rfl

@[simp] theorem State.dropGiven_supply (s : State) : s.dropGiven.supply = s.supply := by
  unfold State.dropGiven
  split <;> rfl

theorem execUplinkStateChange_supplied (up : Bool) (s : State) : OutcomeSupplied s (execUplinkStateChange up s) := by
  have cut (t : State) : t.cutGiving.supply = t.supply := by
    unfold State.cutGiving
    split
    · rfl
    · rfl
    · exact t.dropGiven_supply
  refine .unseen ?_
  split
  · exact cut _
  · rfl

theorem execTransmitterStart_supplied (s : State) : OutcomeSupplied s (execTransmitterStart s) := by
  unfold execTransmitterStart OutcomeSupplied
  dsimp only
  split
  · split
    · split <;> exact .of_eq rfl
    · exact .of_eq rfl
  · exact .of_eq rfl

theorem execUplinkFrameTaken_supplied (s : State) : OutcomeSupplied s (execUplinkFrameTaken s) := by
  refine .settled ?_
  split
  · exact .of_eq rfl
  · unfold State.queueFrameSent
    split
    · exact .of_eq rfl
    · exact .of_eq (State.dropGiven_supply s.fresh)
  · refine SupplyKept.trans ?_ (State.restartIfLeft_supplied _ _)
    exact .of_eq rfl

theorem execUplinkFrameReceived_supplied (bytes : List Byte) (err : Bool) (s : State) :
    OutcomeSupplied s (execUplinkFrameReceived bytes err s) := by
  have managed (t : State) : (t.manage bytes).supply = t.supply := by
    unfold State.manage
    split
    · rfl
    · dsimp only
      split
      · rfl
      · split
        · rfl
        · unfold State.offerOrder
          split <;> rfl
  refine .settled ?_
  split
  · exact .of_eq rfl
  · split
    · exact .of_eq rfl
    · dsimp only
      split
      · exact .of_eq (managed _)
      · refine SupplyKept.trans ?_ (State.routeFrame_supplied _ _)
        exact .of_eq rfl

theorem execAddressAgeTick_supplied (s : State) : OutcomeSupplied s (execAddressAgeTick s) := by
  unfold execAddressAgeTick OutcomeSupplied
  dsimp only
  split <;> exact .of_eq rfl

theorem execManagementOrderHandoff_supplied (s : State) : OutcomeSupplied s (execManagementOrderHandoff s) := by
  refine .unseen ?_
  split
  · split <;> rfl
  · rfl

theorem execOwnReportPass_supplied (s : State) : OutcomeSupplied s (execOwnReportPass s) := by
  refine .unseen ?_
  split
  · dsimp only
    split <;> rfl
  · rfl

/-! ## Power lines and timers (R106, R169, R179) -/

theorem execMainsOkFall_supplied (s : State) : OutcomeSupplied s (execMainsOkFall s) := by
  refine .settled ?_
  split
  · exact .powerRound (State.enterLow_supply _)
  · exact .of_eq rfl

theorem execBattLowRise_supplied (s : State) : OutcomeSupplied s (execBattLowRise s) := by
  refine .settled ?_
  split
  · exact .of_eq rfl
  · rename_i battery
    have fallen : s.pins.mainsOk = false := Bool.eq_false_iff.mpr (not_or.mp battery).2
    refine .powerRound ((State.enterLow_supply _).trans ?_)
    exact SupplyView.ext rfl rfl fallen rfl rfl rfl rfl

/-- The homes that the return to mains serves are distinct and in SLEEP (R179). -/
theorem State.served_sleeps {s : State} (Q : s.supply.QueueSleeps) :
    (s.bhu.wakeQ ++ (s.homesIn .sleep).filter fun h => !s.bhu.wakeQ.contains h).Nodup ∧
      ∀ h ∈ s.bhu.wakeQ ++ (s.homesIn .sleep).filter fun h => !s.bhu.wakeQ.contains h, s.service h = .sleep := by
  constructor
  · refine List.nodup_append.mpr ⟨Q.distinct, (nodup_homeIds.filter _).filter _, fun a queued b sleeping e => ?_⟩
    have absent := (List.mem_filter.mp sleeping).2
    simp only [Bool.not_eq_true', List.contains_eq_mem, decide_eq_false_iff_not] at absent
    exact absent (e ▸ queued)
  · intro h mem
    rcases List.mem_append.mp mem with queued | sleeping
    · exact Q.asleep h queued
    · exact beq_iff_eq.mp (List.mem_filter.mp (List.mem_of_mem_filter sleeping)).2

/-- The return to mains ends the allowance and leaves the sleeping homes of quiet groups in the wake queue (R179). -/
theorem State.serveOnMains_leads {s : State} (Q : s.supply.QueueSleeps) : s.serveOnMains.supply.QueueSleeps :=
  have ⟨distinct, asleep⟩ := State.served_sleeps Q
  ⟨distinct.filter _, fun h mem => asleep h (List.mem_of_mem_filter mem)⟩

theorem execMainsOkRise_supplied (s : State) : OutcomeSupplied s (execMainsOkRise s) := by
  refine .settled ?_
  split
  · exact .of_eq rfl
  · refine ⟨fun Q => ?_, fun _ => iff_of_false Bool.false_ne_true (by simp [State.supply]), id, id⟩
    refine State.serveOnMains_leads ((State.recall_supplied _).queue ?_)
    exact ⟨Q.distinct, Q.asleep⟩

theorem execWakeTimeLimit_supplied (h : HomeId) (s : State) : OutcomeSupplied s (execWakeTimeLimit h s) := by
  refine .unseen ?_
  split <;> rfl

/-! ## Orders -/

/-- An order carried out keeps the invariants of the supply if its own effect does (R182). -/
theorem State.execute_supplied {code args : Nat} {homeArg : Bool} {f : Order → State → State} (s : State)
    (effect : ∀ o t, SupplyKept t (f o t)) :
    OutcomeSupplied s (.next (State.settle s (s.execute code args homeArg f))) := by
  refine .settled ?_
  unfold State.execute
  dsimp only
  split
  · split
    · exact .of_eq (State.reply_supply _ _ s.fresh)
    · exact effect _ s.fresh
  · exact .of_eq rfl

theorem SupplyKept.replied {s t : State} (h : SupplyKept s t) (r : Result) (d : ReplyData) : SupplyKept s (t.reply r d) :=
  h.trans (.of_eq (State.reply_supply r d t))

/-- An order that only replies, after what the view does not show. -/
theorem State.reply_supplied {s t : State} (r : Result) (d : ReplyData) (h : t.supply = s.supply) :
    SupplyKept s (t.reply r d) :=
  (SupplyKept.of_eq h).replied r d

theorem execOrderStart_supplied (s : State) : OutcomeSupplied s (execOrderStart s) := by
  refine .unseen ?_
  split
  · split <;> rfl
  · rfl

theorem execLineStatus_supplied (s : State) : OutcomeSupplied s (execLineStatus s) := by
  refine State.execute_supplied s fun o t => ?_
  split <;> exact State.reply_supplied _ _ rfl

theorem execReadCounters_supplied (s : State) : OutcomeSupplied s (execReadCounters s) := by
  refine State.execute_supplied s fun o t => ?_
  split
  · exact State.reply_supplied _ _ rfl
  · have replied (d : ReplyData) : SupplyKept t (t.reply .done d) := State.reply_supplied .done d rfl
    dsimp only
    split
    · exact (replied _).trans (.of_eq (State.updHome_supply _ fun _ => ⟨rfl, rfl⟩))
    · exact replied _

/-- SET_TIER stages a tier from 1 to 15 (R127). -/
theorem execSetTier_supplied (s : State) : OutcomeSupplied s (execSetTier s) := by
  refine State.execute_supplied s fun o t => SupplyKept.replied (t.updUps_supplied fun m tier fits => ?_) _ _
  refine { fits with next := fun n e => ?_ }
  rw [← Option.some.inj e]
  exact clamp_mem (by decide) (o.arg 1)

theorem execLineAdmin_supplied (s : State) : OutcomeSupplied s (execLineAdmin s) := by
  refine State.execute_supplied s fun o t => ?_
  dsimp only
  split
  · exact State.reply_supplied _ _ rfl
  · split
    · exact State.reply_supplied _ _ rfl
    · refine SupplyKept.replied ?_ _ _
      split
      · exact t.disableHome_supplied _
      · exact t.enableHome_supplied _

theorem execTestLine_supplied (s : State) : OutcomeSupplied s (execTestLine s) := by
  refine State.execute_supplied s fun o t => ?_
  dsimp only
  split
  · exact State.reply_supplied _ _ rfl
  · split
    · exact State.reply_supplied _ _ rfl
    · split <;> exact State.reply_supplied _ _ rfl

@[simp] theorem State.cancelEntry_supply (e : TestEntry) (s : State) : (s.cancelEntry e).supply = s.supply := by
  have removed (t : State) : (t.removedRecord e).supply = t.supply := by
    unfold State.removedRecord
    split
    · exact State.writeCancelled_supply ..
    · rfl
  unfold State.cancelEntry
  dsimp only
  rw [removed]
  split
  · exact s.withdrawClaim_supply none
  · rfl

@[simp] theorem State.cancelCurrent_supply (h : HomeId) (s : State) : (s.cancelCurrent h).supply = s.supply := by
  unfold State.cancelCurrent
  split
  · split
    · exact s.endTest_supply _
    · split <;> rfl
  · rfl

theorem execCancelTest_supplied (s : State) : OutcomeSupplied s (execCancelTest s) := by
  refine State.execute_supplied s fun o t => State.reply_supplied _ _ ?_
  rw [State.cancelCurrent_supply]
  split
  · exact t.cancelEntry_supply _
  · rfl

theorem execReadResults_supplied (s : State) : OutcomeSupplied s (execReadResults s) :=
  State.execute_supplied s fun _ _ => State.reply_supplied _ _ (by rfl)

/-- A staged step carries a weight from 1 to 15 (R124). -/
theorem UpsHome.stage_fits {o : Order} {m u : UpsHome} {tier : Nat} (staged : m.stage (thresholdOf o) = some u)
    (fits : m.weights.Fits tier) : u.weights.Fits tier := by
  have weight : 1 ≤ (thresholdOf o).weight := (clamp_mem (by decide) (o.arg 4)).1
  unfold UpsHome.stage at staged
  split at staged
  · cases staged
    refine { fits with active := fun t e => ?_ }
    rw [← Option.some.inj e]
    exact weight
  · split at staged
    · cases staged
      refine { fits with staged := fun t mem => ?_ }
      rcases List.mem_append.mp mem with old | new
      · exact fits.staged t old
      · rw [List.mem_singleton.mp new]
        exact weight
    · cases staged

theorem execStageVolumeStep_supplied (s : State) : OutcomeSupplied s (execStageVolumeStep s) := by
  refine State.execute_supplied s fun o t => ?_
  dsimp only
  split
  · exact State.reply_supplied _ _ rfl
  · rename_i m staged
    have compared : SupplyKept t (t.stageStep (octal (o.arg 0)) m) :=
      .compared (h := octal (o.arg 0)) (m := m) rfl fun tier fits => UpsHome.stage_fits staged fits
    exact compared.replied _ _

theorem execClearVolumeSteps_supplied (s : State) : OutcomeSupplied s (execClearVolumeSteps s) := by
  refine State.execute_supplied s fun o t => SupplyKept.replied (t.updUps_supplied fun m tier fits => ?_) _ _
  exact { fits with staged := fun _ mem => absurd mem List.not_mem_nil }

/-- A new accounting period sets every effective weight to the tier (R126). -/
theorem execNewAccountingPeriod_supplied (s : State) : OutcomeSupplied s (execNewAccountingPeriod s) := by
  refine State.execute_supplied s fun _ t => SupplyKept.replied ?_ _ _
  refine ⟨fun Q => ⟨Q.distinct, Q.asleep⟩, id, fun W h => ?_, id⟩
  have fits := W h
  have renewed : Ups.weights { t.ups with homes := Tab.make fun h =>
      { t.ups.homes.at h with volume := 0, eff := (t.home h).tier, stepFloor := none } } h =
      { t.ups.weights h with eff := (t.home h).tier, stepFloor := none } := by
    simp [Ups.weights, UpsHome.weights]
  change (Ups.weights _ h).Fits (t.home h).tier
  rw [renewed]
  exact { fits with
    positive := fits.positive.trans fits.within
    within := Nat.le_refl _
    floor := fun _ e => nomatch e }

theorem execWriteFilter_supplied (s : State) : OutcomeSupplied s (execWriteFilter s) := by
  refine State.execute_supplied s fun o t => ?_
  dsimp only
  split
  · exact State.reply_supplied _ _ rfl
  · split
    · exact State.reply_supplied _ _ rfl
    · split <;> exact State.reply_supplied _ _ rfl

theorem execFilterEnable_supplied (s : State) : OutcomeSupplied s (execFilterEnable s) := by
  refine State.execute_supplied s fun o t => ?_
  dsimp only
  split <;> exact State.reply_supplied _ _ rfl

theorem execReadPeers_supplied (s : State) : OutcomeSupplied s (execReadPeers s) :=
  State.execute_supplied s fun _ _ => State.reply_supplied _ _ rfl

theorem execBusSelfCheck_supplied (s : State) : OutcomeSupplied s (execBusSelfCheck s) := by
  refine State.execute_supplied s fun o t => ?_
  split <;> exact .of_eq rfl

theorem execRestart_supplied (s : State) : OutcomeSupplied s (execRestart s) :=
  State.execute_supplied s fun _ t => .of_eq (State.reply_supply .done .restarting t)

theorem execUnknownOrder_supplied (s : State) : OutcomeSupplied s (execUnknownOrder s) :=
  State.execute_supplied s fun _ _ => State.reply_supplied _ _ rfl

theorem execRestartLimitExpiry_supplied (s : State) : OutcomeSupplied s (execRestartLimitExpiry s) := by
  refine .settled ?_
  split
  · exact State.softRestart_supplied _ s
  · exact .of_eq rfl

/-! ## Test steps -/

theorem execRelaySettleEnd_supplied (s : State) : OutcomeSupplied s (execRelaySettleEnd s) := by
  refine .unseen ?_
  split
  · split
    · rfl
    · exact State.measure_supply s.fresh
  · rfl

theorem execQuietSettleEnd_supplied (s : State) : OutcomeSupplied s (execQuietSettleEnd s) := by
  refine .unseen ?_
  split
  · exact State.measure_supply s.fresh
  · rfl

theorem execStepSettleEnd_supplied (s : State) : OutcomeSupplied s (execStepSettleEnd s) := by
  unfold execStepSettleEnd OutcomeSupplied
  dsimp only
  split <;> exact .of_eq rfl

theorem execHeadReadResponse_supplied (v i ac : Word) (ready : Bool) (s : State) :
    OutcomeSupplied s (execHeadReadResponse v i ac ready s) := by
  refine .unseen ?_
  split
  · split
    · exact State.takeReading_supply _ _ v i ac s.fresh
    · rfl
  · rfl

theorem execHeadReadTimeout_supplied (s : State) : OutcomeSupplied s (execHeadReadTimeout s) := by
  refine .unseen ?_
  split
  · exact State.endTest_supply _ s.fresh
  · rfl

theorem execCrossRise_supplied (s : State) : OutcomeSupplied s (execCrossRise s) := by
  unfold execCrossRise OutcomeSupplied
  dsimp only
  split <;> exact .of_eq rfl

theorem execCrossFall_supplied (s : State) : OutcomeSupplied s (execCrossFall s) := by
  refine .unseen ?_
  split
  · exact State.completeStep_supply _ _ _
  · rfl

theorem execCapTimeout_supplied (s : State) : OutcomeSupplied s (execCapTimeout s) := by
  refine .unseen ?_
  split
  · exact State.completeStep_supply _ _ _
  · exact State.completeStep_supply _ _ _
  · rfl

theorem execReleaseSettleEnd_supplied (s : State) : OutcomeSupplied s (execReleaseSettleEnd s) := by
  have released (p : Prop) [Decidable p] (h : HomeId) :
      SupplyKept s (if p then s.fresh else s.fresh.releaseHome h) := by
    split
    · exact .of_eq rfl
    · exact State.releaseHome_supplied h s.fresh
  refine .settled ?_
  split
  · rename_i c _ _
    have freed := (released (c.outcome = some .abortedAdmin) c.home).trans (State.releaseBus_supplied _)
    exact freed.trans (.of_eq (State.fileTest_supply c _))
  · exact .of_eq rfl

/-! ## Every command, every step -/

theorem exec_supplied (c : Instr) (s : State) : OutcomeSupplied s (exec c s) := by
  cases c with
  | powerOn pins => exact startUp_supplied s _ _ _
  | linkStateReport h st => exact execLinkStateReport_supplied h st s
  | rateReport h up down => exact execRateReport_supplied h up down s
  | activity h => exact .settled (State.wakeCause_supplied h s.fresh)
  | wakeFailure h => exact execWakeFailure_supplied h s
  | upstreamFrame h bytes => exact execUpstreamFrame_supplied h bytes s
  | downstreamGiveStart h ready => exact execDownstreamGiveStart_supplied h ready s
  | downstreamFrameTaken h => exact execDownstreamFrameTaken_supplied h s
  | modeRequestFull h => exact execModeRequestFull_supplied h s
  | modeRequestLow h => exact execModeRequestLow_supplied h s
  | modeRequestSleep h => exact execModeRequestSleep_supplied h s
  | modeRequestWake h => exact execModeRequestWake_supplied h s
  | wakeWithdrawRequest h => exact execWakeWithdrawRequest_supplied h s
  | wakeAbandonRequest h => exact execWakeAbandonRequest_supplied h s
  | surge h => exact execSurge_supplied h s
  | stormHoldExpiry => exact execStormHoldExpiry_supplied s
  | stormRise => exact execStormRise_supplied s
  | stormFall => exact execStormFall_supplied s
  | excuseWindowExpiry => exact .of_eq rfl
  | cbBsyRise => exact execCbBsyRise_supplied s
  | contendStart => exact execContendStart_supplied s
  | contendMidpoint d8 => exact execContendMidpoint_supplied d8 s
  | contendWindowEnd ids => exact execContendWindowEnd_supplied ids s
  | callWord w parity => exact execCallWord_supplied w parity s
  | answerWord w parity => exact execAnswerWord_supplied w parity s
  | answerWindowExpiry => exact execAnswerWindowExpiry_supplied s
  | transferWordSent => exact execTransferWordSent_supplied s
  | transferWordReceived w parity => exact execTransferWordReceived_supplied w parity s
  | badCloseTimeout => exact execBadCloseTimeout_supplied s
  | closeWord w parity => exact execCloseWord_supplied w parity s
  | closeWindowExpiry => exact execCloseWindowExpiry_supplied s
  | cbBsyFall => exact execCbBsyFall_supplied s
  | noticeHeard caller n => exact execNoticeHeard_supplied caller n s
  | claimHeard caller h g => exact execClaimHeard_supplied caller h g s
  | quietHeard g ms => exact execQuietHeard_supplied g ms s
  | claimWithdrawalSettled => exact execClaimWithdrawalSettled_supplied s
  | quietGap => exact execQuietGap_supplied s
  | busWatchdogExpiry => exact execBusWatchdogExpiry_supplied s
  | busReset => exact execBusReset_supplied s
  | selfCheckStart => exact execSelfCheckStart_supplied s
  | selfCheckEnd readBack => exact execSelfCheckEnd_supplied readBack s
  | roundBoundary => exact execRoundBoundary_supplied s
  | creditIntervalEnd => exact .unseen rfl
  | move => exact execMove_supplied s
  | uplinkStateChange up => exact execUplinkStateChange_supplied up s
  | transmitterStart => exact execTransmitterStart_supplied s
  | uplinkFrameTaken => exact execUplinkFrameTaken_supplied s
  | uplinkFrameReceived bytes err => exact execUplinkFrameReceived_supplied bytes err s
  | addressAgeTick => exact execAddressAgeTick_supplied s
  | managementOrderHandoff => exact execManagementOrderHandoff_supplied s
  | ownReportPass => exact execOwnReportPass_supplied s
  | orderStart => exact execOrderStart_supplied s
  | lineStatus => exact execLineStatus_supplied s
  | readCounters => exact execReadCounters_supplied s
  | setTier => exact execSetTier_supplied s
  | lineAdmin => exact execLineAdmin_supplied s
  | testLine => exact execTestLine_supplied s
  | cancelTest => exact execCancelTest_supplied s
  | readResults => exact execReadResults_supplied s
  | stageVolumeStep => exact execStageVolumeStep_supplied s
  | clearVolumeSteps => exact execClearVolumeSteps_supplied s
  | newAccountingPeriod => exact execNewAccountingPeriod_supplied s
  | writeFilter => exact execWriteFilter_supplied s
  | filterEnable => exact execFilterEnable_supplied s
  | readPeers => exact execReadPeers_supplied s
  | busSelfCheck => exact execBusSelfCheck_supplied s
  | restart => exact execRestart_supplied s
  | unknownOrder => exact execUnknownOrder_supplied s
  | restartLimitExpiry => exact execRestartLimitExpiry_supplied s
  | relaySettleEnd => exact execRelaySettleEnd_supplied s
  | quietSettleEnd => exact execQuietSettleEnd_supplied s
  | quietEndExpiry g => exact .settled (State.endQuiet_supplied s.fresh g)
  | stepSettleEnd => exact execStepSettleEnd_supplied s
  | headReadResponse v i ac ready => exact execHeadReadResponse_supplied v i ac ready s
  | headReadTimeout => exact execHeadReadTimeout_supplied s
  | crossRise => exact execCrossRise_supplied s
  | crossFall => exact execCrossFall_supplied s
  | capTimeout => exact execCapTimeout_supplied s
  | holdTimeLimit => exact .unseen (State.endTest_supply _ s.fresh)
  | releaseSettleEnd => exact execReleaseSettleEnd_supplied s
  | tbusyRise => exact execTbusyRise_supplied s
  | tbusyFall => exact execTbusyFall_supplied s
  | mainsOkFall => exact execMainsOkFall_supplied s
  | mainsOkRise => exact execMainsOkRise_supplied s
  | battLowRise => exact execBattLowRise_supplied s
  | battLowFall => exact .unseen rfl
  | wakeTimeLimit h => exact execWakeTimeLimit_supplied h s
  | idleTimerExpiry h => exact .unseen rfl

theorem step_supplied {s t : State} (h : step s = .next t) : SupplyKept s t := by
  unfold step at h
  split at h
  · cases h
    exact .of_eq (State.observeBus_supply _)
  · rename_i c rest _
    have kept := exec_supplied c { s with pending := rest }
    rw [h] at kept
    exact kept

/-- Settles O58: every command and the tick lead from a view of the supply whose wake queue sleeps, and whose allowance is
there on battery only, to such a view. -/
theorem wakeQueueAndAllowanceKept : Obligations.WakeQueueAndAllowanceKept :=
  ⟨fun s t sleeps h => (queueSleeps_iff t).mp ((step_supplied h).queue ((queueSleeps_iff s).mpr sleeps)),
    fun s t fits h => (allowanceFits_iff t).mp ((step_supplied h).allowance ((allowanceFits_iff s).mpr fits))⟩

/-- Settles O60: every command and the tick lead from a view of the supply with fitting weights, and with a fitting shaped
rate, to such a view. -/
theorem weightsAndRateBounded : Obligations.WeightsAndRateBounded :=
  ⟨fun s t fits h => (weightsFit_iff t).mp ((step_supplied h).weights ((weightsFit_iff s).mpr fits)),
    fun s t fits h => (rateFits_iff t).mp ((step_supplied h).rate ((rateFits_iff s).mpr fits))⟩

end Sys2Proof.Machine
end

section
/-! SUPPORT. The fitting: the order of its candidates, the test reserve, its grants, its requests, and the line costs. -/

namespace Sys2Proof.Machine

/-! ## The order of the candidates (R172) -/

/-- The order of the candidates: higher weight first, equal weights by index. -/
def WeightOrder (w : HomeId → Nat) (h k : HomeId) : Prop := w k < w h ∨ (w h = w k ∧ h < k)

theorem perm_insertByWeight (w : HomeId → Nat) (h : HomeId) (l : List HomeId) : (insertByWeight w h l).Perm (h :: l) := by
  induction l with
  | nil => exact .refl _
  | cons x l ih =>
    unfold insertByWeight
    split
    · exact .refl _
    · exact (ih.cons x).trans (.swap h x l)

/-- A home inserted among homes of lower index keeps the order. -/
theorem pairwise_insertByWeight {w : HomeId → Nat} {h : HomeId} {l : List HomeId} (ordered : l.Pairwise (WeightOrder w))
    (lower : ∀ x ∈ l, x < h) : (insertByWeight w h l).Pairwise (WeightOrder w) := by
  induction l with
  | nil => exact List.pairwise_singleton _ h
  | cons x l ih =>
    obtain ⟨head, tail⟩ := List.pairwise_cons.mp ordered
    unfold insertByWeight
    split
    · rename_i heavier
      refine List.pairwise_cons.mpr ⟨fun y mem => .inl ?_, ordered⟩
      rcases List.mem_cons.mp mem with rfl | later
      · exact heavier
      · rcases head y later with less | ⟨equal, -⟩
        · exact less.trans heavier
        · exact equal ▸ heavier
    · rename_i lighter
      refine List.pairwise_cons.mpr ⟨fun y mem => ?_, ih tail fun y mem => lower y (List.mem_cons_of_mem x mem)⟩
      rcases List.mem_cons.mp ((perm_insertByWeight w h l).mem_iff.mp mem) with rfl | later
      · rcases (Nat.le_of_not_lt lighter).lt_or_eq with less | equal
        · exact .inl less
        · exact .inr ⟨equal.symm, lower x List.mem_cons_self⟩
      · exact head y later

theorem mem_byWeight (w : HomeId → Nat) (hs : List HomeId) (h : HomeId) : h ∈ byWeight w hs ↔ h ∈ hs := by
  have inserted (acc : List HomeId) :
      h ∈ hs.foldl (fun acc h => insertByWeight w h acc) acc ↔ h ∈ hs ∨ h ∈ acc := by
    induction hs generalizing acc with
    | nil => simp
    | cons x hs ih => rw [List.foldl_cons, ih, (perm_insertByWeight w x acc).mem_iff]; simp [or_left_comm, or_assoc]
  exact (inserted []).trans (by simp)

/-- Homes taken in index order come out in the order of their weights. -/
theorem pairwise_byWeight (w : HomeId → Nat) {hs : List HomeId} (indexed : hs.Pairwise (· < ·)) :
    (byWeight w hs).Pairwise (WeightOrder w) := by
  have inserted (acc : List HomeId) (ordered : acc.Pairwise (WeightOrder w)) (lower : ∀ x ∈ acc, ∀ h ∈ hs, x < h) :
      (hs.foldl (fun acc h => insertByWeight w h acc) acc).Pairwise (WeightOrder w) := by
    induction hs generalizing acc with
    | nil => exact ordered
    | cons h hs ih =>
      obtain ⟨first, rest⟩ := List.pairwise_cons.mp indexed
      refine ih rest _ (pairwise_insertByWeight ordered fun x mem => lower x mem h List.mem_cons_self) fun x mem k later => ?_
      rcases List.mem_cons.mp ((perm_insertByWeight w h acc).mem_iff.mp mem) with rfl | old
      · exact first k later
      · exact lower x old k (List.mem_cons_of_mem h later)
  exact inserted [] .nil fun _ mem => absurd mem List.not_mem_nil

theorem State.mem_candidates (s : State) (h : HomeId) :
    h ∈ s.candidates ↔ (s.service h = .upFull ∨ s.service h = .upLow ∨ s.service h = .quiet) ∧
      if s.power = .batteryLow then (s.home h).prio = true else s.idleSeconds h < 30 := by
  rw [State.candidates, mem_byWeight, List.mem_filter, Bool.and_eq_true, inService_iff]
  simp only [mem_homeIds, true_and]
  split
  · rfl
  · rw [decide_eq_true_iff]

theorem State.candidates_ordered (s : State) : s.candidates.Pairwise (WeightOrder s.eff) :=
  pairwise_byWeight s.eff (List.Pairwise.filter _ (by decide : homeIds.Pairwise (· < ·)))

/-! ## What a fitting reads (R107, R171, R172) -/

theorem Service.paid_iff (st : Service) : st.paid = true ↔
    st = .upFull ∨ st = .upLow ∨ st = .sleep ∨ st = .waking ∨ st = .quiet ∨ st = .training := by
  cases st <;> simp [Service.paid]

theorem State.homesIn_eq (s : State) (st : Service) : s.homesIn st = homeIds.filter fun h => decide (s.service h = st) := rfl

theorem not_quietRunning (s : State) (g : Group) : (!s.quietRunning g) = decide (s.ten.quietEnds.at g = none) := by
  unfold State.quietRunning
  cases s.ten.quietEnds.at g <;> rfl

theorem not_contains {α : Type} [BEq α] [LawfulBEq α] [DecidableEq α] (l : List α) (x : α) :
    (!l.contains x) = decide (x ∉ l) := by
  rw [List.contains_eq_mem, decide_not]

/-- The table of R150 lets a test go on, to wait for TBUSY or to claim. -/
theorem State.examTableFree_goes_iff (s : State) (e : TestEntry) :
    (s.examTableFree e = .waiting ∨ s.examTableFree e = .claiming) ↔
      s.storm = false ∧ s.pvw.stuck = false ∧ s.power ≠ .batteryLow ∧ s.service e.home ≠ .adminDown := by
  unfold State.examTableFree
  cases s.storm with
  | true => simp
  | false =>
    cases s.pvw.stuck with
    | true => simp
    | false =>
      by_cases low : s.power = .batteryLow
      · simp [low]
      · by_cases admin : s.service e.home = .adminDown
        · simp [low, admin]
        · cases s.tbusy <;> simp [low, admin]

/-- The test reserve is wanted for a test that runs or may begin (R171). -/
theorem State.reserveWanted_iff {s : State} (charged : s.power ≠ .batteryLow) :
    s.reserveWanted = true ↔ s.ten.state = .connecting ∨ s.ten.state = .measuring ∨
      ∃ e, s.ten.queue.head? = some e ∧ s.storm = false ∧ s.pvw.stuck = false ∧ s.service e.home ≠ .adminDown := by
  unfold State.reserveWanted
  rw [Bool.or_eq_true, State.testHolding_iff, or_assoc]
  refine or_congr_right (or_congr_right ?_)
  cases s.ten.queue with
  | nil => simp
  | cons e rest =>
    simp only [Bool.or_eq_true, beq_iff_eq, s.examTableFree_goes_iff e, List.head?_cons, Option.some.injEq,
      exists_eq_left', charged, not_false_eq_true, ne_eq, true_and]

/-! ## The grants (R172, R174) -/

theorem grantHome_nil (g : Tab 8 (Option Mode) × Nat) (h : HomeId) : grantHome [] g h = (g.1.put h (some .sleep), g.2) := rfl

theorem grantHome_cons (m : Mode) (c : Nat) (offers : List Offer) (g : Tab 8 (Option Mode) × Nat) (h : HomeId) :
    grantHome ((m, c) :: offers) g h = if c ≤ g.2 then (g.1.put h (some m), g.2 - c) else grantHome offers g h := by
  unfold grantHome
  rw [grantFirst]
  split <;> rfl

/-! ## The requests of a fitting (R173) -/

theorem loweringRequest_full (st : Service) (ret : Option Mode) : loweringRequest st ret (some .full) = none := by
  cases st <;> rfl

theorem loweringRequest_low (st : Service) (ret : Option Mode) : loweringRequest st ret (some .low) =
    if st = .upFull ∨ (st = .quiet ∧ ret ≠ some .low ∧ ret ≠ some .sleep) then some .low else none := by
  cases st
  case quiet => simp [loweringRequest, ← not_or]
  all_goals rfl

theorem loweringRequest_sleep (st : Service) (ret : Option Mode) : loweringRequest st ret (some .sleep) =
    if st = .waking then some .withdraw
    else if st = .training ∨ st = .upFull ∨ st = .upLow ∨ (st = .quiet ∧ ret ≠ some .sleep) then some .sleep
    else none := by
  cases st
  case quiet => simp [loweringRequest]
  all_goals rfl

theorem loweringRequest_eq_some_iff (st : Service) (ret grant : Option Mode) (r : ModeRequest) :
    loweringRequest st ret grant = some r ↔
      (r = .low ∧ grant = some .low ∧ (st = .upFull ∨ (st = .quiet ∧ ret ≠ some .low ∧ ret ≠ some .sleep))) ∨
      (r = .sleep ∧ grant = some .sleep ∧
        (st = .training ∨ st = .upFull ∨ st = .upLow ∨ (st = .quiet ∧ ret ≠ some .sleep))) ∨
      (r = .withdraw ∧ grant = some .sleep ∧ st = .waking) := by
  match grant with
  | none => simp [loweringRequest_none]
  | some .full => simp [loweringRequest_full]
  | some .low => simp [loweringRequest_low, eq_comm, and_comm]
  | some .sleep =>
    rw [loweringRequest_sleep]
    by_cases waking : st = .waking
    · simp [waking, eq_comm]
    · simp [waking, eq_comm, and_comm]

theorem raisingRequest_full (st : Service) (ret : Option Mode) : raisingRequest st ret (some .full) =
    if st = .upLow ∨ (st = .quiet ∧ ret ≠ some .full) then some .full else none := by
  cases st
  case quiet => simp [raisingRequest]
  all_goals rfl

theorem raisingRequest_low (st : Service) (ret : Option Mode) : raisingRequest st ret (some .low) =
    if st = .quiet ∧ ret = some .sleep then some .low else none := by
  cases st
  case quiet => simp [raisingRequest]
  all_goals rfl

theorem raisingRequest_sleep (st : Service) (ret : Option Mode) : raisingRequest st ret (some .sleep) = none := by
  cases st <;> rfl

theorem raisingRequest_eq_some_iff (st : Service) (ret grant : Option Mode) (r : ModeRequest) :
    raisingRequest st ret grant = some r ↔
      (r = .full ∧ grant = some .full ∧ (st = .upLow ∨ (st = .quiet ∧ ret ≠ some .full))) ∨
      (r = .low ∧ grant = some .low ∧ st = .quiet ∧ ret = some .sleep) := by
  match grant with
  | none => simp [raisingRequest_none]
  | some .full => simp [raisingRequest_full, eq_comm, and_comm]
  | some .low => simp [raisingRequest_low, eq_comm, and_comm]
  | some .sleep => simp [raisingRequest_sleep]

theorem State.grantOrder_eq (s : State) :
    s.grantOrder = (s.homesIn .training ++ s.homesIn .waking ++ s.candidates) ++
      homeIds.filter fun h => decide (h ∉ s.homesIn .training ++ s.homesIn .waking ++ s.candidates) := by
  unfold State.grantOrder
  simp only [not_contains]

/-- The homes that a fitting wakes (R172, R173). -/
theorem State.woken_eq (x : Fitting) (s : State) : (s.wakeable.filter fun h => x.outcome.at h == some .full) =
    s.bhu.wakeQ.filter fun h => decide (s.ten.quietEnds.at (s.home h).group = none ∧ x.outcome.at h = some .full) := by
  unfold State.wakeable
  rw [List.filter_filter]
  refine List.filter_congr fun h _ => ?_
  rw [not_quietRunning, Bool.decide_and, Bool.and_comm, beq_eq_decide]

/-! ## Costs (R170) -/

theorem homeCost_eq (c : Cfg) (st : Service) (ret : Option Mode) : c.homeCost st ret =
    if st = .upFull ∨ st = .waking ∨ st = .training then c.pFull
    else if st = .upLow then c.pLow
    else if st = .sleep then c.pSleep
    else if st = .quiet then c.modeCost (ret.getD .full)
    else 0 := by
  cases st <;> rfl

theorem applyRequest_eq (r : ModeRequest) (st : Service) (ret : Option Mode) : applyRequest r (st, ret) =
    if r = .full ∧ st = .upLow then (.upFull, ret)
    else if r = .full ∧ st = .quiet then (.quiet, some .full)
    else if r = .low ∧ st = .upFull then (.upLow, ret)
    else if r = .low ∧ st = .quiet then (.quiet, some .low)
    else if r = .sleep ∧ (st = .upFull ∨ st = .upLow ∨ st = .training) then (.sleep, none)
    else if r = .sleep ∧ st = .quiet then (.quiet, some .sleep)
    else if r = .wake ∧ st = .sleep then (.waking, ret)
    else if r = .withdraw ∧ (st = .waking ∨ st = .upFull) then (.sleep, none)
    else (st, ret) := by
  cases r with
  | full | low | sleep | wake | withdraw | abandon => cases st <;> rfl

end Sys2Proof.Machine
end

section
/-! SUPPORT. What the commands of the power lines answer; the statement on the power lines and the fitting. -/

namespace Sys2Proof.Machine

/-! ## The power lines (R106, R164, R169, R179) -/

/-- The station with MAINS_OK fallen (R169). -/
def State.mainsFallen (s : State) : State := { s.fresh with pins := { s.pins with mainsOk := false } }

/-- The station with BATT_LOW risen (R169). -/
def State.batteryRunLow (s : State) : State := { s.fresh with pins := { s.pins with battLow := true } }

/-- Off mains, BATT_LOW decides whether the station enters BATTERY_LOW and suspends a test (R164, R169). -/
theorem State.enterLow_eq {s : State} (battery : s.pins.mainsOk = false) :
    s.enterLow = if s.pins.battLow = true then s.suspend .power else s := by
  unfold State.enterLow State.power
  rw [if_neg (Bool.eq_false_iff.mp battery)]
  cases s.pins.battLow <;> rfl

theorem execMainsOkFall_eq (s : State) :
    execMainsOkFall s = .next (State.settle s (
      if s.pins.mainsOk = false then s.fresh
      else if s.pins.battLow = true then (s.mainsFallen.suspend .power).powerRound
      else s.mainsFallen.powerRound)) := by
  have answers : execMainsOkFall s =
      .next (State.settle s (if s.pins.mainsOk = true then s.mainsFallen.enterLow.powerRound else s.fresh)) := rfl
  have entered : s.mainsFallen.enterLow =
      if s.pins.battLow = true then s.mainsFallen.suspend .power else s.mainsFallen := State.enterLow_eq rfl
  rw [answers, entered]
  cases s.pins.mainsOk with
  | false => rfl
  | true => cases s.pins.battLow <;> rfl

theorem execBattLowRise_eq (s : State) :
    execBattLowRise s = .next (State.settle s (
      if s.pins.battLow = true ∨ s.pins.mainsOk = true then s.batteryRunLow
      else (s.batteryRunLow.suspend .power).powerRound)) := by
  have answers : execBattLowRise s =
      .next (State.settle s (if s.pins.battLow = true ∨ s.pins.mainsOk = true then s.batteryRunLow
        else s.batteryRunLow.enterLow.powerRound)) := rfl
  rw [answers]
  split
  · rfl
  · rename_i battery
    have entered : s.batteryRunLow.enterLow = s.batteryRunLow.suspend .power :=
      State.enterLow_eq (Bool.eq_false_iff.mpr (not_or.mp battery).2)
    rw [entered]

/-- The homes that the return to mains finds asleep: those queued, with the recalled ones first, then the others (R179). -/
def State.sleepers (s : State) : List HomeId :=
  s.recall.bhu.wakeQ ++ homeIds.filter fun k => decide (s.service k = .sleep ∧ k ∉ s.recall.bhu.wakeQ)

theorem State.sleepers_eq (s : State) :
    s.recall.bhu.wakeQ ++ (s.recall.homesIn .sleep).filter (fun h => !s.recall.bhu.wakeQ.contains h) = s.sleepers := by
  unfold State.sleepers State.homesIn
  rw [List.filter_filter]
  congr 1
  refine List.filter_congr fun h _ => ?_
  rw [not_contains, Bool.decide_and, Bool.and_comm, beq_eq_decide]
  rfl

/-- What leaves the wake queue is what is woken. -/
theorem filter_not_mem_filter (l : List HomeId) (p : HomeId → Bool) :
    (l.filter fun h => !(l.filter fun k => !p k).contains h) = l.filter p := by
  refine List.filter_congr fun h mem => ?_
  rw [not_contains]
  cases wakes : p h <;> simp [mem, wakes]

theorem State.mainsRaises_eq (s : State) : s.mainsRaises =
    (homeIds.filter fun k => decide (s.service k = .upLow ∨ s.service k = .quiet)).map fun k => (.full, k) := by
  unfold State.mainsRaises
  congr 1
  refine List.filter_congr fun h _ => ?_
  rw [Bool.decide_or]
  rfl

/-- The return to mains ends the allowance, recalls the requests, raises the homes in UP_LOW and QUIET, and wakes the
sleeping homes of the groups without a quiet (R179). -/
theorem State.returnToMains_eq (s : State) :
    s.returnToMains = { s with
      shc := { s.shc with a := none }
      bhu := { s.bhu with
        reserve := false
        wakeQ := s.sleepers.filter fun k => s.quietRunning (s.home k).group
        requests := (s.bhu.requests.filter fun x => x.1 == .abandon) ++
          ((homeIds.filter fun k => decide (s.service k = .upLow ∨ s.service k = .quiet)).map fun k => (.full, k)) ++
          (s.sleepers.filter fun k => !s.quietRunning (s.home k).group).map fun k => (.wake, k) } } := by
  unfold State.returnToMains State.serveOnMains
  simp only [State.sleepers_eq, State.mainsRaises_eq, filter_not_mem_filter]
  rfl

/-- The station with MAINS_OK risen (R169). -/
def State.mainsRisen (s : State) : State := { s.fresh with pins := { s.pins with mainsOk := true } }

theorem execMainsOkRise_eq (s : State) :
    execMainsOkRise s = .next (State.settle s (
      if s.pins.mainsOk = true then s.fresh
      else { s.mainsRisen with
        shc := { s.shc with a := none }
        bhu := { s.bhu with
          reserve := false
          wakeQ := s.fresh.sleepers.filter fun k => s.quietRunning (s.home k).group
          requests := (s.bhu.requests.filter fun x => x.1 == .abandon) ++
            ((homeIds.filter fun k => decide (s.service k = .upLow ∨ s.service k = .quiet)).map fun k => (.full, k)) ++
            (s.fresh.sleepers.filter fun k => !s.quietRunning (s.home k).group).map fun k => (.wake, k) } })) := by
  have answers : execMainsOkRise s =
      .next (State.settle s (if s.pins.mainsOk = true then s.fresh else s.mainsRisen.returnToMains)) := rfl
  rw [answers, State.returnToMains_eq]
  rfl

/-- A wake over its time is abandoned (R177). -/
theorem execWakeTimeLimit_eq (h : HomeId) (s : State) :
    execWakeTimeLimit h s = .next (State.settle s (
      if s.bhu.wakeSince.at h = none then s.fresh
      else { s.fresh with bhu := { s.bhu with
        requests := s.bhu.requests ++ [(.abandon, h)], wakeSince := s.bhu.wakeSince.put h none } })) := by
  unfold execWakeTimeLimit
  dsimp only
  rw [State.fresh_bhu]
  cases s.bhu.wakeSince.at h <;> rfl

/-! ## The fitting (R107, R164, R171 to R174) -/

theorem State.powerRound_eq (s : State) :
    s.powerRound =
      let fitted := s.powerCalc.fit (s.powerCalc.shc.a.getD 0)
      if fitted.power = .battery ∧ fitted.shc.a.getD 0 < fitted.floor + fitted.cfg.pTest then fitted.suspend .power
      else fitted := rfl

theorem State.unwoken_eq (s : State) : s.unwoken =
    ((s.bhu.requests.filterMap fun x => if x.1 = .wake then some x.2 else none).eraseDups).filter
      fun h => decide (s.service h = .sleep ∧ h ∉ s.bhu.wakeQ) := by
  unfold State.unwoken
  refine List.filter_congr fun h _ => ?_
  rw [not_contains, Bool.decide_and, beq_eq_decide]

theorem State.recall_eq (s : State) :
    s.recall = { s with bhu := { s.bhu with
      requests := s.bhu.requests.filter fun x => x.1 == .abandon
      wakeQ := ((s.bhu.requests.filterMap fun x => if x.1 = .wake then some x.2 else none).eraseDups).filter
        (fun h => decide (s.service h = .sleep ∧ h ∉ s.bhu.wakeQ)) ++ s.bhu.wakeQ } } := by
  rw [← State.unwoken_eq]
  rfl

theorem State.fit_eq (a : Nat) (s : State) :
    let x := s.recall.fitting a
    let sent := s.recall.fittingRequests x
    s.fit a = { s with bhu := { s.bhu with
      outcome := x.outcome, reserve := x.reserve, remaining := x.remaining, batch := []
      requests := s.recall.bhu.requests ++ sent
      wakeQ := s.recall.bhu.wakeQ.filter fun h => decide ((ModeRequest.wake, h) ∉ sent) } } := by
  dsimp only
  rw [State.fit_spec]
  simp only [not_contains]

/-- The homes that a fitting grants FULL to before the candidates: none in BATTERY_LOW (R172, R174). -/
def State.grantedFirst (s : State) : List HomeId :=
  if s.power = .batteryLow then [] else s.homesIn .training ++ s.homesIn .waking ++ s.wakeable

/-- What the candidates are offered: LOW alone in BATTERY_LOW (R172, R174). -/
def State.candidateOffers (s : State) : List Offer :=
  if s.power = .batteryLow then [(.low, s.cfg.lowOver)] else [(.full, s.cfg.fullOver), (.low, s.cfg.lowOver)]

/-- A fitting holds the test reserve if it is wanted and fits, and none in BATTERY_LOW (R171, R174). -/
def State.reserves (a : Nat) (s : State) : Bool :=
  s.power != .batteryLow && (s.reserveWanted && decide (s.cfg.pTest ≤ a - s.floor))

/-- What a fitting starts from: SLEEP for each home that is paid for (R172). -/
def State.startGrants (s : State) : Tab 8 (Option Mode) := Tab.make fun h => if (s.service h).paid then some .sleep else none

/-- A fitting grants its groups in their order, from the allowance less the floor and less the test reserve (R171, R172,
R174). -/
theorem State.fitting_eq (a : Nat) (s : State) :
    s.fitting a =
      let first := s.grantedFirst.foldl (grantHome [(.full, s.cfg.fullOver)])
        (s.startGrants, if s.reserves a then a - s.floor - s.cfg.pTest else a - s.floor)
      let grants := s.candidates.foldl (grantHome s.candidateOffers) first
      ⟨grants.1, s.reserves a, grants.2⟩ := by
  unfold State.fitting State.grantedFirst State.candidateOffers State.reserves State.startGrants
  by_cases low : s.power = .batteryLow <;> simp [low]

theorem State.reserves_iff (a : Nat) (s : State) : s.reserves a = true ↔ s.power ≠ .batteryLow ∧
    (s.ten.state = .connecting ∨ s.ten.state = .measuring ∨
      ∃ e, s.ten.queue.head? = some e ∧ s.storm = false ∧ s.pvw.stuck = false ∧ s.service e.home ≠ .adminDown) ∧
    s.cfg.pTest ≤ a - s.floor := by
  unfold State.reserves
  rw [Bool.and_eq_true, Bool.and_eq_true, bne_iff_ne, decide_eq_true_iff]
  exact and_congr_right fun charged => by rw [State.reserveWanted_iff charged]

theorem State.grantedFirst_eq (s : State) : s.grantedFirst =
    if s.power = .batteryLow then []
    else (homeIds.filter fun h => decide (s.service h = .training)) ++
      (homeIds.filter fun h => decide (s.service h = .waking)) ++
      s.bhu.wakeQ.filter fun h => decide (s.ten.quietEnds.at (s.home h).group = none) := by
  unfold State.grantedFirst State.wakeable
  simp only [State.homesIn_eq, not_quietRunning]

theorem State.floor_eq (s : State) : s.floor = s.cfg.pSleep * (homeIds.filter fun h => decide (s.service h = .upFull ∨
    s.service h = .upLow ∨ s.service h = .sleep ∨ s.service h = .waking ∨ s.service h = .quiet ∨
    s.service h = .training)).length := by
  unfold State.floor
  simp only [← Service.paid_iff, Bool.decide_eq_true]

theorem State.startGrants_eq (s : State) : s.startGrants = Tab.make fun h => if s.service h = .upFull ∨
    s.service h = .upLow ∨ s.service h = .sleep ∨ s.service h = .waking ∨ s.service h = .quiet ∨
    s.service h = .training then some .sleep else none := by
  unfold State.startGrants
  simp only [Service.paid_iff]

/-- The requests of a fitting, demotions and withdrawals first, then raises, then wakes (R173). -/
theorem State.fittingRequests_eq (x : Fitting) (s : State) :
    let before := s.homesIn .training ++ s.homesIn .waking ++ s.candidates
    let order := before ++ homeIds.filter fun h => decide (h ∉ before)
    let send (g : Service → Option Mode → Option Mode → Option ModeRequest) : List (ModeRequest × HomeId) :=
      order.filterMap fun h => (g (s.service h) (s.home h).ret (x.outcome.at h)).map fun r => (r, h)
    s.fittingRequests x = send loweringRequest ++ send raisingRequest ++
      if s.power = .batteryLow then []
      else (s.bhu.wakeQ.filter fun h =>
        decide (s.ten.quietEnds.at (s.home h).group = none ∧ x.outcome.at h = some .full)).map fun h => (.wake, h) := by
  unfold State.fittingRequests
  simp only [State.grantOrder_eq, State.woken_eq]
  split <;> rfl

/-- Settles O51: each command of the power lines by its equation, then the fitting by those of its parts. -/
theorem powerLinesDriveTheFitting : Obligations.PowerLinesDriveTheFitting := by
  refine ⟨fun h s => ⟨?_, ?_, ?_, ?_, ?_, ?_⟩, State.powerRound_eq, fun a s => ?_, fun a s => ?_,
    fun m c offers g h => ⟨grantHome_nil g h, grantHome_cons m c offers g h⟩,
    fun st ret grant r => ⟨loweringRequest_eq_some_iff st ret grant r, raisingRequest_eq_some_iff st ret grant r⟩,
    fun h s st ret => ⟨?_, ?_, ?_, ?_, fun r => applyRequest_eq r st ret⟩⟩
  · exact execMainsOkFall_eq s
  · exact execBattLowRise_eq s
  · rfl
  · exact execMainsOkRise_eq s
  · exact execWakeTimeLimit_eq h s
  · rfl
  · intro unwoken r x sent
    have recalled : s.recall = r := s.recall_eq
    have fits := s.fit_eq a
    rw [recalled] at fits
    exact ⟨recalled, fits⟩
  · intro homesIn paid floor toFull toLow tested reserve first start one grants
    have first_eq : s.grantedFirst = first := s.grantedFirst_eq
    refine ⟨?_, s.mem_candidates, s.candidates_ordered, fun x => ?_⟩
    · have reserved : decide reserve = s.reserves a := by
        rw [Bool.eq_iff_iff, decide_eq_true_iff, s.reserves_iff, s.floor_eq]
      rw [s.fitting_eq, ← reserved, s.floor_eq, s.startGrants_eq, first_eq]
      simp only [decide_eq_true_iff]
      rfl
    · intro before order send
      rw [s.fittingRequests_eq]
      rfl
  · exact homeCost_eq s.cfg st ret
  · rfl
  · rfl
  · rfl

end Sys2Proof.Machine
end

section
/-! SUPPORT. The scheduler's choice of a frame: the rotation of homes, the expedited rule, the visits of the deficit
round robin, and what a take charges. -/

namespace Sys2Proof

/-! ## The rotation of homes (R116, R117) -/

/-- A home's turn in the rotation that starts after a home: how many homes stand before it there. -/
def turnAfter (p h : HomeId) : Nat := (h.val + 7 - p.val) % 8

theorem turnAfter_lt (p h : HomeId) : turnAfter p h < 8 := Nat.mod_lt _ (by decide)

theorem octal_turnAfter (p h : HomeId) : octal (p.val + 1 + turnAfter p h) = h := by
  have := p.isLt
  have := h.isLt
  apply Fin.ext
  simp only [octal, turnAfter, Fin.val_ofNat]
  omega

theorem turnAfter_octal (p : HomeId) {k : Nat} (small : k < 8) : turnAfter p (octal (p.val + 1 + k)) = k := by
  have := p.isLt
  simp only [octal, turnAfter, Fin.val_ofNat]
  omega

theorem mem_rotationAfter (p h : HomeId) : h ∈ rotationAfter p :=
  List.mem_map.mpr ⟨turnAfter p h, List.mem_range.mpr (turnAfter_lt p h), octal_turnAfter p h⟩

/-- What a rotation finds is the home of the earliest turn. -/
theorem find?_rotationAfter_eq_some_iff {p h : HomeId} {P : HomeId → Bool} :
    (rotationAfter p).find? P = some h ↔ P h = true ∧ ∀ k, turnAfter p k < turnAfter p h → P k = false := by
  simp only [rotationAfter, List.find?_map, Option.map_eq_some_iff, List.find?_range_eq_some, List.mem_range,
    Function.comp_apply, Bool.not_eq_true']
  constructor
  · rintro ⟨n, ⟨found, small, before⟩, rfl⟩
    refine ⟨found, fun k earlier => ?_⟩
    rw [turnAfter_octal p small] at earlier
    simpa only [octal_turnAfter] using before _ earlier
  · rintro ⟨found, first⟩
    refine ⟨turnAfter p h, ⟨?_, turnAfter_lt p h, fun n earlier => first _ ?_⟩, octal_turnAfter p h⟩
    · rwa [octal_turnAfter]
    · rwa [turnAfter_octal p (earlier.trans (turnAfter_lt p h))]

theorem find?_rotationAfter_eq_none_iff {p : HomeId} {P : HomeId → Bool} :
    (rotationAfter p).find? P = none ↔ ∀ h, P h = false := by
  simp only [List.find?_eq_none, Bool.not_eq_true]
  exact ⟨fun none h => none h (mem_rotationAfter p h), fun none h _ => none h⟩

/-! ## Charges (R116, R117) -/

/-- The items of a home charged for a frame by the rule that chose it. -/
def UpsHome.charged (rule : ChoiceRule) (len : Nat) (m : UpsHome) : UpsHome :=
  match rule with
  | .expedited => { m with expCount := m.expCount + 1 }
  | .drr => { m with deficit := m.deficit - len }

end Sys2Proof

namespace Sys2Proof.Machine

/-! ## The expedited rule (R116) -/

theorem Sched.eligible_iff (x : Sched) (h : HomeId) :
    x.eligible h = true ↔
      (∃ f q, x.up.at h = f :: q ∧ f.cls = .expedited) ∧ (x.ups.homes.at h).expCount < 16 := by
  unfold Sched.eligible Sched.head
  cases x.up.at h <;> simp

theorem Sched.choose_eq_expedited_iff {x y : Sched} {h : HomeId} :
    x.choose = some (.expedited, h, y) ↔ x.expChoice = some h ∧ y = x := by
  unfold Sched.choose
  cases x.expChoice <;> simp [eq_comm]

theorem Sched.choose_eq_drr_iff {x y : Sched} {h : HomeId} :
    x.choose = some (.drr, h, y) ↔ x.expChoice = none ∧ x.drrChoice 32 = some (h, y) := by
  unfold Sched.choose
  cases x.expChoice <;> simp

theorem Sched.choose_of_noneEligible {x : Sched} (none : ∀ h, x.eligible h = false) :
    x.choose = (x.drrChoice 32).map fun r => (.drr, r.1, r.2) := by
  have unchosen : x.expChoice = .none := find?_rotationAfter_eq_none_iff.mpr none
  rw [Sched.choose, unchosen]

/-! ## The visits of the deficit round robin (R117) -/

/-- An open visit goes on: the head frame of the visited home is within its deficit (R117, step 1). -/
def Sched.visitGoesOn (x : Sched) : Prop :=
  x.ups.visitOpen = true ∧
    ∃ f q, x.up.at x.ups.drrPos = f :: q ∧ f.length ≤ (x.ups.homes.at x.ups.drrPos).deficit

/-- A visit opened at a home (R117, step 2). -/
def Sched.visit (h : HomeId) (x : Sched) : Sched :=
  { x with ups := { x.ups with
      drrPos := h, visitOpen := true
      homes := x.ups.homes.put h
        { x.ups.homes.at h with deficit := (x.ups.homes.at h).deficit + (x.ups.homes.at h).eff * 512 } } }

theorem Sched.visitNext_eq_visit {x : Sched} {h : HomeId} (waits : x.up.at h ≠ [])
    (first : ∀ k, turnAfter x.ups.drrPos k < turnAfter x.ups.drrPos h → x.up.at k = []) :
    x.visitNext = some (x.visit h) := by
  have found : (rotationAfter x.ups.drrPos).find? (fun k => !(x.up.at k).isEmpty) = some h :=
    find?_rotationAfter_eq_some_iff.mpr ⟨by simpa using waits, fun k earlier => by simp [first k earlier]⟩
  rw [Sched.visitNext, found]
  rfl

theorem Sched.visitNext_eq_none {x : Sched} (empty : ∀ h, x.up.at h = []) : x.visitNext = none := by
  have notFound : (rotationAfter x.ups.drrPos).find? (fun k => !(x.up.at k).isEmpty) = none :=
    find?_rotationAfter_eq_none_iff.mpr fun h => by simp [empty h]
  rw [Sched.visitNext, notFound]
  rfl

/-- While a frame waits, the next visit is to a home that holds one. -/
theorem Sched.exists_visitNext {x : Sched} (waits : ∃ h, x.up.at h ≠ []) :
    ∃ h, x.up.at h ≠ [] ∧ x.visitNext = some (x.visit h) := by
  cases found : (rotationAfter x.ups.drrPos).find? fun k => !(x.up.at k).isEmpty with
  | none =>
    obtain ⟨h, holds⟩ := waits
    have empty := find?_rotationAfter_eq_none_iff.mp found h
    exact absurd (by simpa using empty) holds
  | some h =>
    obtain ⟨holds, -⟩ := find?_rotationAfter_eq_some_iff.mp found
    refine ⟨h, by simpa using holds, ?_⟩
    rw [Sched.visitNext, found]
    rfl

theorem Sched.drrChoice_of_goesOn {x : Sched} (n : Nat) (goesOn : x.visitGoesOn) :
    x.drrChoice (n + 1) = some (x.ups.drrPos, x) := by
  obtain ⟨isOpen, f, q, queue, short⟩ := goesOn
  simp [Sched.drrChoice, Sched.head, isOpen, queue, short]

theorem Sched.drrChoice_of_not_goesOn {x : Sched} (n : Nat) (ends : ¬x.visitGoesOn) :
    x.drrChoice (n + 1) = x.visitNext.bind fun y => y.drrChoice n := by
  simp only [Sched.drrChoice]
  rw [if_neg]
  · cases x.visitNext <;> rfl
  · refine mt (fun test => ?_) ends
    unfold Sched.visitGoesOn
    unfold Sched.head at test
    revert test
    cases x.up.at x.ups.drrPos <;> simp

theorem Sched.visitNext_credit {x y : Sched} (visited : x.visitNext = some y) : y.ups.credit = x.ups.credit := by
  obtain ⟨h, -, rfl⟩ := Option.map_eq_some_iff.mp visited
  rfl

/-- What the deficit round robin offers: the head frame of the visited home, within its deficit, with the visits that
led there charged to nobody's credit. -/
theorem Sched.drrChoice_offers {n : Nat} {x y : Sched} {h : HomeId} (offered : x.drrChoice n = some (h, y)) :
    y.visitGoesOn ∧ y.ups.drrPos = h ∧ y.ups.credit = x.ups.credit := by
  induction n generalizing x with
  | zero => cases offered
  | succ n ih =>
    by_cases goesOn : x.visitGoesOn
    · rw [Sched.drrChoice_of_goesOn n goesOn] at offered
      cases offered
      exact ⟨goesOn, rfl, rfl⟩
    · rw [Sched.drrChoice_of_not_goesOn n goesOn] at offered
      obtain ⟨z, visited, later⟩ := Option.bind_eq_some_iff.mp offered
      obtain ⟨goes, pos, credit⟩ := ih later
      exact ⟨goes, pos, credit.trans (Sched.visitNext_credit visited)⟩

theorem Sched.choose_credit {x y : Sched} {rule : ChoiceRule} {h : HomeId} (chosen : x.choose = some (rule, h, y)) :
    y.ups.credit = x.ups.credit := by
  cases rule with
  | expedited => rw [(Sched.choose_eq_expedited_iff.mp chosen).2]
  | drr => exact (Sched.drrChoice_offers (Sched.choose_eq_drr_iff.mp chosen).2).2.2

/-- A choice is of a home that holds a frame. -/
theorem Sched.waits_of_choose {x y : Sched} {rule : ChoiceRule} {h : HomeId} (chosen : x.choose = some (rule, h, y)) :
    x.up.at h ≠ [] := by
  cases rule with
  | expedited =>
    obtain ⟨found, -⟩ := Sched.choose_eq_expedited_iff.mp chosen
    obtain ⟨⟨f, q, queue, -⟩, -⟩ := (x.eligible_iff h).mp (List.find?_some found)
    simp [queue]
  | drr =>
    obtain ⟨-, offered⟩ := Sched.choose_eq_drr_iff.mp chosen
    obtain ⟨⟨-, f, q, queue, -⟩, rfl, -⟩ := Sched.drrChoice_offers offered
    rw [Sched.drrChoice_up offered] at queue
    simp [queue]

/-! ## A frame is offered while one waits (R115, R117) -/

/-- A bound on the visits of a home until a head frame of at most 1536 bytes is within its deficit, at 512 bytes each. -/
def Sched.visitsLeft (x : Sched) (h : HomeId) : Nat := 3 - (x.ups.homes.at h).deficit / 512

theorem Sched.sum_visitsLeft_le (x : Sched) : ∑ h, x.visitsLeft h ≤ 24 :=
  Finset.sum_le_card_nsmul _ _ 3 fun _ _ => Nat.sub_le ..

@[simp] theorem Sched.visit_deficit_self (h : HomeId) (x : Sched) :
    ((x.visit h).ups.homes.at h).deficit = (x.ups.homes.at h).deficit + (x.ups.homes.at h).eff * 512 := by
  simp [Sched.visit]

/-- A visit brings a home whose deficit is below 1536 nearer to its offer, and no home farther from its own. -/
theorem Sched.sum_visitsLeft_visit_lt {x : Sched} {h : HomeId} (eff : 1 ≤ (x.ups.homes.at h).eff)
    (low : (x.ups.homes.at h).deficit < 1536) : ∑ k, (x.visit h).visitsLeft k < ∑ k, x.visitsLeft k := by
  have nearer : (x.visit h).visitsLeft h < x.visitsLeft h := by
    unfold Sched.visitsLeft
    rw [Sched.visit_deficit_self]
    omega
  refine Finset.sum_lt_sum (fun k _ => ?_) ⟨h, Finset.mem_univ h, nearer⟩
  by_cases here : k = h
  · exact here ▸ nearer.le
  · simp [Sched.visitsLeft, Sched.visit, Tab.at_put_of_ne _ _ _ _ here]

theorem Sched.visit_eff (h k : HomeId) (x : Sched) : ((x.visit h).ups.homes.at k).eff = (x.ups.homes.at k).eff := by
  simp only [Sched.visit, Tab.at_put]
  split
  · rename_i here; rw [here]
  · rfl

/-- A home with a deficit of 1536 bytes and a frame is offered as soon as it is visited. -/
theorem Sched.visit_goesOn {x : Sched} {h : HomeId} (fit : framesFit (x.up.at h)) (waits : x.up.at h ≠ [])
    (high : 1536 ≤ (x.ups.homes.at h).deficit) : (x.visit h).visitGoesOn := by
  obtain ⟨f, q, queue⟩ := List.exists_cons_of_ne_nil waits
  have short : f.length ≤ 1536 := fit f (queue ▸ List.mem_cons_self)
  refine ⟨rfl, f, q, queue, ?_⟩
  change f.length ≤ ((x.visit h).ups.homes.at h).deficit
  rw [Sched.visit_deficit_self]
  omega

/-- The deficit round robin offers a frame within two visits more than the homes have left. -/
theorem Sched.drrChoice_isSome {n : Nat} {x : Sched} (eff : ∀ h, 1 ≤ (x.ups.homes.at h).eff)
    (fit : ∀ h, framesFit (x.up.at h)) (waits : ∃ h, x.up.at h ≠ []) (enough : ∑ h, x.visitsLeft h + 2 ≤ n) :
    (x.drrChoice n).isSome = true := by
  induction n generalizing x with
  | zero => omega
  | succ n ih =>
    by_cases goesOn : x.visitGoesOn
    · rw [Sched.drrChoice_of_goesOn n goesOn]
      rfl
    · obtain ⟨h, holds, visited⟩ := Sched.exists_visitNext waits
      rw [Sched.drrChoice_of_not_goesOn n goesOn, visited, Option.bind_some]
      by_cases low : (x.ups.homes.at h).deficit < 1536
      · have nearer := Sched.sum_visitsLeft_visit_lt (eff h) low
        exact ih (fun k => x.visit_eff h k ▸ eff k) fit waits (by omega)
      · obtain ⟨m, rfl⟩ : ∃ m, n = m + 1 := ⟨n - 1, by omega⟩
        rw [Sched.drrChoice_of_goesOn m (Sched.visit_goesOn (fit h) holds (Nat.le_of_not_lt low))]
        rfl

theorem Sched.exists_choose {x : Sched} (eff : ∀ h, 1 ≤ (x.ups.homes.at h).eff) (fit : ∀ h, framesFit (x.up.at h))
    (waits : ∃ h, x.up.at h ≠ []) : ∃ c, x.choose = some c := by
  cases found : x.expChoice with
  | some h => exact ⟨_, Sched.choose_eq_expedited_iff.mpr ⟨found, rfl⟩⟩
  | none =>
    have enough : ∑ h, x.visitsLeft h + 2 ≤ 32 := by have := x.sum_visitsLeft_le; omega
    obtain ⟨⟨h, y⟩, offered⟩ := Option.isSome_iff_exists.mp (Sched.drrChoice_isSome eff fit waits enough)
    exact ⟨_, Sched.choose_eq_drr_iff.mpr ⟨found, offered⟩⟩

/-- Settles O39: an offer while a frame waits by `Sched.exists_choose`, the visits by the rotation's first home that holds
a frame. -/
theorem schedulerOffersWhileFramesWait : Obligations.SchedulerOffersWhileFramesWait := by
  refine ⟨fun x eff fit => ⟨fun ⟨⟨rule, h, y⟩, chosen⟩ => ⟨h, Sched.waits_of_choose chosen⟩, Sched.exists_choose eff fit⟩,
    fun x => ⟨fun h waits first => Sched.visitNext_eq_visit waits first, Sched.visitNext_eq_none, fun n => ?_,
      Sched.choose_of_noneEligible⟩⟩
  exact ⟨Sched.drrChoice_of_goesOn n, Sched.drrChoice_of_not_goesOn n⟩

/-! ## What a take charges (R113, R116 to R118) -/

theorem chargeTake_eq (rule : ChoiceRule) (h : HomeId) (len : Nat) (nowEmpty : Bool) (u : Ups) :
    chargeTake rule h len nowEmpty u = { u with
      credit := u.credit - len
      expLast := if rule = .expedited then h else u.expLast
      homes := u.homes.put h (if nowEmpty = true then { (u.homes.at h).charged rule len with deficit := 0 }
        else (u.homes.at h).charged rule len)
      visitOpen := if nowEmpty = true then u.visitOpen && u.drrPos != h else u.visitOpen } := by
  cases nowEmpty <;> cases rule <;> simp [chargeTake, Ups.emptied, UpsHome.charged, Tab.upd]

theorem Sched.take_cons {x : Sched} {h : HomeId} {f : Frame} {q : List Frame} (rule : ChoiceRule)
    (queue : x.up.at h = f :: q) :
    x.take rule h = ⟨chargeTake rule h f.length q.isEmpty x.ups, x.up.put h q⟩ := by
  rw [Sched.take, queue]

/-- Settles O38: the expedited rule by the rotation's first eligible home, the deficit round robin by what it offers, the
take by what it charges. -/
theorem schedulerChoosesAndCharges : Obligations.SchedulerChoosesAndCharges := by
  intro x eligible
  have eligible_iff (h : HomeId) : x.eligible h = true ↔ eligible h := x.eligible_iff h
  have not_eligible_iff (h : HomeId) : x.eligible h = false ↔ ¬eligible h := by
    rw [← eligible_iff, Bool.not_eq_true]
  refine ⟨fun h => ?_, fun h y chosen => (Sched.choose_eq_expedited_iff.mp chosen).2, fun h y chosen => ?_,
    fun rule h f q queue => ?_⟩
  · have chosen : (∃ y, x.choose = some (.expedited, h, y)) ↔ x.expChoice = some h := by
      simp [Sched.choose_eq_expedited_iff]
    rw [chosen, Sched.expChoice, find?_rotationAfter_eq_some_iff, eligible_iff]
    exact and_congr_right' (forall₂_congr fun k _ => not_eligible_iff k)
  · obtain ⟨unchosen, offered⟩ := Sched.choose_eq_drr_iff.mp chosen
    obtain ⟨⟨isOpen, f, q, queue, short⟩, rfl, credit⟩ := Sched.drrChoice_offers offered
    have sameUp : y.up = x.up := Sched.drrChoice_up offered
    refine ⟨fun k => ?_, sameUp, credit, isOpen, rfl, f, q, sameUp ▸ queue, short⟩
    exact (not_eligible_iff k).mp (find?_rotationAfter_eq_none_iff.mp unchosen k)
  · intro m charged
    rw [Sched.take_cons rule queue, chargeTake_eq]
    refine ⟨rfl, ?_⟩
    simp only [List.isEmpty_iff]
    cases rule <;> rfl

end Sys2Proof.Machine
end

section
/-! SUPPORT. The end of a command: what the examination leaves alone, and the conditions of the standing requests. -/

namespace Sys2Proof.Machine

/-! ## The examination leaves the rest of the state (R61, R150, R151) -/

/-- A withdrawal marks the call of a CLAIM, and changes no other. -/
theorem State.withdrawClaim_call_unmarked (r : Option StationId) (s : State) :
    (s.withdrawClaim r).cbi.call.map OwnCall.unmarked = s.cbi.call.map OwnCall.unmarked := by
  unfold State.withdrawClaim
  split
  · split <;> rfl
  · rename_i call
    rw [call]
    rfl
  · rfl

theorem State.stepBack_call_unmarked (st : TestState) (s : State) :
    (s.stepBack st).cbi.call.map OwnCall.unmarked = s.cbi.call.map OwnCall.unmarked := by
  unfold State.stepBack
  split
  · exact s.withdrawClaim_call_unmarked none
  · rfl

theorem State.examine_call_unmarked (s : State) :
    s.examine.cbi.call.map OwnCall.unmarked = s.cbi.call.map OwnCall.unmarked := by
  unfold State.examine
  split
  · rfl
  · split
    · exact s.stepBack_call_unmarked .idle
    · split
      · split
        · rfl
        · split <;> rfl
      · exact s.stepBack_call_unmarked _

/-- The examination writes what `State.rest` leaves out, only. -/
theorem State.examine_rest (s : State) : s.examine.rest = s.rest := by
  obtain ⟨st, c, o, w, examined⟩ := s.examine_spec
  have state := s.examine_apartFromHead
  have call := s.examine_call_unmarked
  rw [examined] at state call ⊢
  simp only [State.rest, state, call]

theorem State.settle_rest (s0 s : State) : (State.settle s0 s).rest = s.rest := by
  have judged : (State.settle s0 s).rest = (State.examineOnChange s0 s).rest := rfl
  rw [judged, State.examineOnChange]
  split
  · exact s.examine_rest
  · rfl

/-! ## The conditions of the standing requests (R114, R121, R137, R140, R185) -/

theorem Cqm.upWaiting_iff (c : Cqm) : c.upWaiting = true ↔ ∃ h, c.up.at h ≠ [] := by
  simp [Cqm.upWaiting, mem_homeIds]

theorem State.wantsUpdata_iff (s : State) :
    s.wantsUpdata = true ↔
      ¬s.pvw.role = .active ∧ s.pvw.active ≠ none ∧ 0 < s.ups.credit ∧ ∃ h, s.cqm.up.at h ≠ [] := by
  rw [← s.working_iff, ← s.cqm.upWaiting_iff]
  simp [State.wantsUpdata, Option.isSome_iff_ne_none, and_assoc]

theorem State.wantsBulk_iff (s : State) :
    s.wantsBulk = true ↔
      s.pvw.role = .active ∧ (s.cqm.flood ≠ [] ∨ ∃ i, i ≠ s.orh.stn ∧ s.cqm.stn.at i ≠ []) := by
  rw [← s.working_iff]
  simp [State.wantsBulk, mem_homeIds]

theorem State.wantsOrder_iff (s : State) :
    s.wantsOrder = true ↔ s.pvw.role = .active ∧ ∃ m ∈ s.gwu.orders, m.target ≠ s.orh.stn := by
  rw [← s.working_iff]
  simp [State.wantsOrder]

theorem State.wantsReport_iff (s : State) :
    s.wantsReport = true ↔ (∃ g, s.pvw.active = some g ∧ g ≠ s.orh.stn) ∧ s.orh.queue ≠ [] := by
  unfold State.wantsReport
  cases s.pvw.active <;> simp

/-- Moves go on while the station works, has credit and a frame waits, unless the uplink queue has blocked them (R121). -/
theorem State.moveNow_spec (s : State) :
    (¬(s.pvw.role = .active ∧ 0 < s.ups.credit ∧ ∃ h, s.cqm.up.at h ≠ []) → s.moveNow = .idle) ∧
      (s.pvw.role = .active → (0 < s.ups.credit ∧ ∃ h, s.cqm.up.at h ≠ []) →
        s.moveNow = if s.ups.move = .blocked then .blocked else .running) := by
  rw [← s.working_iff, ← s.cqm.upWaiting_iff]
  exact ⟨fun idle => if_neg idle, fun works ⟨credit, waiting⟩ => if_pos ⟨works, credit, waiting⟩⟩

theorem State.moveNow_eq_idle_iff (s : State) :
    s.moveNow = .idle ↔ ¬(s.working = true ∧ 0 < s.ups.credit ∧ s.cqm.upWaiting = true) := by
  unfold State.moveNow
  split
  · rename_i moves
    split <;> simp [moves]
  · rename_i idle
    exact iff_of_true rfl idle

/-- The standing requests at the end of a command, on what the command has left. -/
theorem State.settle_requests (s0 s : State) :
    let t := State.settle s0 s
    (t.ups.raised = s.wantsUpdata ∧
      t.ups.target = (if s.wantsUpdata && !s.ups.raised then s.pvw.active.getD s.ups.target else s.ups.target) ∧
      t.ups.move = s.moveNow) ∧
    (t.gwu.bulkReq = s.wantsBulk ∧ t.gwu.orderReq = s.wantsOrder) ∧
    t.orh.reportReq = s.wantsReport ∧
      t.orh.reportTarget = if s.wantsReport then s.pvw.active.getD s.orh.reportTarget else s.orh.reportTarget := by
  obtain ⟨st, c, o, w, settled⟩ := State.settle_spec s0 s
  rw [settled]
  exact ⟨⟨rfl, rfl, rfl⟩, ⟨rfl, rfl⟩, rfl, rfl⟩

/-- Judging the requests changes none of their conditions. -/
theorem State.standingRequestsHold_judge (s : State) : StandingRequestsHold s.judge :=
  ⟨rfl, rfl, rfl, rfl, s.moveNow_eq_idle_iff⟩

theorem State.standingRequestsHold_settle (s0 s : State) : StandingRequestsHold (State.settle s0 s) :=
  State.standingRequestsHold_judge _

/-- Settles O3: the rest by the examination, each request by its conditions, the targets by what is recorded. -/
theorem endOfCommandWritesOnlyExaminationAndRequests : Obligations.EndOfCommandWritesOnlyExaminationAndRequests := by
  intro s0 s t works waiting
  obtain ⟨⟨raised, target, move⟩, ⟨bulk, order⟩, report, reportTarget⟩ := State.settle_requests s0 s
  obtain ⟨idle, moves⟩ := s.moveNow_spec
  refine ⟨State.settle_rest s0 s, State.standingRequestsHold_settle s0 s, ?_, fun g active => ?_, fun absent => ?_,
    fun still => move.trans (idle still), fun working waits => move.trans (moves working waits), ?_, ?_, ?_,
    fun g active => ?_, fun absent => ?_⟩
  · rw [raised, s.wantsUpdata_iff]
  · rw [target, raised, active]
    simp
  · rw [target, absent]
    simp
  · rw [bulk, s.wantsBulk_iff]
  · rw [order, s.wantsOrder_iff]
  · rw [report, s.wantsReport_iff]
  · rw [reportTarget, report, active]
    rfl
  · rw [reportTarget, absent]
    simp

end Sys2Proof.Machine
end

section
/-! SUPPORT. The view of the budget: what the bound of the upstream credit reads of a state, and the transitions of that
view that keep it. -/

namespace Sys2Proof

@[simp] theorem framesFit_nil : framesFit [] := fun _ m => nomatch m

theorem framesFit.subset {p q : List Frame} (fit : framesFit q) (sub : p ⊆ q) : framesFit p := fun f m => fit f (sub m)

theorem framesFit_append {p q : List Frame} : framesFit (p ++ q) ↔ framesFit p ∧ framesFit q := List.forall_mem_append

theorem framesFit_cons {f : Frame} {q : List Frame} : framesFit (f :: q) ↔ f.length ≤ 1536 ∧ framesFit q :=
  List.forall_mem_cons

end Sys2Proof

namespace Sys2Proof.Machine

/-- What the bound of the credit reads of a state. -/
@[ext] structure BudgetView where
  credit : Int
  depth : Nat
  up : Tab 8 (List Frame)
  burst : List Frame

/-- The view of the budget that a state shows. -/
def State.budget (s : State) : BudgetView :=
  { credit := s.ups.credit, depth := s.cfg.depth, up := s.cqm.up, burst := s.cqm.updataFrames }

/-- The credit lies between -1536 and the bucket depth (R113), and the frames that it pays for are at most 1536 bytes
long (R25). -/
structure BudgetView.Fits (V : BudgetView) : Prop where
  floor : -1536 ≤ V.credit
  cap : V.credit ≤ V.depth
  up : ∀ h, framesFit (V.up.at h)
  burst : framesFit V.burst

theorem budgetFits_iff (s : State) : s.budget.Fits ↔ CreditBounded s := by
  have burst : framesFit s.cqm.updataFrames ↔ ∀ fs, s.cqm.assembly = some ⟨.updata, fs⟩ → framesFit fs := by
    constructor
    · exact fun fit fs e f m => fit f ((State.mem_updataFrames _ f).mpr ⟨fs, e, m⟩)
    · intro fit f m
      obtain ⟨fs, e, m⟩ := (State.mem_updataFrames _ f).mp m
      exact fit fs e f m
  constructor
  · rintro ⟨floor, cap, up, sent⟩
    exact ⟨⟨floor, cap⟩, up, burst.mp sent⟩
  · rintro ⟨⟨floor, cap⟩, up, sent⟩
    exact ⟨floor, cap, up, burst.mpr sent⟩

/-- The second state keeps the bound of the credit, if the first meets it. -/
def BudgetKept (s t : State) : Prop := s.budget.Fits → t.budget.Fits

theorem BudgetKept.of_eq {s t : State} (same : t.budget = s.budget) : BudgetKept s t := fun fit => same ▸ fit

theorem BudgetKept.refl (s : State) : BudgetKept s s := id

theorem BudgetKept.trans {s t u : State} (first : BudgetKept s t) (next : BudgetKept t u) : BudgetKept s u := next ∘ first

/-- A fold of operations that the view does not show. -/
theorem State.foldl_budget {α : Type} (f : State → α → State) (h : ∀ s x, (f s x).budget = s.budget) (l : List α)
    (s : State) : (l.foldl f s).budget = s.budget :=
  State.foldl_same State.budget f h l s

/-! ## Transitions of the view -/

/-- Frames leave the queues and the burst. -/
theorem BudgetKept.of_fewer {s t : State} {up : Tab 8 (List Frame)} {burst : List Frame}
    (view : t.budget = { s.budget with up, burst }) (fewer : ∀ h, up.at h ⊆ s.cqm.up.at h)
    (sent : burst ⊆ s.cqm.updataFrames) : BudgetKept s t := by
  unfold BudgetKept
  rw [view]
  exact fun fit => ⟨fit.floor, fit.cap, fun h => (fit.up h).subset (fewer h), fit.burst.subset sent⟩

/-- The burst in assembly ends or gives way to one of another source (R35). -/
theorem BudgetKept.of_noBurst {s t : State} (view : t.budget = { s.budget with burst := [] }) : BudgetKept s t :=
  .of_fewer (up := s.cqm.up) view (fun _ => List.Subset.refl _) (List.nil_subset _)

/-- A home's upstream queue takes frames that cells can hold. -/
theorem BudgetView.Fits.put_up {V : BudgetView} (fit : V.Fits) {h : HomeId} {q : List Frame} (queue : framesFit q) :
    BudgetView.Fits { V with up := V.up.put h q } := by
  refine ⟨fit.floor, fit.cap, fun k => ?_, fit.burst⟩
  rw [Tab.at_put]
  split
  · exact queue
  · exact fit.up k

theorem BudgetKept.of_put_up {s t : State} {h : HomeId} {q : List Frame}
    (view : t.budget = { s.budget with up := s.cqm.up.put h q }) (queue : s.budget.Fits → framesFit q) :
    BudgetKept s t := by
  unfold BudgetKept
  rw [view]
  exact fun fit => fit.put_up (queue fit)

/-- Credit raised stays below the bucket depth (R112, R113). -/
theorem BudgetView.Fits.addCredit {V : BudgetView} (fit : V.Fits) (n : Nat) :
    BudgetView.Fits { V with credit := Sys2Proof.addCredit V.credit n V.depth } := by
  have floor := fit.floor
  refine ⟨?_, min_le_right _ _, fit.up, fit.burst⟩
  change -1536 ≤ min (V.credit + n) (V.depth : Int)
  omega

/-! ## Queues emptied and frames placed (R14, R27, R40) -/

theorem State.freeUp_budgeted (r : UpDrop) (h : HomeId) (s : State) : BudgetKept s (s.freeUp r h) :=
  .of_put_up (h := h) (q := []) rfl fun _ => framesFit_nil

theorem State.hold_budgeted (h : HomeId) (s : State) : BudgetKept s (s.hold h) :=
  .of_put_up (h := h) (q := []) rfl fun _ => framesFit_nil

theorem State.enterAdminDown_budgeted (h : HomeId) (s : State) : BudgetKept s (s.enterAdminDown h) :=
  .of_put_up (h := h) (q := []) rfl fun _ => framesFit_nil

theorem State.placeUp_budgeted {f : Frame} (h : HomeId) (s : State) (short : f.length ≤ 1536) :
    BudgetKept s (s.placeUp h f) := by
  rcases s.placeUp_spec h f with ⟨r, e⟩ | ⟨-, -, e⟩ <;> rw [e]
  · exact .of_eq rfl
  · refine .of_put_up (h := h) (q := s.cqm.up.at h ++ [f]) rfl fun fit => ?_
    exact framesFit_append.mpr ⟨fit.up h, framesFit_cons.mpr ⟨short, framesFit_nil⟩⟩

/-- A frame longer than 1536 bytes is dropped before it reaches a queue (R15). -/
theorem State.takeUpstream_budgeted (h : HomeId) (bytes : List Byte) (s : State) :
    BudgetKept s (s.takeUpstream h bytes) := by
  unfold State.takeUpstream
  dsimp only
  split
  · exact .of_eq rfl
  · rename_i length
    split
    · exact .of_eq rfl
    · have short : bytes.length ≤ 1536 := Nat.le_of_not_lt (not_or.mp length).2
      refine BudgetKept.trans (.of_eq ?_) (State.placeUp_budgeted h _ short)
      rfl

/-! ## The scheduler takes frames (R113, R115) -/

/-- The view of the budget that the scheduler shows, for a bucket depth and a burst. -/
def Sched.budget (x : Sched) (depth : Nat) (burst : List Frame) : BudgetView :=
  { credit := x.ups.credit, depth, up := x.up, burst }

@[simp] theorem Sched.take_credit {x : Sched} {h : HomeId} {f : Frame} {q : List Frame} (rule : ChoiceRule)
    (queue : x.up.at h = f :: q) : (x.take rule h).ups.credit = x.ups.credit - f.length := by
  rw [Sched.take_cons rule queue, chargeTake_eq]

/-- A choice shows the budget as it was. -/
theorem Sched.choose_budget {x y : Sched} {rule : ChoiceRule} {h : HomeId} (depth : Nat) (burst : List Frame)
    (chosen : x.choose = some (rule, h, y)) : y.budget depth burst = x.budget depth burst :=
  BudgetView.ext (Sched.choose_credit chosen) rfl (Sched.choose_up chosen) rfl

/-- A frame taken while there is credit costs at most 1536 bytes of it (R113, R115). -/
theorem Sched.take_fits {x : Sched} {h : HomeId} {f : Frame} {q : List Frame} {depth : Nat} {burst : List Frame}
    (rule : ChoiceRule) (credit : 0 < x.ups.credit) (queue : x.up.at h = f :: q) (fit : (x.budget depth burst).Fits) :
    ((x.take rule h).budget depth (burst ++ [f])).Fits := by
  have short : f.length ≤ 1536 ∧ framesFit q := framesFit_cons.mp (queue ▸ fit.up h)
  have cap : x.ups.credit ≤ depth := fit.cap
  refine ⟨?_, ?_, fun k => (fit.up k).subset (Sched.take_up_subset rule h k x), ?_⟩
  · change -1536 ≤ (x.take rule h).ups.credit
    rw [Sched.take_credit rule queue]
    omega
  · change (x.take rule h).ups.credit ≤ (depth : Int)
    rw [Sched.take_credit rule queue]
    omega
  · exact framesFit_append.mpr ⟨fit.burst, framesFit_cons.mpr ⟨short.1, framesFit_nil⟩⟩

theorem Sched.fill_budgetFits (n room : Nat) {x : Sched} {fs : List Frame} {depth : Nat} (fit : (x.budget depth fs).Fits) :
    ((x.fill n room fs).1.budget depth (x.fill n room fs).2).Fits := by
  induction n generalizing x fs with
  | zero => exact fit
  | succ n ih =>
    match chosen : x.choose with
    | none => simpa only [Sched.fill, chosen] using fit
    | some (rule, h, y) =>
      obtain ⟨onNone, onHead⟩ := Sched.fill_succ_of_choose n room fs chosen
      match queue : y.up.at h with
      | [] => rw [onNone queue]; exact fit
      | f :: q =>
        rw [onHead f q queue]
        split
        · rename_i takes
          refine ih (Sched.take_fits rule ?_ queue ?_)
          · rw [Sched.choose_credit chosen]
            exact takes.1
          · rwa [Sched.choose_budget depth fs chosen]
        · exact fit

theorem State.startTransfer_budgeted (c : OwnCall) (room : Nat) (s : State) : BudgetKept s (s.startTransfer c room) := by
  unfold State.startTransfer
  dsimp only
  split
  · refine fun fit => Sched.fill_budgetFits 9 room (x := s.sched) (fs := []) (depth := s.cfg.depth) ?_
    exact ⟨fit.floor, fit.cap, fit.up, framesFit_nil⟩
  · exact .of_noBurst rfl
  all_goals exact .of_eq rfl

/-- A move made while there is credit (R121). -/
theorem State.moveOnce_budgeted {s : State} (credit : 0 < s.ups.credit) : BudgetKept s s.moveOnce := by
  unfold State.moveOnce
  split
  · exact .refl s
  · rename_i rule h y chosen
    split
    · exact .refl s
    · rename_i f head
      split
      · obtain ⟨q, queue⟩ := List.head?_eq_some_iff.mp head
        intro fit
        have before : (y.budget s.cfg.depth s.cqm.updataFrames).Fits := by
          rw [Sched.choose_budget _ _ chosen]
          exact fit
        have after := Sched.take_fits rule (Sched.choose_credit chosen ▸ credit) queue before
        exact ⟨after.floor, after.cap, after.up, fit.burst⟩
      · exact .of_eq rfl

theorem State.credit_pos_of_moveNow {s : State} (running : s.moveNow = .running) : 0 < s.ups.credit := by
  by_contra noCredit
  have idle : s.moveNow = .idle := s.moveNow_eq_idle_iff.mpr fun ⟨_, credit, _⟩ => noCredit credit
  rw [running] at idle
  cases idle

/-! ## The end of a burst (R35, R36, R113) -/

/-- A frame that goes back to its queue gives its charge back (R36, R113). -/
theorem State.returnUp_budgeted {f : Frame} (s : State) (short : f.length ≤ 1536) : BudgetKept s (s.returnUp f) := by
  unfold State.returnUp
  dsimp only
  split
  · exact .of_eq rfl
  · refine fun fit => BudgetView.Fits.put_up (fit.addCredit f.length) ?_
    exact framesFit_cons.mpr ⟨short, fit.up _⟩

theorem State.returnUps_budgeted {fs : List Frame} (s : State) (fit : framesFit fs) :
    BudgetKept s (fs.foldr State.returnUp s) := by
  induction fs with
  | nil => exact .refl s
  | cons f fs ih =>
    obtain ⟨short, rest⟩ := framesFit_cons.mp fit
    exact (ih rest).trans (State.returnUp_budgeted _ short)

theorem State.foldr_budget {α : Type} (f : α → State → State) (h : ∀ x s, (f x s).budget = s.budget) (l : List α)
    (s : State) : (l.foldr f s).budget = s.budget := by
  induction l with
  | nil => rfl
  | cons x l ih => exact (h x _).trans ih

theorem State.failBurst_budgeted (s : State) : BudgetKept s s.failBurst := by
  have dropped : BudgetKept s { s with cqm := { s.cqm with assembly := none } } := .of_noBurst rfl
  unfold State.failBurst
  split
  · exact .refl s
  · rename_i a burst
    dsimp only
    split
    · rename_i source
      intro fit
      have frames : s.cqm.updataFrames = a.frames := by
        obtain ⟨src, fs⟩ := a
        subst source
        simp [Cqm.updataFrames, burst]
      exact State.returnUps_budgeted _ (frames ▸ fit.burst) (dropped fit)
    · refine dropped.trans (.of_eq (State.foldr_budget _ (fun x t => ?_) _ _))
      unfold State.returnStn
      split <;> rfl
    · refine dropped.trans (.of_eq (State.foldr_budget _ (fun x t => ?_) _ _))
      unfold State.returnFlood
      split <;> rfl

theorem State.sendBurst_budgeted (s : State) : BudgetKept s s.sendBurst := by
  unfold State.sendBurst
  split
  · exact .refl s
  · dsimp only
    split <;> exact .of_noBurst rfl

/-! ## The start of the station (R186, R188) -/

/-- A station starts with no credit and no frame (R24, R111). -/
theorem startUp_budgeted (s : State) (pins : Pins) (k : Kept) (pending : List Instr) :
    BudgetKept s (startUp pins k pending) := by
  obtain ⟨-, -, -, -, -, -, cqm, -, -, -, ⟨credit, -⟩, -⟩ := startUp_startsEveryBlock pins k pending
  refine fun _ => ⟨?_, ?_, fun h => ?_, ?_⟩ <;> simp only [State.budget, credit, cqm]
  · decide
  · exact Int.natCast_nonneg _
  · simp
  · exact framesFit_nil

theorem State.softRestart_budgeted (s t : State) : BudgetKept t s.softRestart :=
  (startUp_budgeted t s.restartTest.pins.reread s.restartTest.kept s.restartTest.pending).trans (.of_eq rfl)

theorem State.restartIfLeft_budgeted (left : Bool) (s : State) : BudgetKept s (s.restartIfLeft left) := by
  unfold State.restartIfLeft
  split
  · exact s.softRestart_budgeted s
  · exact .refl s

end Sys2Proof.Machine
end

section
/-! SUPPORT. What the operations of homes, tests, receptions and calls do to the view of the budget: most are not shown
there. -/

namespace Sys2Proof.Machine

/-! ## Tests and power (R106, R163, R164, R175) -/

@[simp] theorem State.suspend_budget (k : SuspendCause) (s : State) : (s.suspend k).budget = s.budget := by
  unfold State.suspend
  split <;> rfl

@[simp] theorem State.endTest_budget (o : TestOutcome) (s : State) : (s.endTest o).budget = s.budget := by
  unfold State.endTest
  split <;> rfl

@[simp] theorem State.enterLow_budget (s : State) : s.enterLow.budget = s.budget := by
  unfold State.enterLow
  split
  · exact s.suspend_budget _
  · rfl

@[simp] theorem State.powerRound_budget (s : State) : s.powerRound.budget = s.budget := by
  rcases s.powerRound_spec with e | e <;> rw [e]
  · rfl
  · exact State.suspend_budget _ _

@[simp] theorem State.enterTraining_budget (h : HomeId) (s : State) : (s.enterTraining h).budget = s.budget := by
  rcases s.enterTraining_spec h with e | e | e <;> rw [e]
  · rfl
  · rfl
  · exact State.powerRound_budget _

@[simp] theorem State.upFromDown_budget (h : HomeId) (s : State) : (s.upFromDown h).budget = s.budget := by
  unfold State.upFromDown
  dsimp only
  split <;> exact s.enterTraining_budget h

@[simp] theorem State.shareBoundary_budget (s : State) : s.shareBoundary.budget = s.budget := by
  unfold State.shareBoundary
  dsimp only
  split
  · rfl
  · exact State.powerRound_budget _

/-! ## Quiets (R9, R10, R155) -/

@[simp] theorem State.hearQuiet_budget (g : Group) (ms : Nat) (s : State) : (s.hearQuiet g ms).budget = s.budget := by
  have homes : (homeIds.foldl (State.quietHome g) (s.setQuietEnd g ms)).budget = s.budget := by
    refine (State.foldl_budget _ (fun t h => ?_) _ _).trans rfl
    unfold State.quietHome
    split
    · rfl
    · split <;> rfl
  rw [State.hearQuiet, State.quietGroup_eq]
  generalize homeIds.foldl (State.quietHome g) (s.setQuietEnd g ms) = t at homes ⊢
  exact homes

@[simp] theorem State.endQuiet_budget (s : State) (g : Group) : (s.endQuiet g).budget = s.budget := by
  have homes (t : State) : (homeIds.foldl (State.unquietHome g) t).budget = t.budget := by
    refine State.foldl_budget _ (fun u h => ?_) _ _
    unfold State.unquietHome
    split
    · rfl
    · split <;> rfl
  have woken (t : State) : (t.wakeGroup g).budget = t.budget := by
    unfold State.wakeGroup
    dsimp only
    split <;> rfl
  unfold State.endQuiet
  split
  · rw [woken, homes]
    rfl
  · rfl

@[simp] theorem State.tbusyFell_budget (s : State) : s.tbusyFell.budget = s.budget := by
  unfold State.tbusyFell
  refine (State.foldl_budget State.endQuiet State.endQuiet_budget groupIds _).trans ?_
  rfl

/-! ## Frames from the uplink (R28, R29, R132, R133) -/

@[simp] theorem State.placeChecked_budget (h : HomeId) (f : Frame) (s : State) :
    (s.placeChecked h f).budget = s.budget := by
  unfold State.placeChecked
  split <;> rfl

@[simp] theorem State.placeDown_budget (bytes : List Byte) (s : State) (h : HomeId) :
    (s.placeDown h bytes).budget = s.budget := by
  unfold State.placeDown
  dsimp only
  split
  · rfl
  · split
    · split
      · rfl
      · split <;> exact s.placeChecked_budget h _
    · exact s.placeChecked_budget h _

@[simp] theorem State.routeFrame_budget (bytes : List Byte) (s : State) : (s.routeFrame bytes).budget = s.budget := by
  have flooded : (s.floodFrame bytes).budget = s.budget := by
    refine Eq.trans ?_ (State.foldl_budget _ (State.placeDown_budget bytes) (s.namedHomes (destinationOf bytes)) s)
    unfold State.floodFrame State.placeFlood
    dsimp only
    split <;> rfl
  have stationed (i : StationId) (h : HomeId) : (s.placeStn i h bytes).budget = s.budget := by
    unfold State.placeStn
    dsimp only
    split <;> rfl
  unfold State.routeFrame
  dsimp only
  split
  · exact flooded
  · split
    · split
      · exact s.placeDown_budget bytes _
      · exact stationed _ _
    · exact flooded

@[simp] theorem State.dropGiven_budget (s : State) : s.dropGiven.budget = s.budget := by
  unfold State.dropGiven
  split <;> rfl

/-! ## Receptions (R37, R38, R49, R50, R69) -/

@[simp] theorem State.holdDown_budget (reserve : Nat) (f : ArrivingFrame) (s : State) (h : HomeId) :
    (s.holdDown reserve f h).budget = s.budget := by
  unfold State.holdDown
  split <;> rfl

@[simp] theorem State.openFrame_budget (r : Reception) (f : ArrivingFrame) (s : State) :
    (s.openFrame r f).budget = s.budget := by
  unfold State.openFrame
  split
  · unfold State.holdUp
    split <;> rfl
  · exact s.holdDown_budget 0 f _
  · rfl
  · rfl

@[simp] theorem State.nameCopies_budget (f : ArrivingFrame) (s : State) : (s.nameCopies f).1.budget = s.budget := by
  unfold State.nameCopies
  split
  · rfl
  · exact State.foldl_budget _ (State.holdDown_budget 64 f) _ s

@[simp] theorem State.matchFrame_budget (k : CallKind) (f : ArrivingFrame) (s : State) :
    (s.matchFrame k f).budget = s.budget := by
  refine State.foldl_budget _ (fun t h => ?_) _ s
  unfold State.matchHome
  split
  · unfold State.freeUnmatched
    dsimp only
    split <;> rfl
  · split <;> rfl

@[simp] theorem State.dataWord_budget (r : Reception) (f : ArrivingFrame) (w : Word) (ok : Bool) (s : State) :
    (s.dataWord r f w ok).budget = s.budget := by
  have ends (q : State × ArrivingFrame) (same : q.1.budget = s.budget) :
      (if q.2.length ≤ q.2.bytes.length then (q.1.fillHeld q.2).setRx r.afterFrame
        else q.1.setRx { r with stage := .frameData q.2 }).budget = s.budget := by
    split <;> exact same
  unfold State.dataWord
  refine ends _ ?_
  dsimp only
  split
  · split <;> simp
  · split <;> simp

@[simp] theorem State.takeWord_budget (r : Reception) (w : Word) (p : Bool) (s : State) :
    (s.takeWord r w p).budget = s.budget := by
  have staged (q : Reception) (ok : Bool) : (s.stageWord q w ok).budget = s.budget := by
    unfold State.stageWord
    split
    case h_3 =>
      unfold State.lengthWord
      dsimp only
      split
      · rfl
      · exact State.openFrame_budget ..
    case h_4 => exact State.dataWord_budget ..
    all_goals rfl
  unfold State.takeWord
  dsimp only
  split
  · rfl
  · exact staged _ _

@[simp] theorem State.goodEnd_budget (caller : StationId) (s : State) : (s.goodEnd caller).budget = s.budget := by
  have joined (t : State) (x : Held) : (t.joinHeld caller x).budget = t.budget := by
    unfold State.joinHeld
    split
    · split <;> rfl
    · split <;> rfl
  have woken (t : State) (w : PendingWake) : (t.applyWake w).budget = t.budget := by
    unfold State.applyWake
    split <;> rfl
  unfold State.goodEnd
  dsimp only
  refine (State.foldl_budget _ woken _ _).trans ?_
  exact (State.foldl_budget _ joined _ _).trans rfl

@[simp] theorem State.closeIfComplete_budget (s : State) : s.closeIfComplete.budget = s.budget := by
  have placed (r : Reception) : (s.closeGood r).budget = s.budget := by
    unfold State.closeGood State.placeReceived
    split
    · rfl
    · split <;> rfl
    · exact State.goodEnd_budget _ _
  unfold State.closeIfComplete
  split
  · split
    · split
      · rfl
      · exact placed _
    · rfl
  · rfl

@[simp] theorem State.endReception_budget (s : State) : s.endReception.budget = s.budget := by
  unfold State.endReception
  split
  · split
    · split
      · exact s.goodEnd_budget _
      · rfl
    · split <;> rfl
  · rfl
  · rfl

@[simp] theorem State.cutReception_budget (s : State) : s.cutReception.budget = s.budget := by
  unfold State.cutReception
  split
  · split <;> rfl
  · rfl
  · rfl

/-! ## The end of a command (R150, R151) -/

@[simp] theorem State.withdrawClaim_budget (r : Option StationId) (s : State) :
    (s.withdrawClaim r).budget = s.budget := by
  obtain ⟨c, o, w, e⟩ := s.withdrawClaim_spec r
  rw [e]
  rfl

@[simp] theorem State.examine_budget (s : State) : s.examine.budget = s.budget := by
  obtain ⟨st, c, o, w, e⟩ := s.examine_spec
  rw [e]
  rfl

@[simp] theorem State.settle_budget (s0 s : State) : (State.settle s0 s).budget = s.budget := by
  obtain ⟨st, c, o, w, e⟩ := State.settle_spec s0 s
  rw [e]
  rfl

@[simp] theorem State.reply_budget (r : Result) (d : ReplyData) (s : State) : (s.reply r d).budget = s.budget := by
  obtain ⟨o, e, -⟩ := s.reply_spec r d
  rw [e]
  rfl

/-! ## The steps of a test (R11, R13, R154, R157, R163) -/

@[simp] theorem State.emit_budget (ps : List Pulse) (s : State) : (s.emit ps).budget = s.budget := rfl

/-- The test takes its home, whose queues it empties (R11, R14). -/
theorem State.connect_budgeted (s : State) : BudgetKept s s.connect := by
  have relayed (h : HomeId) (t : State) : (t.closeRelay h).budget = t.budget := by
    unfold State.closeRelay
    split <;> rfl
  unfold State.connect
  split
  · exact .refl s
  · dsimp only
    split
    · exact .of_eq rfl
    · refine BudgetKept.trans ?_ (.of_eq ((relayed _ _).trans (State.emit_budget _ _)))
      refine BudgetKept.trans ?_ (State.hold_budgeted _ _)
      exact .of_eq rfl

theorem State.claimOut_budgeted (withdrawn : Bool) (s : State) : BudgetKept s (s.claimOut withdrawn) := by
  unfold State.claimOut
  split
  · exact .of_eq rfl
  · split
    · exact s.connect_budgeted
    · exact .refl s

@[simp] theorem State.quietOut_budget (q : QuietCall) (s : State) : (s.quietOut q).budget = s.budget := by
  have heard := s.hearQuiet_budget q.group q.ms
  unfold State.quietOut
  generalize s.hearQuiet q.group q.ms = heardState at heard ⊢
  dsimp only
  split <;> exact heard

@[simp] theorem State.nextStep_budget (s : State) : s.nextStep.budget = s.budget := by
  unfold State.nextStep
  split
  · rfl
  · split
    · unfold State.startStep
      split <;> rfl
    · exact s.endTest_budget _

@[simp] theorem State.completeStep_budget (st : TestStep) (ms : List Measurement) (s : State) :
    (s.completeStep st ms).budget = s.budget := State.nextStep_budget _

@[simp] theorem State.takeReading_budget (st : TestStep) (n : Nat) (v i ac : Word) (s : State) :
    (s.takeReading st n v i ac).budget = s.budget := by
  unfold State.takeReading
  dsimp only
  split
  · rfl
  · split <;> exact State.completeStep_budget ..

@[simp] theorem State.writeCancelled_budget (h : HomeId) (origin : Origin) (cause : SuspendCause)
    (meas : List Measurement) (s : State) : (s.writeCancelled h origin cause meas).budget = s.budget := by
  unfold State.writeCancelled
  split <;> rfl

@[simp] theorem State.fileTest_budget (c : CurrentTest) (s : State) : (s.fileTest c).budget = s.budget := by
  unfold State.fileTest
  split
  · rfl
  · split
    · exact State.writeCancelled_budget ..
    · rfl
  · rfl

@[simp] theorem State.releaseHome_budget (h : HomeId) (s : State) : (s.releaseHome h).budget = s.budget := by
  unfold State.releaseHome
  split
  · exact State.enterTraining_budget h _
  · rfl

@[simp] theorem State.releaseBus_budget (s : State) : s.releaseBus.budget = s.budget := by
  unfold State.releaseBus
  dsimp only
  split
  · exact State.tbusyFell_budget _
  · rfl

/-- A home disabled loses its queues (R13, R14). -/
theorem State.disableHome_budgeted (h : HomeId) (s : State) : BudgetKept s (s.disableHome h) := by
  have aborted : (s.abortForAdmin h).budget = s.budget := by
    unfold State.abortForAdmin
    split
    · split
      · rfl
      · exact s.endTest_budget _
    · rfl
  unfold State.disableHome
  split
  · exact .refl s
  · exact BudgetKept.trans (.of_eq aborted) (State.enterAdminDown_budgeted h _)

@[simp] theorem State.enableHome_budget (h : HomeId) (s : State) : (s.enableHome h).budget = s.budget := by
  unfold State.enableHome
  split <;> rfl

@[simp] theorem State.cancelEntry_budget (e : TestEntry) (s : State) : (s.cancelEntry e).budget = s.budget := by
  have removed (t : State) : (t.removedRecord e).budget = t.budget := by
    unfold State.removedRecord
    split
    · exact State.writeCancelled_budget ..
    · rfl
  unfold State.cancelEntry
  dsimp only
  rw [removed]
  split
  · exact s.withdrawClaim_budget none
  · rfl

@[simp] theorem State.cancelCurrent_budget (h : HomeId) (s : State) : (s.cancelCurrent h).budget = s.budget := by
  unfold State.cancelCurrent
  split
  · split
    · exact s.endTest_budget _
    · split <;> rfl
  · rfl

/-! ## Link reports (R5, R6, R8, R21) -/

@[simp] theorem State.linkLoss_budget (h : HomeId) (s : State) : (s.linkLoss h).budget = s.budget := by
  have counted (t : State) : (t.countLoss h).budget = t.budget := by
    unfold State.countLoss
    dsimp only
    split <;> rfl
  unfold State.linkLoss
  dsimp only
  split
  · rfl
  · exact counted _

@[simp] theorem State.applyLink_budget (h : HomeId) (st : LinkState) (s : State) :
    (s.applyLink h st).budget = s.budget := by
  unfold State.applyLink
  split
  case h_1 => exact s.enterTraining_budget h
  case h_2 => exact s.upFromDown_budget h
  case h_10 | h_11 =>
    split
    · rfl
    · exact s.linkLoss_budget h
  case h_12 | h_13 =>
    split
    · rfl
    · exact s.linkLoss_budget h
  all_goals rfl

/-! ## Calls (R61, R71, R73, R79) -/

@[simp] theorem State.loseContention_budget (s : State) : s.loseContention.budget = s.budget := by
  obtain ⟨c, q, w, e, -⟩ := s.withdrawContended_spec
  have lost : s.loseContention.budget = s.withdrawContended.budget := rfl
  rw [lost, e]
  rfl

/-- A call won may put a FLOOD into the burst in assembly (R73), and no UPDATA frame. -/
theorem State.win_budgeted (k : Contending) (s : State) : BudgetKept s (s.win k) := by
  have nothing : BudgetKept s s.winNothing := .of_eq s.loseContention_budget
  unfold State.win
  split
  case h_6 => exact .of_eq rfl
  case h_7 =>
    unfold State.callGateway
    split
    · dsimp only
      split
      · exact .of_noBurst rfl
      · exact .of_eq rfl
    · exact .of_noBurst rfl
  all_goals
    split
    · exact .of_eq rfl
    · exact nothing

theorem State.actOn_budgeted (o : CallOutcome) (c : OwnCall) (s : State) : BudgetKept s (s.actOn o c) := by
  unfold State.actOn
  split
  · exact s.sendBurst_budgeted
  · exact s.sendBurst_budgeted
  · exact s.failBurst_budgeted
  · exact s.failBurst_budgeted
  · exact .of_eq rfl
  · unfold State.orderOutcome
    split
    · dsimp only
      split <;> exact .of_eq rfl
    · exact .refl s
  · unfold State.reportOutcome
    split
    · refine BudgetKept.trans ?_ (State.restartIfLeft_budgeted _ _)
      exact .of_eq rfl
    · exact .refl s
  · exact .refl s

theorem State.endCall_budgeted (o : CallOutcome) (c : OwnCall) (s : State) : BudgetKept s (s.endCall o c) := by
  unfold State.endCall
  refine BudgetKept.trans ?_ (State.actOn_budgeted _ _ _)
  exact .of_eq rfl

theorem State.lastWordSent_budgeted (c : OwnCall) (s : State) : BudgetKept s (s.lastWordSent c) := by
  have left : BudgetKept s s.leaveCall := .of_eq rfl
  unfold State.lastWordSent State.wentOut
  split
  · exact .of_eq rfl
  · refine left.trans ?_
    split
    · exact State.claimOut_budgeted _ _
    · exact .of_eq (State.quietOut_budget _ _)
    · exact State.sendBurst_budgeted _
    · exact .refl _

theorem State.cutOwn_budgeted (reset : Bool) (s : State) : BudgetKept s (s.cutOwn reset) := by
  have failed : BudgetKept s s.leaveCall.failBurst := BudgetKept.trans (.of_eq rfl) s.leaveCall.failBurst_budgeted
  unfold State.cutOwn
  split
  · unfold State.cutCall
    dsimp only
    split
    · exact .of_eq rfl
    · exact .of_eq rfl
    · exact .of_eq rfl
    · exact failed
    · split
      · exact failed
      · exact s.endCall_budgeted _ _
    · split
      · exact failed
      · exact s.endCall_budgeted _ _
    · exact s.endCall_budgeted _ _
    · exact s.endCall_budgeted _ _
  · exact .of_eq s.loseContention_budget
  · exact .refl s

/-! ## The round boundary (R40, R42, R146) -/

/-- The flush of gateway loss empties the upstream queues (R40). -/
theorem State.lostRounds_budgeted (s : State) : BudgetKept s s.lostRounds := by
  have flushed (l : List HomeId) (t : State) : BudgetKept t (l.foldl (fun t h => t.freeUp .gatewayLost h) t) := by
    induction l generalizing t with
    | nil => exact .refl t
    | cons h l ih => exact (t.freeUp_budgeted .gatewayLost h).trans (ih _)
  unfold State.lostRounds
  split
  · exact .of_eq rfl
  · split
    · refine BudgetKept.trans ?_ (flushed homeIds _)
      exact .of_eq rfl
    · exact .of_eq rfl

@[simp] theorem State.roleChange_budget (wasWorking : Bool) (s : State) :
    (s.roleChange wasWorking).budget = s.budget := by
  unfold State.roleChange
  split
  · rfl
  · split <;> rfl

end Sys2Proof.Machine
end

section
/-! SUPPORT. Every command keeps the bound of the credit. -/

namespace Sys2Proof.Machine

/-- A command's answer keeps the bound of the credit. -/
def OutcomeBudgeted (s : State) : Host.Outcome State Fault Refusal → Prop
  | .next t => BudgetKept s t
  | .fault _ | .refused _ => True

/-- A command that ends in the examination and the standing requests. -/
theorem OutcomeBudgeted.settled {s t : State} (kept : BudgetKept s t) :
    OutcomeBudgeted s (.next (State.settle s t)) :=
  kept.trans (.of_eq (State.settle_budget s t))

/-- A command that ends so and shows no change in the view of the budget. -/
theorem OutcomeBudgeted.unseen {s t : State} (same : t.budget = s.budget) :
    OutcomeBudgeted s (.next (State.settle s t)) :=
  .settled (.of_eq same)

/-- A command that ends without them and shows no change in the view of the budget. -/
theorem OutcomeBudgeted.unsettled {s t : State} (same : t.budget = s.budget) : OutcomeBudgeted s (.next t) :=
  BudgetKept.of_eq same

/-! ## Line ports (R2, R5, R15, R16) -/

theorem execRateReport_budgeted (h : HomeId) (up down : Word) (s : State) :
    OutcomeBudgeted s (execRateReport h up down s) := by
  refine .unsettled ?_
  split <;> rfl

theorem execWakeFailure_budgeted (h : HomeId) (s : State) : OutcomeBudgeted s (execWakeFailure h s) := by
  refine .unseen ?_
  split
  · rfl
  · split <;> rfl

theorem execUpstreamFrame_budgeted (h : HomeId) (bytes : List Byte) (s : State) :
    OutcomeBudgeted s (execUpstreamFrame h bytes s) := by
  refine .settled ?_
  split
  case h_4 => exact State.takeUpstream_budgeted h bytes s.fresh
  all_goals exact .of_eq rfl

theorem execDownstreamGiveStart_budgeted (h : HomeId) (ready : Bool) (s : State) :
    OutcomeBudgeted s (execDownstreamGiveStart h ready s) := by
  refine .unsettled ?_
  split <;> rfl

theorem execDownstreamFrameTaken_budgeted (h : HomeId) (s : State) :
    OutcomeBudgeted s (execDownstreamFrameTaken h s) := by
  refine .unseen ?_
  split <;> rfl

/-! ## Mode requests (R7, R8, R173) -/

theorem execModeRequestFull_budgeted (h : HomeId) (s : State) : OutcomeBudgeted s (execModeRequestFull h s) := by
  refine .unseen ?_
  split <;> rfl

theorem execModeRequestLow_budgeted (h : HomeId) (s : State) : OutcomeBudgeted s (execModeRequestLow h s) := by
  refine .unseen ?_
  split <;> rfl

theorem execModeRequestSleep_budgeted (h : HomeId) (s : State) : OutcomeBudgeted s (execModeRequestSleep h s) := by
  refine .unseen ?_
  split <;> rfl

theorem execModeRequestWake_budgeted (h : HomeId) (s : State) : OutcomeBudgeted s (execModeRequestWake h s) := by
  refine .unseen ?_
  split <;> rfl

theorem execWakeWithdrawRequest_budgeted (h : HomeId) (s : State) :
    OutcomeBudgeted s (execWakeWithdrawRequest h s) := by
  refine .unseen ?_
  split <;> rfl

theorem execWakeAbandonRequest_budgeted (h : HomeId) (s : State) : OutcomeBudgeted s (execWakeAbandonRequest h s) := by
  refine .unseen ?_
  split <;> rfl

/-! ## STORM (R19, R20, R22) -/

@[simp] theorem State.stormRose_budget (s : State) : s.stormRose.budget = s.budget := State.suspend_budget .storm _

theorem execSurge_budgeted (h : HomeId) (s : State) : OutcomeBudgeted s (execSurge h s) := by
  refine .unseen ?_
  split
  · rfl
  · dsimp only
    split
    · rfl
    · exact State.stormRose_budget _

theorem execStormHoldExpiry_budgeted (s : State) : OutcomeBudgeted s (execStormHoldExpiry s) := by
  refine .unseen ?_
  split
  · dsimp only
    split <;> rfl
  · rfl

theorem execStormRise_budgeted (s : State) : OutcomeBudgeted s (execStormRise s) := by
  refine .unseen ?_
  split
  · rfl
  · exact State.stormRose_budget _

theorem execStormFall_budgeted (s : State) : OutcomeBudgeted s (execStormFall s) := by
  refine .unseen ?_
  split <;> rfl

/-! ## The cabinet bus -/

theorem execCbBsyRise_budgeted (s : State) : OutcomeBudgeted s (execCbBsyRise s) := by
  refine .unsettled ?_
  split <;> rfl

theorem execContendStart_budgeted (s : State) : OutcomeBudgeted s (execContendStart s) := by
  refine .unsettled ?_
  split <;> rfl

theorem execContendMidpoint_budgeted (d8 : Bool) (s : State) : OutcomeBudgeted s (execContendMidpoint d8 s) := by
  refine .unseen ?_
  split
  · exact State.loseContention_budget s.fresh
  · rfl

theorem execContendWindowEnd_budgeted (ids : Byte) (s : State) : OutcomeBudgeted s (execContendWindowEnd ids s) := by
  have lost : BudgetKept s s.fresh.loseContention := .of_eq (State.loseContention_budget s.fresh)
  refine .settled ?_
  split
  · split
    · exact lost
    · exact .of_eq rfl
    · split
      · exact State.win_budgeted _ s.fresh
      · exact lost
    · exact .of_eq rfl
  · exact .of_eq rfl

theorem execCallWord_budgeted (w : Word) (parity : Bool) (s : State) : OutcomeBudgeted s (execCallWord w parity s) := by
  have taken : (s.fresh.takeCall w).budget = s.budget := by
    unfold State.takeCall
    dsimp only
    split
    · split <;> rfl
    · rfl
  refine .unseen ?_
  split
  · split
    · rfl
    · split
      · rfl
      · exact taken
  · rfl

theorem execAnswerWord_budgeted (w : Word) (parity : Bool) (s : State) :
    OutcomeBudgeted s (execAnswerWord w parity s) := by
  refine .settled ?_
  split
  · split
    · split
      · split
        · exact State.startTransfer_budgeted _ _ s.fresh
        · split <;> exact State.endCall_budgeted _ _ s.fresh
      · exact State.endCall_budgeted _ _ s.fresh
    · split <;> exact .of_eq rfl
    · exact .of_eq rfl
  · exact .of_eq rfl

theorem execAnswerWindowExpiry_budgeted (s : State) : OutcomeBudgeted s (execAnswerWindowExpiry s) := by
  refine .settled ?_
  split
  · exact State.endCall_budgeted _ _ s.fresh
  · exact .of_eq rfl

theorem execCloseWord_budgeted (w : Word) (parity : Bool) (s : State) :
    OutcomeBudgeted s (execCloseWord w parity s) := by
  refine .settled ?_
  split
  · split <;> exact State.endCall_budgeted _ _ s.fresh
  · split <;> exact .of_eq rfl
  · exact .of_eq rfl

theorem execCloseWindowExpiry_budgeted (s : State) : OutcomeBudgeted s (execCloseWindowExpiry s) := by
  refine .settled ?_
  split
  · exact State.endCall_budgeted _ _ s.fresh
  · exact .of_eq rfl

theorem execTransferWordSent_budgeted (s : State) : OutcomeBudgeted s (execTransferWordSent s) := by
  refine .settled ?_
  split
  · split
    · exact .of_eq rfl
    · dsimp only
      split
      · refine BudgetKept.trans ?_ (State.lastWordSent_budgeted _ _)
        exact .of_eq rfl
      · exact .of_eq rfl
  · exact .of_eq rfl

theorem execTransferWordReceived_budgeted (w : Word) (parity : Bool) (s : State) :
    OutcomeBudgeted s (execTransferWordReceived w parity s) := by
  refine .unseen ?_
  split
  · rw [State.closeIfComplete_budget, State.takeWord_budget]
    rfl
  · rfl

theorem execBadCloseTimeout_budgeted (s : State) : OutcomeBudgeted s (execBadCloseTimeout s) := by
  refine .unseen ?_
  split
  · split <;> rfl
  · rfl

theorem execCbBsyFall_budgeted (s : State) : OutcomeBudgeted s (execCbBsyFall s) := by
  refine .settled ?_
  split
  · exact .of_eq rfl
  · refine BudgetKept.trans ?_ ((State.cutOwn_budgeted false _).trans (.of_eq rfl))
    exact .of_eq ((State.endReception_budget _).trans rfl)

theorem execBusReset_budgeted (s : State) : OutcomeBudgeted s (execBusReset s) := by
  refine .settled ?_
  split
  · exact .of_eq rfl
  · refine BudgetKept.trans ?_ ((State.cutOwn_budgeted true _).trans (.of_eq rfl))
    exact .of_eq (State.cutReception_budget s.fresh)

theorem execBusWatchdogExpiry_budgeted (s : State) : OutcomeBudgeted s (execBusWatchdogExpiry s) := by
  refine .unsettled ?_
  split <;> rfl

theorem execQuietGap_budgeted (s : State) : OutcomeBudgeted s (execQuietGap s) := by
  refine .unsettled ?_
  split <;> rfl

theorem execSelfCheckStart_budgeted (s : State) : OutcomeBudgeted s (execSelfCheckStart s) := by
  refine .unsettled ?_
  split <;> rfl

theorem execSelfCheckEnd_budgeted (readBack : List (Word × Bool)) (s : State) :
    OutcomeBudgeted s (execSelfCheckEnd readBack s) := by
  refine .unseen ?_
  split
  · exact (State.reply_budget _ _ _).trans rfl
  · rfl

/-! ## Peers, claims, quiets -/

theorem execNoticeHeard_budgeted (caller : StationId) (n : Notice) (s : State) :
    OutcomeBudgeted s (execNoticeHeard caller n s) := by
  refine .unseen ?_
  split <;> rfl

theorem execClaimHeard_budgeted (caller : StationId) (h : HomeId) (g : Group) (s : State) :
    OutcomeBudgeted s (execClaimHeard caller h g s) := by
  refine .unseen ?_
  split
  · exact State.withdrawClaim_budget (some caller) _
  · split
    · exact State.endTest_budget _ _
    · rfl

theorem execQuietHeard_budgeted (g : Group) (ms : Word) (s : State) : OutcomeBudgeted s (execQuietHeard g ms s) :=
  .unseen ((State.hearQuiet_budget _ _ _).trans rfl)

theorem execClaimWithdrawalSettled_budgeted (s : State) : OutcomeBudgeted s (execClaimWithdrawalSettled s) := by
  refine .settled ?_
  split
  · split
    · exact .of_eq rfl
    · dsimp only
      split
      · refine BudgetKept.trans ?_ (State.connect_budgeted _)
        exact .of_eq rfl
      · split
        · exact .of_eq (State.examine_budget _)
        · exact .of_eq rfl
  · exact .of_eq rfl

theorem execTbusyRise_budgeted (s : State) : OutcomeBudgeted s (execTbusyRise s) := by
  refine .unseen ?_
  split
  · exact State.withdrawClaim_budget none _
  · rfl

theorem execTbusyFall_budgeted (s : State) : OutcomeBudgeted s (execTbusyFall s) := by
  refine .unseen ?_
  split
  · exact State.tbusyFell_budget _
  · rfl

/-! ## The round boundary, credit, moves (R40, R112, R121) -/

theorem execRoundBoundary_budgeted (s : State) : OutcomeBudgeted s (execRoundBoundary s) := by
  have viewed : BudgetKept s s.fresh.upsBoundary.choose.watches := .of_eq rfl
  have counted := viewed.trans (State.lostRounds_budgeted _)
  have latched (t : State) : BudgetKept t (t.roleChange s.working).latch := .of_eq (State.roleChange_budget s.working t)
  have shared := counted.trans ((latched _).trans (.of_eq (State.shareBoundary_budget _)))
  exact .settled (shared.trans (.of_eq (State.examine_budget _)))

theorem execCreditIntervalEnd_budgeted (s : State) : OutcomeBudgeted s (execCreditIntervalEnd s) :=
  .settled fun fit => fit.addCredit s.shc.s

theorem execMove_budgeted (s : State) : OutcomeBudgeted s (execMove s) := by
  refine .settled ?_
  split
  · rename_i running
    exact State.moveOnce_budgeted (s := s.fresh) (State.credit_pos_of_moveNow running)
  · exact .of_eq rfl

/-! ## The gateway -/

theorem execUplinkStateChange_budgeted (up : Bool) (s : State) : OutcomeBudgeted s (execUplinkStateChange up s) := by
  have cut (t : State) : t.cutGiving.budget = t.budget := by
    unfold State.cutGiving
    split
    · rfl
    · rfl
    · exact t.dropGiven_budget
  refine .unseen ?_
  split
  · exact cut _
  · rfl

theorem execTransmitterStart_budgeted (s : State) : OutcomeBudgeted s (execTransmitterStart s) := by
  refine .unsettled ?_
  split
  · split
    · split <;> rfl
    · rfl
  · rfl

theorem execUplinkFrameTaken_budgeted (s : State) : OutcomeBudgeted s (execUplinkFrameTaken s) := by
  refine .settled ?_
  split
  · exact .of_eq rfl
  · unfold State.queueFrameSent
    split
    · exact .of_eq rfl
    · exact .of_eq (State.dropGiven_budget s.fresh)
  · refine BudgetKept.trans ?_ (State.restartIfLeft_budgeted _ _)
    exact .of_eq rfl

theorem execUplinkFrameReceived_budgeted (bytes : List Byte) (err : Bool) (s : State) :
    OutcomeBudgeted s (execUplinkFrameReceived bytes err s) := by
  have managed (t : State) : (t.manage bytes).budget = t.budget := by
    unfold State.manage
    split
    · rfl
    · dsimp only
      split
      · rfl
      · split
        · rfl
        · unfold State.offerOrder
          split <;> rfl
  refine .unseen ?_
  split
  · rfl
  · split
    · rfl
    · dsimp only
      split
      · exact managed _
      · exact State.routeFrame_budget _ _

theorem execAddressAgeTick_budgeted (s : State) : OutcomeBudgeted s (execAddressAgeTick s) := by
  refine .unsettled ?_
  split <;> rfl

theorem execManagementOrderHandoff_budgeted (s : State) : OutcomeBudgeted s (execManagementOrderHandoff s) := by
  refine .unseen ?_
  split
  · split <;> rfl
  · rfl

theorem execOwnReportPass_budgeted (s : State) : OutcomeBudgeted s (execOwnReportPass s) := by
  refine .unseen ?_
  split
  · dsimp only
    split <;> rfl
  · rfl

/-! ## Power lines and timers (R106, R169, R179) -/

theorem execMainsOkFall_budgeted (s : State) : OutcomeBudgeted s (execMainsOkFall s) := by
  refine .unseen ?_
  split
  · rw [State.powerRound_budget, State.enterLow_budget]
    rfl
  · rfl

theorem execBattLowRise_budgeted (s : State) : OutcomeBudgeted s (execBattLowRise s) := by
  refine .unseen ?_
  split
  · rfl
  · rw [State.powerRound_budget, State.enterLow_budget]
    rfl

theorem execMainsOkRise_budgeted (s : State) : OutcomeBudgeted s (execMainsOkRise s) := by
  refine .unseen ?_
  split <;> rfl

theorem execWakeTimeLimit_budgeted (h : HomeId) (s : State) : OutcomeBudgeted s (execWakeTimeLimit h s) := by
  refine .unseen ?_
  split <;> rfl

/-! ## Orders (R182) -/

/-- An order carried out keeps the bound of the credit if its own effect does (R182). -/
theorem State.execute_budgeted {code args : Nat} {homeArg : Bool} {f : Order → State → State} (s : State)
    (effect : ∀ o t, BudgetKept t (f o t)) :
    OutcomeBudgeted s (.next (State.settle s (s.execute code args homeArg f))) := by
  refine .settled ?_
  unfold State.execute
  dsimp only
  split
  · split
    · exact .of_eq (State.reply_budget _ _ s.fresh)
    · exact effect _ s.fresh
  · exact .of_eq rfl

/-- A reply after what the view does not show. -/
theorem State.reply_budgeted {s t : State} (r : Result) (d : ReplyData) (same : t.budget = s.budget) :
    BudgetKept s (t.reply r d) :=
  .of_eq ((State.reply_budget r d t).trans same)

theorem execOrderStart_budgeted (s : State) : OutcomeBudgeted s (execOrderStart s) := by
  refine .unseen ?_
  split
  · split <;> rfl
  · rfl

theorem execLineStatus_budgeted (s : State) : OutcomeBudgeted s (execLineStatus s) := by
  refine State.execute_budgeted s fun o t => ?_
  split <;> exact State.reply_budgeted _ _ rfl

theorem execReadCounters_budgeted (s : State) : OutcomeBudgeted s (execReadCounters s) := by
  refine State.execute_budgeted s fun o t => ?_
  split
  · exact State.reply_budgeted _ _ rfl
  · have replied (d : ReplyData) : BudgetKept t (t.reply .done d) := State.reply_budgeted .done d rfl
    dsimp only
    split
    · exact (replied _).trans (.of_eq rfl)
    · exact replied _

theorem execSetTier_budgeted (s : State) : OutcomeBudgeted s (execSetTier s) :=
  State.execute_budgeted s fun _ _ => State.reply_budgeted _ _ rfl

/-- LINE_ADMIN: a home disabled loses its queues (R13, R14). -/
theorem execLineAdmin_budgeted (s : State) : OutcomeBudgeted s (execLineAdmin s) := by
  refine State.execute_budgeted s fun o t => ?_
  dsimp only
  split
  · exact State.reply_budgeted _ _ rfl
  · split
    · exact State.reply_budgeted _ _ rfl
    · refine BudgetKept.trans ?_ (State.reply_budgeted _ _ rfl)
      split
      · exact t.disableHome_budgeted _
      · exact .of_eq (t.enableHome_budget _)

theorem execTestLine_budgeted (s : State) : OutcomeBudgeted s (execTestLine s) := by
  refine State.execute_budgeted s fun o t => ?_
  dsimp only
  split
  · exact State.reply_budgeted _ _ rfl
  · split
    · exact State.reply_budgeted _ _ rfl
    · split <;> exact State.reply_budgeted _ _ rfl

theorem execCancelTest_budgeted (s : State) : OutcomeBudgeted s (execCancelTest s) := by
  refine State.execute_budgeted s fun o t => State.reply_budgeted _ _ ?_
  rw [State.cancelCurrent_budget]
  split
  · exact t.cancelEntry_budget _
  · rfl

theorem execReadResults_budgeted (s : State) : OutcomeBudgeted s (execReadResults s) :=
  State.execute_budgeted s fun _ _ => State.reply_budgeted _ _ (by rfl)

theorem execStageVolumeStep_budgeted (s : State) : OutcomeBudgeted s (execStageVolumeStep s) := by
  refine State.execute_budgeted s fun o t => ?_
  dsimp only
  split <;> exact State.reply_budgeted _ _ rfl

theorem execClearVolumeSteps_budgeted (s : State) : OutcomeBudgeted s (execClearVolumeSteps s) :=
  State.execute_budgeted s fun _ _ => State.reply_budgeted _ _ rfl

theorem execNewAccountingPeriod_budgeted (s : State) : OutcomeBudgeted s (execNewAccountingPeriod s) :=
  State.execute_budgeted s fun _ _ => State.reply_budgeted _ _ rfl

theorem execWriteFilter_budgeted (s : State) : OutcomeBudgeted s (execWriteFilter s) := by
  refine State.execute_budgeted s fun o t => ?_
  dsimp only
  split
  · exact State.reply_budgeted _ _ rfl
  · split
    · exact State.reply_budgeted _ _ rfl
    · split <;> exact State.reply_budgeted _ _ rfl

theorem execFilterEnable_budgeted (s : State) : OutcomeBudgeted s (execFilterEnable s) := by
  refine State.execute_budgeted s fun o t => ?_
  dsimp only
  split <;> exact State.reply_budgeted _ _ rfl

theorem execReadPeers_budgeted (s : State) : OutcomeBudgeted s (execReadPeers s) :=
  State.execute_budgeted s fun _ _ => State.reply_budgeted _ _ rfl

theorem execBusSelfCheck_budgeted (s : State) : OutcomeBudgeted s (execBusSelfCheck s) := by
  refine State.execute_budgeted s fun o t => ?_
  split <;> exact .of_eq rfl

theorem execRestart_budgeted (s : State) : OutcomeBudgeted s (execRestart s) :=
  State.execute_budgeted s fun _ t => .of_eq (State.reply_budget .done .restarting t)

theorem execUnknownOrder_budgeted (s : State) : OutcomeBudgeted s (execUnknownOrder s) :=
  State.execute_budgeted s fun _ _ => State.reply_budgeted _ _ rfl

theorem execRestartLimitExpiry_budgeted (s : State) : OutcomeBudgeted s (execRestartLimitExpiry s) := by
  refine .settled ?_
  split
  · exact State.softRestart_budgeted _ s
  · exact .of_eq rfl

/-! ## Test steps -/

theorem execRelaySettleEnd_budgeted (s : State) : OutcomeBudgeted s (execRelaySettleEnd s) := by
  refine .unseen ?_
  split
  · split
    · rfl
    · exact State.nextStep_budget _
  · rfl

theorem execQuietSettleEnd_budgeted (s : State) : OutcomeBudgeted s (execQuietSettleEnd s) := by
  refine .unseen ?_
  split
  · exact State.nextStep_budget _
  · rfl

theorem execStepSettleEnd_budgeted (s : State) : OutcomeBudgeted s (execStepSettleEnd s) := by
  refine .unsettled ?_
  split <;> rfl

theorem execHeadReadResponse_budgeted (v i ac : Word) (ready : Bool) (s : State) :
    OutcomeBudgeted s (execHeadReadResponse v i ac ready s) := by
  refine .unseen ?_
  split
  · split
    · exact State.takeReading_budget _ _ v i ac s.fresh
    · rfl
  · rfl

theorem execHeadReadTimeout_budgeted (s : State) : OutcomeBudgeted s (execHeadReadTimeout s) := by
  refine .unseen ?_
  split
  · exact State.endTest_budget _ s.fresh
  · rfl

theorem execCrossRise_budgeted (s : State) : OutcomeBudgeted s (execCrossRise s) := by
  refine .unsettled ?_
  split <;> rfl

theorem execCrossFall_budgeted (s : State) : OutcomeBudgeted s (execCrossFall s) := by
  refine .unseen ?_
  split
  · exact State.completeStep_budget _ _ _
  · rfl

theorem execCapTimeout_budgeted (s : State) : OutcomeBudgeted s (execCapTimeout s) := by
  refine .unseen ?_
  split
  · exact State.completeStep_budget _ _ _
  · exact State.completeStep_budget _ _ _
  · rfl

theorem execReleaseSettleEnd_budgeted (s : State) : OutcomeBudgeted s (execReleaseSettleEnd s) := by
  refine .unseen ?_
  split
  · refine (State.fileTest_budget _ _).trans ((State.releaseBus_budget _).trans ?_)
    split
    · rfl
    · exact State.releaseHome_budget _ s.fresh
  · rfl

/-! ## Every command, every step -/

theorem exec_budgeted (c : Instr) (s : State) : OutcomeBudgeted s (exec c s) := by
  cases c with
  | powerOn pins => exact startUp_budgeted s _ _ _
  | linkStateReport h st => exact .unseen (State.applyLink_budget h st _)
  | rateReport h up down => exact execRateReport_budgeted h up down s
  | wakeFailure h => exact execWakeFailure_budgeted h s
  | upstreamFrame h bytes => exact execUpstreamFrame_budgeted h bytes s
  | downstreamGiveStart h ready => exact execDownstreamGiveStart_budgeted h ready s
  | downstreamFrameTaken h => exact execDownstreamFrameTaken_budgeted h s
  | modeRequestFull h => exact execModeRequestFull_budgeted h s
  | modeRequestLow h => exact execModeRequestLow_budgeted h s
  | modeRequestSleep h => exact execModeRequestSleep_budgeted h s
  | modeRequestWake h => exact execModeRequestWake_budgeted h s
  | wakeWithdrawRequest h => exact execWakeWithdrawRequest_budgeted h s
  | wakeAbandonRequest h => exact execWakeAbandonRequest_budgeted h s
  | surge h => exact execSurge_budgeted h s
  | stormHoldExpiry => exact execStormHoldExpiry_budgeted s
  | stormRise => exact execStormRise_budgeted s
  | stormFall => exact execStormFall_budgeted s
  | cbBsyRise => exact execCbBsyRise_budgeted s
  | contendStart => exact execContendStart_budgeted s
  | contendMidpoint d8 => exact execContendMidpoint_budgeted d8 s
  | contendWindowEnd ids => exact execContendWindowEnd_budgeted ids s
  | callWord w parity => exact execCallWord_budgeted w parity s
  | answerWord w parity => exact execAnswerWord_budgeted w parity s
  | answerWindowExpiry => exact execAnswerWindowExpiry_budgeted s
  | transferWordSent => exact execTransferWordSent_budgeted s
  | transferWordReceived w parity => exact execTransferWordReceived_budgeted w parity s
  | badCloseTimeout => exact execBadCloseTimeout_budgeted s
  | closeWord w parity => exact execCloseWord_budgeted w parity s
  | closeWindowExpiry => exact execCloseWindowExpiry_budgeted s
  | cbBsyFall => exact execCbBsyFall_budgeted s
  | noticeHeard caller n => exact execNoticeHeard_budgeted caller n s
  | claimHeard caller h g => exact execClaimHeard_budgeted caller h g s
  | quietHeard g ms => exact execQuietHeard_budgeted g ms s
  | claimWithdrawalSettled => exact execClaimWithdrawalSettled_budgeted s
  | quietGap => exact execQuietGap_budgeted s
  | busWatchdogExpiry => exact execBusWatchdogExpiry_budgeted s
  | busReset => exact execBusReset_budgeted s
  | selfCheckStart => exact execSelfCheckStart_budgeted s
  | selfCheckEnd readBack => exact execSelfCheckEnd_budgeted readBack s
  | roundBoundary => exact execRoundBoundary_budgeted s
  | creditIntervalEnd => exact execCreditIntervalEnd_budgeted s
  | move => exact execMove_budgeted s
  | uplinkStateChange up => exact execUplinkStateChange_budgeted up s
  | transmitterStart => exact execTransmitterStart_budgeted s
  | uplinkFrameTaken => exact execUplinkFrameTaken_budgeted s
  | uplinkFrameReceived bytes err => exact execUplinkFrameReceived_budgeted bytes err s
  | addressAgeTick => exact execAddressAgeTick_budgeted s
  | managementOrderHandoff => exact execManagementOrderHandoff_budgeted s
  | ownReportPass => exact execOwnReportPass_budgeted s
  | orderStart => exact execOrderStart_budgeted s
  | lineStatus => exact execLineStatus_budgeted s
  | readCounters => exact execReadCounters_budgeted s
  | setTier => exact execSetTier_budgeted s
  | lineAdmin => exact execLineAdmin_budgeted s
  | testLine => exact execTestLine_budgeted s
  | cancelTest => exact execCancelTest_budgeted s
  | readResults => exact execReadResults_budgeted s
  | stageVolumeStep => exact execStageVolumeStep_budgeted s
  | clearVolumeSteps => exact execClearVolumeSteps_budgeted s
  | newAccountingPeriod => exact execNewAccountingPeriod_budgeted s
  | writeFilter => exact execWriteFilter_budgeted s
  | filterEnable => exact execFilterEnable_budgeted s
  | readPeers => exact execReadPeers_budgeted s
  | busSelfCheck => exact execBusSelfCheck_budgeted s
  | restart => exact execRestart_budgeted s
  | unknownOrder => exact execUnknownOrder_budgeted s
  | restartLimitExpiry => exact execRestartLimitExpiry_budgeted s
  | relaySettleEnd => exact execRelaySettleEnd_budgeted s
  | quietSettleEnd => exact execQuietSettleEnd_budgeted s
  | stepSettleEnd => exact execStepSettleEnd_budgeted s
  | headReadResponse v i ac ready => exact execHeadReadResponse_budgeted v i ac ready s
  | headReadTimeout => exact execHeadReadTimeout_budgeted s
  | crossRise => exact execCrossRise_budgeted s
  | crossFall => exact execCrossFall_budgeted s
  | capTimeout => exact execCapTimeout_budgeted s
  | releaseSettleEnd => exact execReleaseSettleEnd_budgeted s
  | tbusyRise => exact execTbusyRise_budgeted s
  | tbusyFall => exact execTbusyFall_budgeted s
  | mainsOkFall => exact execMainsOkFall_budgeted s
  | mainsOkRise => exact execMainsOkRise_budgeted s
  | battLowRise => exact execBattLowRise_budgeted s
  | wakeTimeLimit h => exact execWakeTimeLimit_budgeted h s
  | quietEndExpiry g => exact .unseen (State.endQuiet_budget s.fresh g)
  | holdTimeLimit => exact .unseen (State.endTest_budget _ s.fresh)
  | activity | battLowFall | idleTimerExpiry => exact .unseen rfl
  | excuseWindowExpiry => exact .unsettled rfl

theorem step_budgeted {s t : State} (stepped : step s = .next t) : BudgetKept s t := by
  unfold step at stepped
  split at stepped
  · cases stepped
    exact .of_eq rfl
  · rename_i c rest _
    have kept := exec_budgeted c { s with pending := rest }
    rw [stepped] at kept
    exact kept

/-- Settles O54: every command and the tick lead from a view of the budget within the bound to one within it. -/
theorem creditBoundKept : Obligations.CreditBoundKept :=
  fun s t bounded stepped => (budgetFits_iff t).mp (step_budgeted stepped ((budgetFits_iff s).mpr bounded))

end Sys2Proof.Machine
end

section
/-! SUPPORT. The address table: its free numbers, its order, its oldest entry, and what an age tick and an offered source
address do to it. -/

namespace Sys2Proof.Machine

/-! ## Free numbers (R134, R135) -/

/-- A table that is not full leaves one of its 512 numbers free: its entries are too few to hold them all. -/
theorem exists_number_free {t : List AddrEntry} (room : t.length < 512) : ∃ n < 512, ∀ e ∈ t, e.num ≠ n := by
  by_contra! taken
  have all : List.range 512 ⊆ t.map AddrEntry.num := fun n below => by
    simpa using taken n (List.mem_range.mp below)
  have many : 512 ≤ t.length := by simpa using (List.subperm_of_subset List.nodup_range all).length_le
  omega

/-- What the search for a free number answers in a table with a free number of at most 512: the lowest one. -/
theorem freeNumber_spec {t : List AddrEntry} {n : Nat} (bound : n < 513) (free : ∀ e ∈ t, e.num ≠ n) :
    freeNumber t ≤ n ∧ (∀ e ∈ t, e.num ≠ freeNumber t) ∧ ∀ k < freeNumber t, ∃ e ∈ t, e.num = k := by
  unfold freeNumber
  cases found : (List.range 513).find? fun n => !t.any fun e => e.num == n with
  | none =>
    have taken : ∃ e ∈ t, e.num = n := by simpa using List.find?_eq_none.mp found n (List.mem_range.mpr bound)
    obtain ⟨e, member, same⟩ := taken
    exact absurd same (free e member)
  | some m =>
    obtain ⟨unused, -, taken⟩ := List.find?_range_eq_some.mp found
    have lower : ∀ k < m, ∃ e ∈ t, e.num = k := by simpa using taken
    refine ⟨?_, by simpa using unused, lower⟩
    by_contra! above
    obtain ⟨e, member, same⟩ := lower n above
    exact free e member same

/-- A table that is not full gives the lowest of its free numbers, one of 0 to 511. -/
theorem freeNumber_of_room {t : List AddrEntry} (room : t.length < 512) :
    freeNumber t < 512 ∧ (∀ e ∈ t, e.num ≠ freeNumber t) ∧ ∀ k < freeNumber t, ∃ e ∈ t, e.num = k := by
  obtain ⟨n, bound, free⟩ := exists_number_free room
  obtain ⟨lowest, unused, lower⟩ := freeNumber_spec (by omega) free
  exact ⟨by omega, unused, lower⟩

/-! ## The order of the table -/

/-- Putting an entry in its place is the library's insertion by number. -/
theorem insertEntry_eq_orderedInsert (e : AddrEntry) (t : List AddrEntry) :
    insertEntry e t = t.orderedInsert (fun x y => x.num < y.num) e := by
  induction t with
  | nil => rfl
  | cons x rest ih => simp only [insertEntry, List.orderedInsert, ih]

theorem insertEntry_perm (e : AddrEntry) (t : List AddrEntry) : (insertEntry e t).Perm (e :: t) :=
  insertEntry_eq_orderedInsert e t ▸ List.perm_orderedInsert _ e t

@[simp] theorem mem_insertEntry {x e : AddrEntry} {t : List AddrEntry} : x ∈ insertEntry e t ↔ x = e ∨ x ∈ t := by
  rw [(insertEntry_perm e t).mem_iff, List.mem_cons]

/-- An entry with a number of its own keeps the table in the order of the numbers. -/
theorem insertEntry_sorted {e : AddrEntry} {t : List AddrEntry} (sorted : (t.map AddrEntry.num).Pairwise (· < ·))
    (unused : ∀ x ∈ t, x.num ≠ e.num) : ((insertEntry e t).map AddrEntry.num).Pairwise (· < ·) := by
  rw [List.pairwise_map] at sorted ⊢
  induction t with
  | nil => exact List.pairwise_singleton _ e
  | cons x rest ih =>
    obtain ⟨first, ordered⟩ := List.pairwise_cons.mp sorted
    obtain ⟨other, others⟩ := List.forall_mem_cons.mp unused
    unfold insertEntry
    split
    · rename_i before
      exact List.pairwise_cons.mpr ⟨List.forall_mem_cons.mpr ⟨before, fun y hy => before.trans (first y hy)⟩, sorted⟩
    · rename_i notBefore
      have after : x.num < e.num := by omega
      refine List.pairwise_cons.mpr ⟨fun y hy => ?_, ih ordered others⟩
      obtain rfl | old := mem_insertEntry.mp hy
      · exact after
      · exact first y old

/-! ## The oldest entry (R135) -/

theorem oldestEntry_eq_none_iff {t : List AddrEntry} : oldestEntry t = none ↔ t = [] := by
  cases t with
  | nil => simp [oldestEntry]
  | cons x rest =>
    simp only [oldestEntry, reduceCtorEq, iff_false]
    split
    · exact nofun
    · split <;> exact nofun

/-- The oldest entry stands in the table; no entry is older, and none of its age has a lower number. -/
theorem oldestEntry_spec {t : List AddrEntry} {o : AddrEntry} (oldest : oldestEntry t = some o) :
    o ∈ t ∧ ∀ e ∈ t, e.age ≤ o.age ∧ (e.age = o.age → o.num ≤ e.num) := by
  induction t generalizing o with
  | nil => cases oldest
  | cons x rest ih =>
    unfold oldestEntry at oldest
    cases best : oldestEntry rest with
    | none =>
      obtain rfl := oldestEntry_eq_none_iff.mp best
      obtain rfl : x = o := by simpa [best] using oldest
      simp
    | some y =>
      obtain ⟨member, bounds⟩ := ih best
      simp only [best] at oldest
      split at oldest <;> obtain rfl := Option.some.inj oldest <;> rename_i order
      · refine ⟨List.mem_cons_of_mem _ member, List.forall_mem_cons.mpr ⟨by omega, bounds⟩⟩
      · refine ⟨List.mem_cons_self, List.forall_mem_cons.mpr ⟨by omega, fun e he => ?_⟩⟩
        have := bounds e he
        omega

/-! ## Learning (R135) -/

theorem Gwu.learn_of_group {a : Addr} (group : groupBit a = true) (st : StationId) (h : HomeId) (g : Gwu) :
    g.learn a st h = g :=
  if_pos group

/-- A known source: its entry takes the station and the home of the frame and is young again; another one than before
counts as a move. -/
theorem Gwu.learn_of_known {a : Addr} {g : Gwu} {e : AddrEntry} (unicast : groupBit a = false)
    (known : g.table.find? (fun e => e.addr == a) = some e) (st : StationId) (h : HomeId) :
    g.learn a st h = { g with
      table := g.table.map fun x => if x.addr = a then ⟨x.num, a, st, h, 0⟩ else x
      ctr := if e.station = st ∧ e.home = h then g.ctr else { g.ctr with moves := sat32 g.ctr.moves 1 } } := by
  simp [Gwu.learn, unicast, known]

theorem Gwu.learn_of_unknown {a : Addr} {g : Gwu} (unicast : groupBit a = false) (unknown : ∀ e ∈ g.table, e.addr ≠ a)
    (st : StationId) (h : HomeId) : g.learn a st h = g.learnNew a st h := by
  have absent : g.table.find? (fun e => e.addr == a) = none := by simpa using unknown
  simp [Gwu.learn, unicast, absent]

theorem Gwu.learnNew_of_room {g : Gwu} (room : g.table.length < 512) (a : Addr) (st : StationId) (h : HomeId) :
    g.learnNew a st h = { g with
      table := insertEntry ⟨freeNumber g.table, a, st, h, 0⟩ g.table
      ctr := { g.ctr with learned := sat32 g.ctr.learned 1 } } :=
  if_pos room

/-- A full table: the oldest entry gives its place up from age 60 on; a younger one stays, and the source is not learned. -/
theorem Gwu.learnNew_of_full {g : Gwu} {o : AddrEntry} (full : 512 ≤ g.table.length)
    (oldest : oldestEntry g.table = some o) (a : Addr) (st : StationId) (h : HomeId) :
    g.learnNew a st h =
      if 60 ≤ o.age then { g with
        table := g.table.map fun e => if e.num = o.num then ⟨e.num, a, st, h, 0⟩ else e
        ctr := { g.ctr with
          learned := sat32 g.ctr.learned 1, replacements := sat32 g.ctr.replacements 1 } }
      else { g with ctr := { g.ctr with notLearned := sat32 g.ctr.notLearned 1 } } := by
  unfold Gwu.learnNew
  rw [if_neg full.not_gt, oldest]

end Sys2Proof.Machine
end

section
namespace Sys2Proof.Machine

/-! ## The address table learns and ages (R134 to R136) -/

/-- ADDRESS_AGE_TICK (R136): at the working gateway every entry ages by one, and those that reach 300 leave and are
counted. -/
theorem exec_addressAgeTick (s : State) :
    exec .addressAgeTick s = .next (
      if s.pvw.role = .active then { s with
        out := []
        gwu := { s.gwu with
          table := ageTable s.gwu.table, tickStart := s.now
          ctr := { s.gwu.ctr with
            agedOut := sat32 s.gwu.ctr.agedOut (s.gwu.table.length - (ageTable s.gwu.table).length) } } }
      else { s with out := [] }) := by
  simp only [← s.working_iff]
  rfl

/-- Settles O42: the tick by its equation, learning by one equation for each case, and what the free number, the
insertion and the search for the oldest entry answer. -/
theorem addressTableLearnsAndAges : Obligations.AddressTableLearnsAndAges := by
  refine ⟨exec_addressAgeTick, fun a st h g => ⟨?group, ?known, ?room, ?full, ?free, ?order, ?empty, ?oldest⟩⟩
  case group => exact fun group => Gwu.learn_of_group group st h g
  case known => exact fun unicast e known => Gwu.learn_of_known unicast known st h
  case room =>
    intro unicast unknown room
    rw [Gwu.learn_of_unknown unicast unknown, Gwu.learnNew_of_room room]
  case full =>
    intro unicast unknown full o oldest
    rw [Gwu.learn_of_unknown unicast unknown, Gwu.learnNew_of_full full oldest]
  case free => exact freeNumber_of_room
  case order => exact fun e => ⟨insertEntry_perm e g.table, insertEntry_sorted⟩
  case empty => exact oldestEntry_eq_none_iff
  case oldest => exact fun o => oldestEntry_spec

end Sys2Proof.Machine
end

section
/-! SUPPORT. Measurements: the conditions that their verdict reads, and the room that the log makes for a record. -/

namespace Sys2Proof

/-! ## Conditions on measurements (R162) -/

theorem measured_eq_any (ms : List Measurement) (k : MeasureKind) (p : Int → Bool) :
    measured ms k p = (ms.find? fun m => m.kind == k).any fun m => p m.value := by
  unfold measured valueOf
  cases ms.find? fun m => m.kind == k <;> rfl

/-- A condition applies to the first measurement of its kind, and to none where the kind is not held. -/
theorem measured_iff (ms : List Measurement) (k : MeasureKind) (p : Int → Prop) [DecidablePred p] :
    measured ms k (fun v => decide (p v)) = true ↔ ∃ m, (ms.find? fun m => m.kind == k) = some m ∧ p m.value := by
  simp only [measured_eq_any, Option.any_eq_true, decide_eq_true_eq]

/-- A resistance within the range is a quotient, and the value of the OPEN and of the over-range flag is the range's end
(R160). -/
theorem resistance_eq (k : MeasureKind) (v i : Word) :
    resistance k v i =
      if i.toInt.natAbs < 2 then ⟨k, 100000000, true, false⟩
      else if 100000000 < v.toInt.natAbs * 1000000 / i.toInt.natAbs then ⟨k, 100000000, false, true⟩
      else ⟨k, (v.toInt.natAbs * 1000000 / i.toInt.natAbs : Nat), false, false⟩ :=
  rfl

end Sys2Proof

namespace Sys2Proof.Machine

/-! ## Room in the log (R167) -/

theorem Ten.makeRoom_of_room {t : Ten} (room : t.log.length < 16) : t.makeRoom = (t, []) :=
  if_pos room

/-- A full log gives up its oldest record that has been read. -/
theorem Ten.makeRoom_of_read {t : Ten} (full : 16 ≤ t.log.length) (read : ∃ x ∈ t.log, x.read = true) :
    t.makeRoom = ({ t with log := t.log.eraseP ResultRecord.read }, []) := by
  unfold Ten.makeRoom
  rw [if_neg full.not_gt, if_pos (List.any_eq_true.mpr read)]

/-- A full log with no record read loses its oldest one, which is told. -/
theorem Ten.makeRoom_of_unread {t : Ten} {x : ResultRecord} {q : List ResultRecord} (log : t.log = x :: q)
    (full : 16 ≤ t.log.length) (unread : ∀ y ∈ t.log, y.read = false) :
    t.makeRoom = ({ t with log := q, lost := sat32 t.lost 1 }, [.resultsLost x.number]) := by
  have noneRead : ¬ t.log.any ResultRecord.read = true := by simpa using unread
  unfold Ten.makeRoom
  rw [if_neg full.not_gt, if_neg noneRead, log]

/-- A record goes behind those that the log keeps, and its TEST_DONE behind what the eviction tells (R166, R167). -/
theorem State.writeRecord_of_makeRoom {s : State} {log : List ResultRecord} {lost : Nat} {told : List Event}
    (room : s.ten.makeRoom = ({ s.ten with log := log, lost := lost }, told))
    (h : HomeId) (origin : Origin) (outcome : TestOutcome) (split : Bool) (meas : List Measurement) :
    s.writeRecord h origin outcome split meas = { s with
      ten := { s.ten with
        lost := lost, recordNo := (s.ten.recordNo + 1) % 256
        log := log ++ [⟨s.ten.recordNo, h, origin, outcome, split, inRecordOrder meas,
          loopOf s.cfg.cable (inRecordOrder meas), verdictOf (inRecordOrder meas), false⟩] }
      orh := (told.foldl (fun o e => o.offer e) s.orh).offer
        (.testDone s.ten.recordNo h outcome (verdictOf (inRecordOrder meas))) } := by
  simp only [State.writeRecord, room, List.foldl_append, List.foldl_cons, List.foldl_nil]

/-! ## Readings, verdicts and records (R160 to R162, R166, R167) -/

/-- Settles O50: the resistance by its equation, the verdict by the first condition that applies, the record by the room
that the log makes. -/
theorem measurementsJudgedAndRecorded : Obligations.MeasurementsJudgedAndRecorded := by
  refine ⟨resistance_eq, fun ms => ?verdict, fun h origin outcome split meas s => ?record⟩
  case verdict =>
    intro has foreign short leaky opened
    simp only [verdictOf, List.isEmpty_iff, Bool.or_eq_true, or_assoc, measured_iff]
    refine ⟨fun empty => if_pos empty, fun held foreign => ?_, fun held noForeign short => ?_,
      fun held noForeign noShort leaky => ?_, fun held noForeign noShort noLeak opened => ?_,
      fun held noForeign noShort noLeak closed => ?_⟩
    · rw [if_neg held, if_pos foreign]
    · rw [if_neg held, if_neg noForeign, if_pos short]
    · rw [if_neg held, if_neg noForeign, if_neg noShort, if_pos leaky]
    · rw [if_neg held, if_neg noForeign, if_neg noShort, if_neg noLeak, if_pos opened]
    · rw [if_neg held, if_neg noForeign, if_neg noShort, if_neg noLeak, if_neg closed]
  case record =>
    intro ms r wrote
    refine ⟨fun room => ?_, fun full read => ?_, fun x q log full unread => ?_⟩
    · exact State.writeRecord_of_makeRoom (Ten.makeRoom_of_room room) h origin outcome split meas
    · exact State.writeRecord_of_makeRoom (Ten.makeRoom_of_read full read) h origin outcome split meas
    · exact State.writeRecord_of_makeRoom (Ten.makeRoom_of_unread log full unread) h origin outcome split meas

end Sys2Proof.Machine
end

section
/-! SUPPORT. The CAP step's end: the measurements that a completed step enters, and the count of microseconds that a fall
of CROSS takes. -/

namespace Sys2Proof.Machine

/-! ## The measurements that a step enters (R157, R159) -/

theorem State.startStep_meas (st : TestStep) (s : State) :
    (s.startStep st).ten.current.map CurrentTest.meas = s.ten.current.map CurrentTest.meas := by
  cases st <;> simp [State.startStep, State.updTest, State.emit, Function.comp_def]

theorem State.endTest_meas (outcome : TestOutcome) (s : State) :
    (s.endTest outcome).ten.current.map CurrentTest.meas = s.ten.current.map CurrentTest.meas := by
  rw [State.endTest_eq]
  split
  · simp [State.enterReleasing, Function.comp_def]
  · rfl

/-- Neither the beginning of a step nor the end of the test touches what is measured. -/
theorem State.nextStep_meas (s : State) :
    s.nextStep.ten.current.map CurrentTest.meas = s.ten.current.map CurrentTest.meas := by
  unfold State.nextStep
  split
  · rfl
  · split
    · exact State.startStep_meas ..
    · exact State.endTest_meas ..

theorem finishStep_meas (st : TestStep) (ms : List Measurement) (c : CurrentTest) :
    (finishStep st ms c).meas = c.meas ++ ms := by
  unfold finishStep
  dsimp only
  split <;> rfl

/-- A completed step enters its measurements behind those held, in danger or not. -/
theorem State.completeStep_meas (st : TestStep) (ms : List Measurement) (s : State) :
    (s.completeStep st ms).ten.current.map CurrentTest.meas = s.ten.current.map fun c => c.meas ++ ms := by
  rw [State.completeStep, State.nextStep_meas]
  simp [State.updTest, Function.comp_def, finishStep_meas]

/-! ## The fall of CROSS (R159, R161) -/

/-- The timer counts the microseconds from the rise to the fall, and no count is below 0: a rise later than the clock
gives the count 0. -/
theorem exec_crossFall_of_capTiming {s : State} {c : CurrentTest} {since rise : Nat}
    (current : s.ten.current = some c) (phase : c.phase = .capTiming since rise) (measuring : s.ten.state = .measuring) :
    exec .crossFall s = .next (State.settle s
      ((s.fresh.emit [.headSource .off]).completeStep .cap [capacitance (s.now - rise)])) := by
  have waits : s.ten.current.map CurrentTest.phase = some (.capTiming since rise) := by rw [current, ← phase]; rfl
  rw [exec, execCrossFall, measuring, waits]

/-- Where the rise is not later than the clock, as when CROSS_RISE has stamped it, the count is the difference of the two
times also as integers. -/
theorem capacitance_of_le {now rise : Nat} (after : rise ≤ now) :
    capacitance (now - rise) = ⟨.capTR, min (2 * ((now : Int) - rise)) 1000000, false, false⟩ := by
  rw [capacitance, Nat.cast_sub after]

/-- A CAP timing whose rise is stamped 1 microsecond after a clock that shows 0. -/
def riseAhead : CurrentTest :=
  { home := 0, set := ⟨false, false, true⟩, quiet := false, origin := .order, firstOrigin := .order, split := false
    phase := .capTiming 0 1, meas := [], part := [], cut := false, outcome := none, cause := none, cancelled := false }

/-- A station at time 0 in MEASURING with `riseAhead`. -/
def State.riseAhead : State :=
  { State.reset with ten := { State.reset.ten with state := .measuring, current := some Machine.riseAhead } }

/-- Refutes O48: its CROSS_FALL clause subtracts the rise from the clock as integers, so at time 0 with the rise at 1 it
asks for a capacitance of -2 pF; the model's count is a natural number, and it enters 0 pF. The clause speaks of all
states, and in those with the rise at or before the clock it agrees with the model (`capacitance_of_le`). -/
theorem not_testStepsRunInOrder : ¬ Obligations.TestStepsRunInOrder := by
  rintro ⟨-, -, steps, -⟩
  obtain ⟨-, -, -, -, -, -, -, -, -, -, timing, -⟩ := steps State.riseAhead riseAhead rfl
  obtain ⟨-, -, claimed⟩ := timing 0 1 rfl rfl
  have entered := exec_crossFall_of_capTiming (s := State.riseAhead) (c := riseAhead) rfl rfl rfl
  have same := congrArg (fun s : State => s.ten.current.map CurrentTest.meas)
    (Host.Outcome.next.inj (entered.symm.trans claimed))
  simp only [(State.settle_ten _ _).2.1, State.completeStep_meas] at same
  exact absurd same (by decide)

end Sys2Proof.Machine
end

section
/-! SUPPORT. The entry to TRAINING on battery, judged on the spare power. -/

namespace Sys2Proof.Machine

/-! ## The spare of an entry to TRAINING (R175) -/

/-- What an entry to TRAINING finds taken: the other homes' costs, and the part of P_test that counts (R175). -/
def State.usedBeside (h : HomeId) (s : State) : Nat := s.otherCosts h + s.testClaim

/-- The part of P_test that an entry to TRAINING counts, by the test state (R175). -/
theorem State.testClaim_eq (s : State) : s.testClaim =
    if s.ten.state = .claiming ∨ s.ten.state = .connecting ∨ s.ten.state = .measuring ∨
      (s.bhu.reserve = true ∧ (s.ten.state = .deferred ∨ s.ten.state = .waiting)) then s.cfg.pTest else 0 := by
  unfold State.testClaim
  simp only [State.testHolding_iff, or_assoc]

theorem State.enterTraining_of_mains {h : HomeId} {s : State} (mains : s.power = .mains) :
    s.enterTraining h = s.moveTo .training h := by
  unfold State.enterTraining
  exact if_pos mains

/-- On battery a home trains if the spare pays for a full link (R175). -/
theorem State.enterTraining_of_spare {h : HomeId} {s : State} (battery : s.power = .battery)
    (fits : s.usedBeside h + s.cfg.pFull ≤ s.shc.a.getD 0) : s.enterTraining h = s.moveTo .training h := by
  unfold State.enterTraining
  dsimp only
  rw [if_neg (by simp [battery])]
  exact if_pos ⟨battery, fits⟩

/-- Off mains a home whose link the spare does not pay for goes to SLEEP if the spare pays for that (R175). -/
theorem State.enterTraining_of_floor {h : HomeId} {s : State} (charged : s.power ≠ .mains)
    (short : ¬(s.power = .battery ∧ s.usedBeside h + s.cfg.pFull ≤ s.shc.a.getD 0))
    (fits : s.usedBeside h + s.cfg.pSleep ≤ s.shc.a.getD 0) :
    s.enterTraining h = (s.moveTo .training h).toSleep h := by
  unfold State.enterTraining
  dsimp only
  rw [if_neg charged]
  exact (if_neg short).trans (if_pos fits)

/-- Off mains a home whose sleep the spare does not pay for goes to SLEEP with a power calculation (R175). -/
theorem State.enterTraining_of_nothing {h : HomeId} {s : State} (charged : s.power ≠ .mains)
    (short : ¬(s.power = .battery ∧ s.usedBeside h + s.cfg.pFull ≤ s.shc.a.getD 0))
    (beyond : s.shc.a.getD 0 < s.usedBeside h + s.cfg.pSleep) :
    s.enterTraining h = ((s.moveTo .training h).toSleep h).powerRound := by
  unfold State.enterTraining
  dsimp only
  rw [if_neg charged]
  exact (if_neg short).trans (if_neg (Nat.not_le.mpr beyond))

/-- Settles O9: one equation of the entry for each range of the spare. -/
theorem trainingAdmittedOnSparePower : Obligations.TrainingAdmittedOnSparePower := by
  intro h s others test a asleep
  have used : s.usedBeside h = others + test := by
    rw [State.usedBeside, State.testClaim_eq]
    rfl
  rw [← used]
  exact ⟨State.enterTraining_of_mains, State.enterTraining_of_spare, State.enterTraining_of_floor,
    State.enterTraining_of_nothing⟩

end Sys2Proof.Machine
end

section
/-! SUPPORT. The view of the purse: what the bound of section 10.2 reads of a state, home by home with the requests that
wait for each. -/

namespace Sys2Proof

/-- The power costs are ordered (R186). -/
structure Cfg.Ordered (c : Cfg) : Prop where
  low : c.pSleep ≤ c.pLow
  full : c.pLow ≤ c.pFull

theorem Cfg.Ordered.modeCost_le {c : Cfg} (ordered : c.Ordered) (m : Mode) : c.modeCost m ≤ c.pFull := by
  obtain ⟨low, full⟩ := ordered
  cases m <;> simp only [Cfg.modeCost] <;> omega

theorem Cfg.Ordered.le_modeCost {c : Cfg} (ordered : c.Ordered) (m : Mode) : c.pSleep ≤ c.modeCost m := by
  obtain ⟨low, full⟩ := ordered
  cases m <;> simp only [Cfg.modeCost] <;> omega

/-- A home in a state that is not paid for costs nothing (R170). -/
theorem homeCost_of_unpaid (c : Cfg) {st : Service} (ret : Option Mode) (unpaid : st.paid = false) :
    c.homeCost st ret = 0 := by
  cases st
  case unequipped | adminDown | down | testHeld => rfl
  all_goals cases unpaid

theorem Cfg.Ordered.homeCost_le {c : Cfg} (ordered : c.Ordered) (st : Service) (ret : Option Mode) :
    c.homeCost st ret ≤ c.pFull := by
  have quiet := ordered.modeCost_le (ret.getD .full)
  obtain ⟨low, full⟩ := ordered
  cases st <;> simp only [Cfg.homeCost] <;> omega

/-- A home that is paid for costs at least P_sleep (R107, R170). -/
theorem Cfg.Ordered.le_homeCost {c : Cfg} (ordered : c.Ordered) {st : Service} (ret : Option Mode) (paid : st.paid = true) :
    c.pSleep ≤ c.homeCost st ret := by
  have quiet := ordered.le_modeCost (ret.getD .full)
  obtain ⟨low, full⟩ := ordered
  cases st
  case unequipped | adminDown | down | testHeld => cases paid
  all_goals simp only [Cfg.homeCost]; omega

end Sys2Proof

namespace Sys2Proof.Machine

/-! ## The requests that wait for a home (R173) -/

/-- The requests of a list that wait for a home; a wake abandon shows in no cost and stands apart (log 7). -/
def sentTo (l : List (ModeRequest × HomeId)) (h : HomeId) : List ModeRequest :=
  l.filterMap fun r => if r.2 = h ∧ r.1 ≠ .abandon then some r.1 else none

@[simp] theorem sentTo_nil (h : HomeId) : sentTo [] h = [] := rfl

theorem sentTo_cons (r : ModeRequest × HomeId) (l : List (ModeRequest × HomeId)) (h : HomeId) :
    sentTo (r :: l) h = if r.2 = h ∧ r.1 ≠ .abandon then r.1 :: sentTo l h else sentTo l h := by
  unfold sentTo
  rw [List.filterMap_cons]
  split <;> split <;> simp_all

@[simp] theorem sentTo_append (l k : List (ModeRequest × HomeId)) (h : HomeId) :
    sentTo (l ++ k) h = sentTo l h ++ sentTo k h := List.filterMap_append

theorem mem_sentTo {l : List (ModeRequest × HomeId)} {h : HomeId} {r : ModeRequest} :
    r ∈ sentTo l h ↔ (r, h) ∈ l ∧ r ≠ .abandon := by
  unfold sentTo
  rw [List.mem_filterMap]
  constructor
  · rintro ⟨⟨q, k⟩, mem, e⟩
    obtain ⟨⟨here, real⟩, same⟩ := Option.ite_none_right_eq_some.mp e
    cases same
    exact ⟨here ▸ mem, real⟩
  · rintro ⟨mem, real⟩
    exact ⟨(r, h), mem, if_pos ⟨rfl, real⟩⟩

/-- The requests of one kind for one home are taken away (R173, R176). -/
theorem sentTo_filter (p : ModeRequest × HomeId → Bool) (l : List (ModeRequest × HomeId)) (h : HomeId) :
    sentTo (l.filter p) h = (sentTo l h).filter fun r => p (r, h) := by
  induction l with
  | nil => rfl
  | cons x l ih =>
    obtain ⟨r, k⟩ := x
    rw [List.filter_cons, sentTo_cons]
    by_cases here : k = h ∧ r ≠ .abandon
    · have kept : p (r, h) = p (r, k) := by rw [here.1]
      rw [if_pos here, List.filter_cons, ← ih, kept]
      split
      · rw [sentTo_cons, if_pos here]
      · rfl
    · rw [if_neg here, ← ih]
      split
      · rw [sentTo_cons, if_neg here]
      · rfl

/-- A request taken leaves those of its home (R173). -/
theorem sentTo_erase_self (l : List (ModeRequest × HomeId)) (r : ModeRequest) (h : HomeId) :
    sentTo (l.erase (r, h)) h = (sentTo l h).erase r := by
  induction l with
  | nil => rfl
  | cons x l ih =>
    obtain ⟨q, k⟩ := x
    rw [List.erase_cons, sentTo_cons]
    by_cases same : (q, k) = (r, h)
    · cases same
      rw [if_pos (beq_self_eq_true _)]
      by_cases real : r = .abandon
      · subst real
        rw [if_neg (fun e => e.2 rfl), List.erase_of_not_mem fun mem => (mem_sentTo.mp mem).2 rfl]
      · rw [if_pos ⟨rfl, real⟩, List.erase_cons_head]
    · rw [if_neg (by simpa using same), sentTo_cons, ih]
      split
      · rename_i here
        have other : q ≠ r := fun e => same (Prod.ext e here.1)
        rw [List.erase_cons_tail (by simpa using other)]
      · rfl

theorem sentTo_erase_of_ne {h k : HomeId} (l : List (ModeRequest × HomeId)) (r : ModeRequest) (ne : k ≠ h) :
    sentTo (l.erase (r, h)) k = sentTo l k := by
  induction l with
  | nil => rfl
  | cons x l ih =>
    rw [List.erase_cons]
    split
    · rename_i same
      rw [beq_iff_eq.mp same, sentTo_cons, if_neg fun e => ne e.1.symm]
    · rw [sentTo_cons, sentTo_cons, ih]

/-- A home is sent at most one request when no home stands twice among those that have one. -/
theorem nodup_requests_iff (l : List (ModeRequest × HomeId)) :
    ((l.filter fun r => r.1 != .abandon).map Prod.snd).Nodup ↔ ∀ h, (sentTo l h).length ≤ 1 := by
  have count (h : HomeId) : List.count h ((l.filter fun r => r.1 != .abandon).map Prod.snd) = (sentTo l h).length := by
    induction l with
    | nil => rfl
    | cons x l ih =>
      rw [List.filter_cons, sentTo_cons]
      by_cases real : x.1 = .abandon
      · rw [if_neg (by simp [real]), if_neg fun e => e.2 real, ih]
      · rw [if_pos (by simpa using real), List.map_cons, List.count_cons, ih]
        by_cases here : x.2 = h <;> simp [here, real]
  rw [List.nodup_iff_count_le_one]
  exact forall_congr' fun h => by rw [count]

/-! ## What a home will cost (R170, R173) -/

/-- A home as its spending shows it: service state, return mode, and the requests sent to it and not taken. -/
@[ext] structure Spender where
  service : Service
  ret : Option Mode
  sent : List ModeRequest

/-- The service state and return mode that the requests sent will leave (log 7). -/
def Spender.left (x : Spender) : Service × Option Mode := x.sent.foldl (fun p r => applyRequest r p) (x.service, x.ret)

/-- What a home costs once its requests are taken. -/
def Spender.cost (c : Cfg) (x : Spender) : Nat := c.homeCost x.left.1 x.left.2

/-- A home with its requests, as a state shows it. -/
def State.spender (s : State) (h : HomeId) : Spender := ⟨s.service h, (s.home h).ret, sentTo s.bhu.requests h⟩

theorem State.projected_eq (s : State) (h : HomeId) : s.projected h = (s.spender h).left := by
  have folded (l : List (ModeRequest × HomeId)) (p : Service × Option Mode) :
      l.foldl (fun p r => if r.2 = h then applyRequest r.1 p else p) p =
        (sentTo l h).foldl (fun p r => applyRequest r p) p := by
    induction l generalizing p with
    | nil => rfl
    | cons x l ih =>
      rw [List.foldl_cons, ih, sentTo_cons]
      by_cases here : x.2 = h
      · by_cases abandon : x.1 = .abandon
        · rw [if_pos here, if_neg fun e => e.2 abandon, abandon]
          rfl
        · rw [if_pos here, if_pos ⟨here, abandon⟩]
          rfl
      · rw [if_neg here, if_neg fun e => here e.1]
  exact folded _ _

theorem State.costLeft_eq (s : State) (h : HomeId) : s.costLeft h = (s.spender h).cost s.cfg := by
  unfold State.costLeft
  rw [State.projected_eq]
  rfl

/-! ## Costs of single homes (R170) -/

/-- A request leaves a home paid for or not, as it was (R7, R8). -/
theorem paid_applyRequest (r : ModeRequest) (p : Service × Option Mode) : (applyRequest r p).1.paid = p.1.paid := by
  obtain ⟨st, ret⟩ := p
  cases r <;> cases st <;> rfl

theorem Spender.paid_left (x : Spender) : x.left.1.paid = x.service.paid := by
  obtain ⟨st, ret, sent⟩ := x
  unfold Spender.left
  induction sent generalizing st ret with
  | nil => rfl
  | cons r sent ih =>
    rw [List.foldl_cons]
    exact (ih (applyRequest r (st, ret)).1 (applyRequest r (st, ret)).2).trans (paid_applyRequest r (st, ret))

theorem Spender.cost_le_full {c : Cfg} (ordered : c.Ordered) (x : Spender) : x.cost c ≤ c.pFull := ordered.homeCost_le _ _

theorem Spender.le_cost {c : Cfg} (ordered : c.Ordered) {x : Spender} (paid : x.service.paid = true) :
    c.pSleep ≤ x.cost c :=
  ordered.le_homeCost _ (x.paid_left.trans paid)

theorem Spender.cost_of_unpaid (c : Cfg) {x : Spender} (unpaid : x.service.paid = false) : x.cost c = 0 :=
  homeCost_of_unpaid c _ (x.paid_left.trans unpaid)

/-- A request other than a WAKE finds a sleeping home in SLEEP, and leaves it there (R7, R173). -/
theorem applyRequest_asleep {r : ModeRequest} (ret : Option Mode) (stays : r ≠ .wake) :
    applyRequest r (.sleep, ret) = (.sleep, ret) := by
  cases r
  case wake => exact absurd rfl stays
  all_goals rfl

/-- A sleeping home without a WAKE on its way costs P_sleep. -/
theorem Spender.cost_asleep (c : Cfg) {ret : Option Mode} {sent : List ModeRequest} (stays : .wake ∉ sent) :
    Spender.cost c ⟨.sleep, ret, sent⟩ = c.pSleep := by
  have left : Spender.left ⟨.sleep, ret, sent⟩ = (.sleep, ret) := by
    unfold Spender.left
    induction sent with
    | nil => rfl
    | cons r sent ih =>
      obtain ⟨first, rest⟩ := not_or.mp (mt List.mem_cons.mpr stays)
      rw [List.foldl_cons]
      dsimp only
      rw [applyRequest_asleep ret (Ne.symm first)]
      exact ih rest
  unfold Spender.cost
  rw [left]
  rfl

end Sys2Proof.Machine
end

section
/-! SUPPORT. The view of the purse and its transitions: a home that enters a service state, a test that lets the bus go. -/

namespace Sys2Proof.Machine

/-- What the bound of section 10.2 reads of a state. -/
@[ext] structure Purse where
  homes : HomeId → Spender
  queue : List HomeId
  power : PowerMode
  a : Option Nat
  cfg : Cfg
  holds : Bool
  waits : Bool

/-- The head entry waits for the bus or claims it (R150). -/
def TestState.waits : TestState → Bool
  | .waiting | .claiming => true
  | _ => false

/-- The view of the purse that a state shows. -/
def State.purse (s : State) : Purse :=
  { homes := s.spender, queue := s.bhu.wakeQ, power := s.power, a := s.shc.a, cfg := s.cfg, holds := s.testHolding
    waits := TestState.waits s.ten.state }

/-- The line cost that the requests sent leave (R170, log 7). -/
def Purse.lineCost (V : Purse) : Nat := (homeIds.map fun h => (V.homes h).cost V.cfg).sum

/-- The line cost with P_test for a test that holds the bus (section 10.2). -/
def Purse.spending (V : Purse) : Nat := V.lineCost + if V.holds then V.cfg.pTest else 0

/-- The spending stays within the allowance on battery, with what keeps it so; the test that waits stands apart, in
`Purse.Powered`. -/
structure Purse.Fits (V : Purse) : Prop where
  distinct : V.queue.Nodup
  asleep : ∀ h ∈ V.queue, (V.homes h).service = .sleep
  wakes : ∀ h, .wake ∈ (V.homes h).sent → (V.homes h).service = .sleep
  ordered : V.cfg.Ordered
  single : V.power ≠ .mains → ∀ h, (V.homes h).sent.length ≤ 1
  within : V.power ≠ .mains → ∃ a, V.a = some a ∧ V.spending ≤ a
  low : V.power = .batteryLow → V.holds = false

/-- A test that waits or claims on battery has its power (R150). -/
def Purse.Powered (V : Purse) : Prop :=
  V.waits = true → V.power ≠ .mains → V.power = .battery ∧ V.lineCost + V.cfg.pTest ≤ V.a.getD 0

/-! ## The view and the invariant -/

theorem State.lineCostLeft_eq (s : State) : s.lineCostLeft = s.purse.lineCost := by
  unfold State.lineCostLeft Purse.lineCost
  exact congrArg List.sum (List.map_congr_left fun h _ => s.costLeft_eq h)

theorem State.spending_eq (s : State) : s.spending = s.purse.spending := by
  unfold State.spending
  rw [State.lineCostLeft_eq]
  rfl

theorem TestState.waits_iff (st : TestState) : TestState.waits st = true ↔ st = .waiting ∨ st = .claiming := by
  cases st <;> simp [TestState.waits]

/-- The power case of R150 finds its power (R150). -/
theorem State.examPowerShort_iff {s : State} (battery : s.power = .battery) :
    s.examPowerShort = false ↔ s.purse.lineCost + s.cfg.pTest ≤ s.shc.a.getD 0 := by
  unfold State.examPowerShort
  rw [battery, State.lineCostLeft_eq]
  simp

theorem State.powered_iff (s : State) : s.purse.Powered ↔
    (s.power ≠ .mains → (s.ten.state = .waiting ∨ s.ten.state = .claiming) →
      s.power = .battery ∧ s.examPowerShort = false) := by
  rw [← TestState.waits_iff]
  constructor
  · intro powered charged waits
    obtain ⟨battery, power⟩ := powered waits charged
    exact ⟨battery, (State.examPowerShort_iff battery).mpr power⟩
  · intro powered waits charged
    obtain ⟨battery, power⟩ := powered charged waits
    exact ⟨battery, (State.examPowerShort_iff battery).mp power⟩

theorem spendingWithinAllowance_iff (s : State) :
    SpendingWithinAllowance s ↔ s.purse.Fits ∧ s.purse.Powered := by
  have wakes (h : HomeId) : .wake ∈ (s.spender h).sent ↔ (.wake, h) ∈ s.bhu.requests := by
    simp [State.spender, mem_sentTo]
  rw [State.powered_iff]
  constructor
  · rintro ⟨⟨distinct, asleep⟩, woken, ⟨low, full⟩, charged⟩
    refine ⟨⟨distinct, asleep, fun h mem => woken h ((wakes h).mp mem), ⟨low, full⟩, fun battery => ?_, fun battery => ?_,
      fun runsLow => ?_⟩, fun battery => (charged battery).2.2.2⟩
    · exact (nodup_requests_iff _).mp (charged battery).2.1
    · obtain ⟨a, present, within⟩ := (charged battery).1
      exact ⟨a, present, s.spending_eq ▸ within⟩
    · have battery : s.power ≠ .mains := by
        intro mains
        cases mains.symm.trans runsLow
      exact (charged battery).2.2.1 runsLow
  · rintro ⟨⟨distinct, asleep, woken, ⟨low, full⟩, single, within, runsLow⟩, powered⟩
    refine ⟨⟨distinct, asleep⟩, fun h mem => woken h ((wakes h).mpr mem), ⟨low, full⟩, fun battery => ⟨?_, ?_, runsLow,
      powered battery⟩⟩
    · obtain ⟨a, present, bound⟩ := within battery
      exact ⟨a, present, s.spending_eq ▸ bound⟩
    · exact (nodup_requests_iff _).mpr (single battery)

/-! ## One home changes -/

/-- A sum over the homes is one home's part and the others'. -/
theorem sum_homes (f : HomeId → Nat) (h : HomeId) :
    (homeIds.map f).sum = f h + ((homeIds.filter fun k => k != h).map f).sum := by
  have split := List.perm_cons_erase (mem_homeIds h)
  rw [nodup_homeIds.erase_eq_filter h] at split
  rw [(split.map f).sum_eq, List.map_cons, List.sum_cons]

/-- One home's record replaced; it stays in the wake queue only in SLEEP (R176). -/
def Purse.put (h : HomeId) (x : Spender) (V : Purse) : Purse :=
  { V with
    homes := Function.update V.homes h x
    queue := if x.service = .sleep then V.queue else V.queue.erase h }

@[simp] theorem Purse.homes_put_self (h : HomeId) (x : Spender) (V : Purse) : (V.put h x).homes h = x := by
  simp [Purse.put]

theorem Purse.homes_put_of_ne {h k : HomeId} (x : Spender) (V : Purse) (ne : k ≠ h) : (V.put h x).homes k = V.homes k := by
  simp [Purse.put, ne]

/-- What the homes other than one cost. -/
def Purse.others (h : HomeId) (V : Purse) : Nat :=
  ((homeIds.filter fun k => k != h).map fun k => (V.homes k).cost V.cfg).sum

theorem Purse.lineCost_eq (h : HomeId) (V : Purse) : V.lineCost = (V.homes h).cost V.cfg + V.others h := sum_homes _ h

@[simp] theorem Purse.others_put (h : HomeId) (x : Spender) (V : Purse) : (V.put h x).others h = V.others h := by
  unfold Purse.others Purse.put
  refine congrArg List.sum (List.map_congr_left fun k mem => ?_)
  have other : k ≠ h := by simpa using (List.mem_filter.mp mem).2
  simp [other]

theorem Purse.lineCost_put (h : HomeId) (x : Spender) (V : Purse) : (V.put h x).lineCost = x.cost V.cfg + V.others h := by
  rw [Purse.lineCost_eq h, Purse.others_put]
  simp [Purse.put]

/-- A home's record changes to one that the allowance pays for. -/
theorem Purse.Fits.put {V : Purse} (fit : V.Fits) {h : HomeId} {x : Spender}
    (wakes : .wake ∈ x.sent → x.service = .sleep)
    (pays : V.power ≠ .mains → x.sent.length ≤ 1 ∧ ∀ a, V.a = some a → (V.put h x).spending ≤ a) : (V.put h x).Fits := by
  have elsewhere (p : Spender → Prop) (new : p x) (old : ∀ k, p (V.homes k)) (k : HomeId) :
      p (Function.update V.homes h x k) := by
    by_cases here : k = h
    · subst here
      simpa using new
    · simpa [here] using old k
  refine ⟨?_, fun k mem => ?_, elsewhere (fun y => .wake ∈ y.sent → y.service = .sleep) wakes fit.wakes, fit.ordered, fun battery => ?_, fun battery => ?_, fit.low⟩
  · unfold Purse.put
    dsimp only
    split
    · exact fit.distinct
    · exact fit.distinct.erase h
  · unfold Purse.put at mem ⊢
    dsimp only at mem ⊢
    by_cases here : k = h
    · subst here
      split at mem
      · simpa
      · exact absurd mem fit.distinct.not_mem_erase
    · have queued : k ∈ V.queue := by
        split at mem
        · exact mem
        · exact List.mem_of_mem_erase mem
      simpa [here] using fit.asleep k queued
  · exact elsewhere (fun y => y.sent.length ≤ 1) (pays battery).1 (fit.single battery)
  · obtain ⟨a, present, -⟩ := fit.within battery
    exact ⟨a, present, (pays battery).2 a present⟩

/-- A home's record changes to one that costs no more. -/
theorem Purse.Fits.put_cheaper {V : Purse} (fit : V.Fits) {h : HomeId} {x : Spender}
    (wakes : .wake ∈ x.sent → x.service = .sleep)
    (cheaper : V.power ≠ .mains → x.sent.length ≤ 1 ∧ x.cost V.cfg ≤ (V.homes h).cost V.cfg) : (V.put h x).Fits := by
  refine fit.put wakes fun battery => ⟨(cheaper battery).1, fun a present => ?_⟩
  obtain ⟨b, same, within⟩ := fit.within battery
  cases present.symm.trans same
  have less := (cheaper battery).2
  unfold Purse.spending at within ⊢
  rw [Purse.lineCost_put]
  rw [Purse.lineCost_eq h] at within
  change x.cost V.cfg + V.others h + (if V.holds then V.cfg.pTest else 0) ≤ a
  omega

/-! ## A home enters a service state -/

/-- A home in another service state: no WAKE waits for it but in SLEEP (R173, log 59). -/
def Spender.enter (st : Service) (ret : Option Mode) (x : Spender) : Spender :=
  ⟨st, ret, if st = .sleep then x.sent else x.sent.filter fun r => r != .wake⟩

/-- A home that enters a service state with a return mode. -/
def Purse.enter (h : HomeId) (st : Service) (ret : Option Mode) (V : Purse) : Purse :=
  V.put h ((V.homes h).enter st ret)

/-- A home's return mode alone changes. -/
def Purse.setRet (h : HomeId) (ret : Option Mode) (V : Purse) : Purse :=
  { V with homes := Function.update V.homes h { V.homes h with ret := ret } }

theorem Purse.enter_setRet (h : HomeId) (st : Service) (m ret : Option Mode) (V : Purse) :
    (V.setRet h m).enter h st ret = V.enter h st ret := by
  have same : ((V.setRet h m).homes h).enter st ret = (V.homes h).enter st ret := by simp [Purse.setRet, Spender.enter]
  unfold Purse.enter
  rw [same]
  simp [Purse.put, Purse.setRet]

@[simp] theorem Purse.homes_setRet_self (h : HomeId) (m : Option Mode) (V : Purse) :
    (V.setRet h m).homes h = { V.homes h with ret := m } := by
  simp [Purse.setRet]

theorem Purse.homes_setRet_of_ne {h k : HomeId} (m : Option Mode) (V : Purse) (ne : k ≠ h) :
    (V.setRet h m).homes k = V.homes k := by
  simp [Purse.setRet, ne]

theorem Spender.wakes_enter {st : Service} {ret : Option Mode} {x : Spender} (waits : .wake ∈ (x.enter st ret).sent) :
    (x.enter st ret).service = .sleep := by
  unfold Spender.enter at waits ⊢
  dsimp only at waits ⊢
  split at waits
  · assumption
  · simp at waits

theorem Spender.length_enter_le (st : Service) (ret : Option Mode) (x : Spender) :
    (x.enter st ret).sent.length ≤ x.sent.length := by
  unfold Spender.enter
  dsimp only
  split
  · exact Nat.le_refl _
  · exact List.length_filter_le ..

/-- No WAKE waits for a home that is awake, so that its requests stand as it goes to another state. -/
theorem Spender.enter_of_awake {x : Spender} (st : Service) (ret : Option Mode) (none_waits : .wake ∉ x.sent) :
    x.enter st ret = ⟨st, ret, x.sent⟩ := by
  unfold Spender.enter
  have stays : x.sent.filter (fun r => r != .wake) = x.sent :=
    List.filter_eq_self.mpr fun r mem => bne_iff_ne.mpr fun e => none_waits (e ▸ mem)
  rw [stays, ite_self]

/-- A home enters a state in which it costs no more. -/
theorem Purse.Fits.enter {V : Purse} (fit : V.Fits) {h : HomeId} {st : Service} {ret : Option Mode}
    (cheaper : V.power ≠ .mains → ((V.homes h).enter st ret).cost V.cfg ≤ (V.homes h).cost V.cfg) :
    (V.enter h st ret).Fits :=
  fit.put_cheaper Spender.wakes_enter fun battery =>
    ⟨(Spender.length_enter_le ..).trans (fit.single battery h), cheaper battery⟩

/-- A home enters a state that is not paid for (R107). -/
theorem Purse.Fits.enter_unpaid {V : Purse} (fit : V.Fits) (h : HomeId) {st : Service} (ret : Option Mode)
    (unpaid : st.paid = false) : (V.enter h st ret).Fits :=
  fit.enter fun _ => (Spender.cost_of_unpaid (x := (V.homes h).enter st ret) V.cfg unpaid).trans_le (Nat.zero_le _)

/-- A home that is paid for, and awake, goes to SLEEP. -/
theorem Purse.Fits.enter_sleep {V : Purse} (fit : V.Fits) {h : HomeId} (ret : Option Mode)
    (paid : (V.homes h).service.paid = true) (awake : (V.homes h).service ≠ .sleep) : (V.enter h .sleep ret).Fits := by
  refine fit.enter fun _ => ?_
  have none_waits : .wake ∉ (V.homes h).sent := fun waits => awake (fit.wakes h waits)
  rw [Spender.enter_of_awake .sleep ret none_waits, Spender.cost_asleep V.cfg none_waits]
  exact Spender.le_cost fit.ordered paid

/-! ## Moves between states that are paid for -/

/-- A move costs no more if it does so with each request that waits, and with none. -/
theorem Spender.cost_le_of_short {c : Cfg} {p q : Service × Option Mode} {sent : List ModeRequest} (short : sent.length ≤ 1)
    (bare : c.homeCost p.1 p.2 ≤ c.homeCost q.1 q.2)
    (each : ∀ r ∈ sent, c.homeCost (applyRequest r p).1 (applyRequest r p).2 ≤
      c.homeCost (applyRequest r q).1 (applyRequest r q).2) :
    Spender.cost c ⟨p.1, p.2, sent⟩ ≤ Spender.cost c ⟨q.1, q.2, sent⟩ := by
  match sent, short with
  | [], _ => exact bare
  | [r], _ => exact each r List.mem_cons_self

/-- A home that is awake moves on: the move costs no more whatever request waits for it. -/
theorem Purse.Fits.enter_awake {V : Purse} (fit : V.Fits) {h : HomeId} {st : Service} {ret : Option Mode}
    (awake : (V.homes h).service ≠ .sleep)
    (bare : V.cfg.homeCost st ret ≤ V.cfg.homeCost (V.homes h).service (V.homes h).ret)
    (each : ∀ r ∈ (V.homes h).sent, V.cfg.homeCost (applyRequest r (st, ret)).1 (applyRequest r (st, ret)).2 ≤
      V.cfg.homeCost (applyRequest r ((V.homes h).service, (V.homes h).ret)).1
        (applyRequest r ((V.homes h).service, (V.homes h).ret)).2) :
    (V.enter h st ret).Fits := by
  refine fit.enter fun battery => ?_
  rw [Spender.enter_of_awake st ret fun waits => awake (fit.wakes h waits)]
  exact Spender.cost_le_of_short (p := (st, ret)) (q := ((V.homes h).service, (V.homes h).ret)) (fit.single battery h) bare
    each

/-- A link that comes up costs what its training or its wake did (R5, R8). -/
theorem Purse.Fits.enter_upFull {V : Purse} (fit : V.Fits) {h : HomeId} (ret : Option Mode)
    (rises : (V.homes h).service = .training ∨ (V.homes h).service = .waking) : (V.enter h .upFull ret).Fits := by
  obtain ⟨low, full⟩ := fit.ordered
  refine fit.enter_awake ?_ ?_ fun r _ => ?_
  · rcases rises with e | e <;> simp [e]
  · rcases rises with e | e <;> simp [e, Cfg.homeCost]
  · rcases rises with e | e <;> rw [e] <;> cases r <;> simp only [applyRequest, Cfg.homeCost] <;> omega

/-- A QUIET silences a home that no withdrawal waits for: it goes on costing what its return mode does (R9, R170). -/
theorem Purse.Fits.enter_quiet {V : Purse} (fit : V.Fits) {h : HomeId} {m : Mode}
    (up : (V.homes h).service = .upFull ∧ m = .full ∨ (V.homes h).service = .upLow ∧ m = .low)
    (stays : .withdraw ∉ (V.homes h).sent) : (V.enter h .quiet (some m)).Fits := by
  obtain ⟨low, full⟩ := fit.ordered
  refine fit.enter_awake ?_ ?_ fun r mem => ?_
  · rcases up with ⟨e, -⟩ | ⟨e, -⟩ <;> simp [e]
  · rcases up with ⟨e, rfl⟩ | ⟨e, rfl⟩ <;> simp [e, Cfg.homeCost, Cfg.modeCost]
  · have other : r ≠ .withdraw := fun e => stays (e ▸ mem)
    rcases up with ⟨e, rfl⟩ | ⟨e, rfl⟩ <;> rw [e] <;> cases r <;>
      simp [applyRequest, Cfg.homeCost, Cfg.modeCost] at other ⊢

/-- A home whose quiet ends returns to the state of its return mode (R10). -/
theorem Purse.Fits.leave_quiet {V : Purse} (fit : V.Fits) {h : HomeId} {st : Service}
    (quiet : (V.homes h).service = .quiet)
    (returns : st = .upLow ∧ (V.homes h).ret = some .low ∨ st = .upFull ∧ (V.homes h).ret.getD .full = .full) :
    (V.enter h st none).Fits := by
  obtain ⟨low, full⟩ := fit.ordered
  refine fit.enter_awake (by simp [quiet]) ?_ fun r _ => ?_
  · rcases returns with ⟨rfl, e⟩ | ⟨rfl, e⟩ <;> simp [quiet, e, Cfg.homeCost, Cfg.modeCost]
  · rw [quiet]
    rcases returns with ⟨rfl, e⟩ | ⟨rfl, e⟩ <;> cases r <;>
      simp only [applyRequest, Cfg.homeCost, e, Option.getD_some, Cfg.modeCost] <;> omega

/-! ## A test lets the bus go -/

/-- A test that holds the bus lets it go (R163, R164). -/
def Purse.letGo (V : Purse) : Purse := { V with holds := false }

theorem Purse.Fits.letGo {V : Purse} (fit : V.Fits) : V.letGo.Fits := by
  refine ⟨fit.distinct, fit.asleep, fit.wakes, fit.ordered, fit.single, fun battery => ?_, fun _ => rfl⟩
  obtain ⟨a, present, within⟩ := fit.within battery
  exact ⟨a, present, (Nat.add_le_add_left (Nat.zero_le _) _).trans within⟩

/-- A purse that no test draws on is not changed by one that lets the bus go. -/
theorem Purse.letGo_of_free {V : Purse} (free : V.holds = false) : V.letGo = V :=
  Purse.ext rfl rfl rfl rfl rfl free.symm rfl

theorem State.enterReleasing_purse {s : State} (holds : s.testHolding = true) (o : Option TestOutcome)
    (k : Option SuspendCause) : (s.enterReleasing o k).purse = s.purse.letGo := by
  have waits : TestState.waits s.ten.state = false := by
    rcases s.testHolding_iff.mp holds with e | e <;> rw [e] <;> rfl
  exact Purse.ext rfl rfl rfl rfl rfl rfl waits.symm

theorem State.suspend_purse (k : SuspendCause) (s : State) : (s.suspend k).purse = s.purse.letGo := by
  unfold State.suspend
  split
  · rename_i holds
    exact State.enterReleasing_purse holds ..
  · rename_i free
    exact (Purse.letGo_of_free (Bool.not_eq_true _ ▸ free)).symm

theorem State.endTest_purse (o : TestOutcome) (s : State) : (s.endTest o).purse = s.purse.letGo := by
  unfold State.endTest
  split
  · rename_i holds
    exact State.enterReleasing_purse holds ..
  · rename_i free
    exact (Purse.letGo_of_free (Bool.not_eq_true _ ▸ free)).symm

end Sys2Proof.Machine
end

section
/-! SUPPORT. The fitting under the view of the purse: the grants stay within the allowance, and the requests bring each
home to its grant. -/

namespace Sys2Proof

/-- What a grant costs beyond P_sleep (R171). -/
def Cfg.overSleep (c : Cfg) (grant : Option Mode) : Nat := grant.elim 0 fun m => c.modeCost m - c.pSleep

end Sys2Proof

namespace Sys2Proof.Machine

/-! ## The grants (R171, R172, R174) -/

/-- A grant is SLEEP at no price, or an offer at its price. -/
theorem grantFirst_spec (remaining : Nat) (offers : List Offer) :
    grantFirst remaining offers = (.sleep, remaining) ∨
      ∃ o ∈ offers, o.2 ≤ remaining ∧ grantFirst remaining offers = (o.1, remaining - o.2) := by
  induction offers with
  | nil => exact .inl rfl
  | cons o offers ih =>
    unfold grantFirst
    by_cases fits : o.2 ≤ remaining
    · exact .inr ⟨o, List.mem_cons_self, fits, if_pos fits⟩
    · rw [if_neg fits]
      exact ih.imp_right fun ⟨p, mem, found⟩ => ⟨p, List.mem_cons_of_mem o mem, found⟩

/-- What a table of grants says of each home, where SLEEP and every offer say it of the homes granted in turn. -/
theorem grants_spec {P : HomeId → Option Mode → Prop} {offers : List Offer} {l : List HomeId} {g : Tab 8 (Option Mode) × Nat}
    (start : ∀ h, P h (g.1.at h)) (sleeps : ∀ h ∈ l, P h (some .sleep)) (offered : ∀ h ∈ l, ∀ o ∈ offers, P h (some o.1))
    (h : HomeId) : P h ((l.foldl (grantHome offers) g).1.at h) := by
  induction l generalizing g with
  | nil => exact start h
  | cons k l ih =>
    refine ih (fun j => ?_) (fun j mem => sleeps j (List.mem_cons_of_mem k mem))
      fun j mem => offered j (List.mem_cons_of_mem k mem)
    unfold grantHome
    rw [Tab.at_put]
    split
    · rename_i here
      subst here
      rcases grantFirst_spec g.2 offers with e | ⟨o, mem, -, e⟩ <;> rw [e]
      · exact sleeps j List.mem_cons_self
      · exact offered j List.mem_cons_self o mem
    · exact start j

/-- What a table of grants costs beyond the floor. -/
def grantsOver (c : Cfg) (t : Tab 8 (Option Mode)) : Nat := (homeIds.map fun h => c.overSleep (t.at h)).sum

/-- A home granted anew takes no more than the grant's price. -/
theorem grantsOver_put_le (c : Cfg) (t : Tab 8 (Option Mode)) (h : HomeId) (x : Option Mode) :
    grantsOver c (t.put h x) ≤ grantsOver c t + c.overSleep x := by
  have elsewhere : ((homeIds.filter fun k => k != h).map fun k => c.overSleep ((t.put h x).at k)) =
      (homeIds.filter fun k => k != h).map fun k => c.overSleep (t.at k) := by
    refine List.map_congr_left fun k mem => ?_
    rw [Tab.at_put_of_ne _ _ _ _ (by simpa using (List.mem_filter.mp mem).2)]
  unfold grantsOver
  rw [sum_homes _ h, sum_homes (fun k => c.overSleep (t.at k)) h, elsewhere, Tab.at_put_self, Nat.add_comm]
  exact Nat.add_le_add_right (Nat.le_add_left ..) _

/-- What the grants take comes off the remaining (R171). -/
theorem grants_within {c : Cfg} {offers : List Offer} (priced : ∀ o ∈ offers, o.2 = c.modeCost o.1 - c.pSleep)
    (l : List HomeId) (g : Tab 8 (Option Mode) × Nat) :
    grantsOver c (l.foldl (grantHome offers) g).1 + (l.foldl (grantHome offers) g).2 ≤ grantsOver c g.1 + g.2 := by
  induction l generalizing g with
  | nil => exact Nat.le_refl _
  | cons h l ih =>
    refine (ih _).trans ?_
    have grown := grantsOver_put_le c g.1 h (some (grantFirst g.2 offers).1)
    unfold grantHome
    dsimp only
    rcases grantFirst_spec g.2 offers with e | ⟨o, mem, fits, e⟩ <;> rw [e] at grown ⊢
    · simp only [Cfg.overSleep, Option.elim_some, Cfg.modeCost, Nat.sub_self] at grown ⊢
      omega
    · simp only [Cfg.overSleep, Option.elim_some, ← priced o mem] at grown ⊢
      omega

/-- What a fitting may grant a home: something if it is paid for, LOW in service only (R172, R174). -/
structure State.Granted (s : State) (h : HomeId) (grant : Option Mode) : Prop where
  paid : (s.service h).paid = true → grant.isSome = true
  low : grant = some .low → inService (s.service h) = true

theorem State.granted_sleep (s : State) (h : HomeId) : s.Granted h (some .sleep) := ⟨fun _ => rfl, fun e => (nomatch e)⟩

theorem State.granted_full (s : State) (h : HomeId) : s.Granted h (some .full) := ⟨fun _ => rfl, fun e => (nomatch e)⟩

theorem State.granted_low {s : State} {h : HomeId} (serves : inService (s.service h) = true) : s.Granted h (some .low) :=
  ⟨fun _ => rfl, fun _ => serves⟩

theorem State.inService_of_mem_candidates {s : State} {h : HomeId} (mem : h ∈ s.candidates) :
    inService (s.service h) = true :=
  (inService_iff _).mpr ((s.mem_candidates h).mp mem).1

theorem State.granted_fitting (a : Nat) (s : State) (h : HomeId) : s.Granted h ((s.fitting a).outcome.at h) := by
  rw [State.fitting_eq]
  refine grants_spec (P := s.Granted) (fun k => grants_spec (P := s.Granted) (fun k => ?_) (fun k _ => s.granted_sleep k)
    (fun k _ o offer => ?_) k) (fun k _ => s.granted_sleep k) (fun k mem o offer => ?_) h
  · unfold State.startGrants
    rw [Tab.at_make]
    split
    · exact s.granted_sleep k
    · rename_i unpaid
      exact ⟨fun paid => absurd paid unpaid, fun e => (nomatch e)⟩
  · cases List.mem_singleton.mp offer
    exact s.granted_full k
  · have low := State.granted_low (State.inService_of_mem_candidates mem)
    unfold State.candidateOffers at offer
    split at offer
    · cases List.mem_singleton.mp offer
      exact low
    · rcases List.mem_cons.mp offer with rfl | last
      · exact s.granted_full k
      · cases List.mem_singleton.mp last
        exact low

/-- The grants of a fitting with the test reserve stay within the allowance less the floor (R171). -/
theorem State.fitting_within {a : Nat} {s : State} (floor : s.floor ≤ a) :
    s.floor + grantsOver s.cfg (s.fitting a).outcome + (if s.reserves a then s.cfg.pTest else 0) ≤ a := by
  have none_granted : grantsOver s.cfg s.startGrants = 0 := by
    unfold grantsOver
    refine List.sum_eq_zero fun n mem => ?_
    obtain ⟨h, -, rfl⟩ := List.mem_map.mp mem
    unfold State.startGrants
    rw [Tab.at_make]
    split
    · exact Nat.sub_self _
    · rfl
  have first_priced : ∀ o ∈ [(Mode.full, s.cfg.fullOver)], o.2 = s.cfg.modeCost o.1 - s.cfg.pSleep := by
    simp [Cfg.fullOver, Cfg.modeCost]
  have then_priced : ∀ o ∈ s.candidateOffers, o.2 = s.cfg.modeCost o.1 - s.cfg.pSleep := by
    unfold State.candidateOffers
    split <;> simp [Cfg.fullOver, Cfg.lowOver, Cfg.modeCost]
  have fits : s.reserves a = true → s.cfg.pTest ≤ a - s.floor := fun reserved => ((s.reserves_iff a).mp reserved).2.2
  rw [State.fitting_eq]
  dsimp only
  refine le_trans (Nat.add_le_add_right (Nat.add_le_add_left (le_of_add_le_left
    ((grants_within then_priced _ _).trans (grants_within first_priced _ _))) _) _) ?_
  dsimp only
  rw [none_granted]
  split
  · rename_i reserved
    have := fits reserved
    omega
  · omega

/-! ## The requests of a fitting, home by home (R173) -/

/-- What a fitting sends one home. -/
def requestsOf (st : Service) (ret grant : Option Mode) (woken : Bool) : List ModeRequest :=
  (loweringRequest st ret grant).toList ++ (raisingRequest st ret grant).toList ++ if woken then [.wake] else []

/-- Requests picked home by home, each home once. -/
theorem sentTo_pick {g : HomeId → Option ModeRequest} (real : ∀ h, g h ≠ some .abandon) {l : List HomeId} (once : l.Nodup)
    (k : HomeId) :
    sentTo (l.filterMap fun h => (g h).map fun r => (r, h)) k = if k ∈ l then (g k).toList else [] := by
  induction l with
  | nil => rfl
  | cons h l ih =>
    obtain ⟨fresh, rest⟩ := List.nodup_cons.mp once
    rw [List.filterMap_cons]
    by_cases here : k = h
    · subst here
      cases picked : g k with
      | none => simp [ih rest, fresh]
      | some r =>
        have sent : r ≠ .abandon := fun e => real k (e ▸ picked)
        simp [sentTo_cons, sent, ih rest, fresh]
    · have away : k ∈ h :: l ↔ k ∈ l := by simp [here]
      simp only [away]
      cases g h with
      | none => exact ih rest
      | some r =>
        dsimp only [Option.map_some]
        rw [sentTo_cons, if_neg fun e => here e.1.symm, ih rest]

theorem sentTo_wakes {l : List HomeId} (once : l.Nodup) (k : HomeId) :
    sentTo (l.map fun h => (ModeRequest.wake, h)) k = if k ∈ l then [.wake] else [] := by
  have picked := sentTo_pick (g := fun _ => some .wake) (by simp) once k
  simp only [Option.map_some] at picked
  rwa [List.filterMap_eq_map'] at picked

theorem sentTo_abandons (l : List (ModeRequest × HomeId)) (k : HomeId) : sentTo (l.filter fun r => r.1 == .abandon) k = [] := by
  rw [sentTo_filter]
  refine List.filter_eq_nil_iff.mpr fun r mem => ?_
  simpa using (mem_sentTo.mp mem).2

theorem State.nodup_candidates (s : State) : s.candidates.Nodup := by
  refine s.candidates_ordered.imp fun {h k} ordered => ?_
  rintro rfl
  rcases ordered with lighter | ⟨-, lower⟩
  · exact absurd lighter (Nat.lt_irrefl _)
  · exact absurd lower (lt_irrefl h)

theorem State.mem_homesIn {s : State} {st : Service} {h : HomeId} : h ∈ s.homesIn st ↔ s.service h = st := by
  simp [State.homesIn, mem_homeIds]

theorem State.nodup_homesIn (s : State) (st : Service) : (s.homesIn st).Nodup := nodup_homeIds.filter _

/-- The grant order names each home once (R173). -/
theorem State.nodup_grantOrder (s : State) : s.grantOrder.Nodup := by
  have rising : (s.homesIn .training ++ s.homesIn .waking).Nodup := by
    refine List.nodup_append.mpr ⟨s.nodup_homesIn _, s.nodup_homesIn _, fun h trains k wakes same => ?_⟩
    subst same
    cases (State.mem_homesIn.mp trains).symm.trans (State.mem_homesIn.mp wakes)
  rw [State.grantOrder_eq]
  refine List.nodup_append.mpr ⟨List.nodup_append.mpr ⟨rising, s.nodup_candidates, fun h up k serves same => ?_⟩,
    nodup_homeIds.filter _, fun h first k later same => ?_⟩
  · subst same
    have mode := State.inService_of_mem_candidates serves
    rcases List.mem_append.mp up with e | e <;> simp [State.mem_homesIn.mp e, inService] at mode
  · subst same
    exact of_decide_eq_true (List.mem_filter.mp later).2 first

theorem State.mem_grantOrder (s : State) (h : HomeId) : h ∈ s.grantOrder := by
  rw [State.grantOrder_eq]
  by_cases first : h ∈ s.homesIn .training ++ s.homesIn .waking ++ s.candidates
  · exact List.mem_append_left _ first
  · exact List.mem_append_right _ (List.mem_filter.mpr ⟨mem_homeIds h, decide_eq_true first⟩)

/-- A fitting wakes a home (R172, R173). -/
def State.wokenBy (x : Fitting) (s : State) (h : HomeId) : Bool :=
  decide (s.power ≠ .batteryLow ∧ h ∈ s.wakeable ∧ x.outcome.at h = some .full)

theorem State.sentTo_fittingRequests {s : State} (once : s.bhu.wakeQ.Nodup) (x : Fitting) (h : HomeId) :
    sentTo (s.fittingRequests x) h = requestsOf (s.service h) (s.home h).ret (x.outcome.at h) (s.wokenBy x h) := by
  have lowers (k : HomeId) : loweringRequest (s.service k) (s.home k).ret (x.outcome.at k) ≠ some .abandon := by
    rw [Ne, loweringRequest_eq_some_iff]
    simp
  have raises (k : HomeId) : raisingRequest (s.service k) (s.home k).ret (x.outcome.at k) ≠ some .abandon := by
    rw [Ne, raisingRequest_eq_some_iff]
    simp
  have woken : sentTo ((if s.power = .batteryLow then []
      else s.wakeable.filter fun h => x.outcome.at h == some .full).map fun h => (ModeRequest.wake, h)) h =
        if s.wokenBy x h then [.wake] else [] := by
    unfold State.wokenBy
    split
    · rename_i low
      simp [low]
    · rename_i charged
      have wakeable : s.wakeable.Nodup := once.filter _
      rw [sentTo_wakes (wakeable.filter _)]
      simp [charged]
  unfold State.fittingRequests requestsOf
  simp only [sentTo_append]
  rw [woken, sentTo_pick lowers s.nodup_grantOrder, sentTo_pick raises s.nodup_grantOrder, if_pos (s.mem_grantOrder h),
    if_pos (s.mem_grantOrder h)]

/-- A home lowered is not raised: a home gets one request at most (R173). -/
theorem raisingRequest_of_lowering {st : Service} {ret grant : Option Mode} {r : ModeRequest}
    (lowered : loweringRequest st ret grant = some r) : raisingRequest st ret grant = none := by
  refine Option.eq_none_iff_forall_ne_some.mpr fun q raised => ?_
  rcases (raisingRequest_eq_some_iff st ret grant q).mp raised with ⟨-, rfl, up⟩ | ⟨-, rfl, rfl, rfl⟩
  · simp [loweringRequest_full] at lowered
  · simp [loweringRequest_low] at lowered

theorem length_requestsOf_le (st : Service) (ret grant : Option Mode) {woken : Bool}
    (asleep : woken = true → st = .sleep) : (requestsOf st ret grant woken).length ≤ 1 := by
  unfold requestsOf
  cases woken with
  | true =>
    rw [asleep rfl]
    cases grant <;> exact Nat.le_refl _
  | false =>
    cases lowered : loweringRequest st ret grant with
    | none => cases raisingRequest st ret grant <;> simp
    | some r => simp [raisingRequest_of_lowering lowered]

/-- The requests of a fitting bring a home that is paid for to its grant (R173). -/
theorem cost_requestsOf_le {c : Cfg} (ordered : c.Ordered) {st : Service} (ret : Option Mode) {m : Mode} {woken : Bool}
    (low : m = .low → inService st = true) (wakes : woken = true → st = .sleep ∧ m = .full) :
    Spender.cost c ⟨st, ret, requestsOf st ret (some m) woken⟩ ≤ c.modeCost m := by
  cases woken with
  | true =>
    obtain ⟨rfl, rfl⟩ := wakes rfl
    exact Nat.le_refl _
  | false =>
    cases m with
    | full => exact Spender.cost_le_full ordered _
    | low =>
      rcases (inService_iff st).mp (low rfl) with rfl | rfl | rfl
      · exact Nat.le_refl _
      · exact Nat.le_refl _
      · match ret with
        | none | some .full | some .low | some .sleep => exact Nat.le_refl _
    | sleep =>
      cases st
      case unequipped | adminDown | down | testHeld => exact Nat.zero_le _
      case quiet =>
        match ret with
        | none | some .full | some .low | some .sleep => exact Nat.le_refl _
      all_goals exact Nat.le_refl _

/-! ## The power calculation (section 10.2) -/

/-- The floor is P_sleep for each home that is paid for (R107). -/
theorem State.floor_eq_sum (s : State) :
    s.floor = (homeIds.map fun h => if (s.service h).paid then s.cfg.pSleep else 0).sum := by
  have counted (l : List HomeId) : s.cfg.pSleep * (l.filter fun h => (s.service h).paid).length =
      (l.map fun h => if (s.service h).paid then s.cfg.pSleep else 0).sum := by
    induction l with
    | nil => rfl
    | cons h l ih =>
      rw [List.filter_cons, List.map_cons, List.sum_cons, ← ih]
      split
      · rw [List.length_cons, Nat.mul_add, Nat.mul_one, Nat.add_comm]
      · rw [Nat.zero_add]
  exact counted homeIds

/-- A fitting leaves the homes as they are and sends each its requests anew (R173). -/
theorem State.fit_spender {s : State} (queue : s.supply.QueueSleeps) (a : Nat) (h : HomeId) :
    (s.fit a).spender h = ⟨s.service h, (s.home h).ret,
      requestsOf (s.service h) (s.home h).ret ((s.recall.fitting a).outcome.at h) (s.recall.wokenBy (s.recall.fitting a) h)⟩ := by
  have once : s.recall.bhu.wakeQ.Nodup := (s.recall_supplied.queue queue).distinct
  refine Spender.ext rfl rfl ?_
  change sentTo (s.recall.bhu.requests ++ s.recall.fittingRequests (s.recall.fitting a)) h = _
  rw [sentTo_append, State.sentTo_fittingRequests once]
  exact congrArg (· ++ _) (sentTo_abandons s.bhu.requests h)

theorem State.wokenBy_spec {s : State} (queue : s.supply.QueueSleeps) {x : Fitting} {h : HomeId}
    (woken : s.wokenBy x h = true) : s.service h = .sleep ∧ x.outcome.at h = some .full := by
  obtain ⟨-, wakeable, granted⟩ := of_decide_eq_true woken
  exact ⟨queue.asleep h (List.mem_filter.mp wakeable).1, granted⟩

/-- A home costs what the floor counts for it and what its grant costs beyond. -/
theorem State.fit_cost_le {s : State} (queue : s.supply.QueueSleeps) (ordered : s.cfg.Ordered) (a : Nat) (h : HomeId) :
    ((s.fit a).spender h).cost s.cfg ≤
      (if (s.service h).paid then s.cfg.pSleep else 0) + s.cfg.overSleep ((s.recall.fitting a).outcome.at h) := by
  rw [State.fit_spender queue]
  obtain ⟨paid, low⟩ := s.recall.granted_fitting a h
  have woken := State.wokenBy_spec (x := s.recall.fitting a) (h := h) (s.recall_supplied.queue queue)
  cases grant : (s.recall.fitting a).outcome.at h with
  | none =>
    have unpaid : (s.service h).paid = false := by
      rw [grant] at paid
      exact Bool.eq_false_iff.mpr fun e => Bool.noConfusion (paid e)
    rw [Spender.cost_of_unpaid s.cfg unpaid]
    exact Nat.zero_le _
  | some m =>
    rw [grant] at low woken
    have least := ordered.le_modeCost m
    have most := cost_requestsOf_le ordered (st := s.service h) (s.home h).ret (woken := s.recall.wokenBy (s.recall.fitting a) h)
      (fun e => low (congrArg some e)) fun e => (woken e).imp_right Option.some.inj
    split
    · simp only [Cfg.overSleep, Option.elim_some]
      omega
    · rename_i unpaid
      rw [Spender.cost_of_unpaid s.cfg (Bool.not_eq_true _ ▸ unpaid)]
      exact Nat.zero_le _

theorem State.fit_lineCost_le {s : State} (queue : s.supply.QueueSleeps) (ordered : s.cfg.Ordered) (a : Nat) :
    (s.fit a).purse.lineCost ≤ s.floor + grantsOver s.cfg (s.recall.fitting a).outcome := by
  have split : s.floor + grantsOver s.cfg (s.recall.fitting a).outcome = (homeIds.map fun h =>
      (if (s.service h).paid then s.cfg.pSleep else 0) + s.cfg.overSleep ((s.recall.fitting a).outcome.at h)).sum := by
    rw [s.floor_eq_sum, List.sum_map_add]
    rfl
  rw [split]
  exact List.sum_le_sum fun h _ => State.fit_cost_le queue ordered a h

/-- A fitting spends within its allowance, with the test reserve for a test that holds the bus (R171). -/
theorem State.fit_fits {s : State} (queue : s.supply.QueueSleeps) (ordered : s.cfg.Ordered) {a : Nat}
    (present : s.shc.a = some a) (floor : s.floor ≤ a) {holds : Bool}
    (reserved : s.power ≠ .mains → holds = true → s.recall.reserves a = true) (waits : Bool) :
    { (s.fit a).purse with holds := holds, waits := waits }.Fits := by
  have queued := (s.fit_supplied a).queue queue
  have awake (h : HomeId) := State.wokenBy_spec (x := s.recall.fitting a) (h := h) (s.recall_supplied.queue queue)
  refine ⟨queued.distinct, queued.asleep, fun h wakes => ?_, ordered, fun _ h => ?_, fun battery => ⟨a, present, ?_⟩,
    fun low => ?_⟩
  · change .wake ∈ ((s.fit a).spender h).sent at wakes
    rw [State.fit_spender queue] at wakes
    refine (awake h ?_).1
    simp only [requestsOf, List.mem_append, Option.mem_toList, loweringRequest_eq_some_iff, raisingRequest_eq_some_iff] at wakes
    simpa using wakes
  · change ((s.fit a).spender h).sent.length ≤ 1
    rw [State.fit_spender queue]
    exact length_requestsOf_le _ _ _ fun woken => (awake h woken).1
  · have line := State.fit_lineCost_le queue ordered a
    have budget := State.fitting_within (s := s.recall) floor
    change (s.fit a).purse.lineCost + (if holds then s.cfg.pTest else 0) ≤ a
    change s.floor + grantsOver s.cfg (s.recall.fitting a).outcome + (if s.recall.reserves a then s.cfg.pTest else 0) ≤ a
      at budget
    cases holds with
    | true =>
      rw [reserved battery rfl] at budget
      exact (Nat.add_le_add_right line _).trans budget
    | false => exact line.trans ((Nat.le_add_right ..).trans budget)
  · have battery : s.power ≠ .mains := fun mains => (nomatch mains.symm.trans low)
    refine Bool.eq_false_iff.mpr fun held => ?_
    exact ((s.recall.reserves_iff a).mp (reserved battery held)).1 low

/-- After a power round on battery the spending is within the allowance, whatever it was before (R106, R164, R171). -/
theorem State.powerRound_fits {s : State} (queue : s.supply.QueueSleeps) (ordered : s.cfg.Ordered)
    (low : s.power = .batteryLow → s.testHolding = false) : s.powerRound.purse.Fits := by
  have floor : s.floor ≤ s.powerCalc.shc.a.getD 0 := by
    change s.floor ≤ allowanceOf s.floor _
    unfold allowanceOf
    split
    · exact le_max_left ..
    · exact Nat.le_refl _
  have fits {holds : Bool} := State.fit_fits (s := s.powerCalc) (holds := holds) ⟨queue.distinct, queue.asleep⟩ ordered
    rfl floor
  rw [State.powerRound_eq]
  dsimp only
  split
  · rw [State.suspend_purse]
    exact fits (fun _ held => Bool.noConfusion held) _
  · rename_i enough
    refine fits (fun charged held => ?_) _
    have battery : s.power = .battery := by
      cases power : s.power with
      | mains => exact absurd power charged
      | battery => rfl
      | batteryLow => exact Bool.noConfusion ((low power).symm.trans held)
    have reserve : s.floor + s.cfg.pTest ≤ s.powerCalc.shc.a.getD 0 := Nat.not_lt.mp fun short => enough ⟨battery, short⟩
    refine (State.reserves_iff _ _).mpr ⟨fun runsLow => (nomatch battery.symm.trans runsLow), ?_, Nat.le_sub_of_add_le' reserve⟩
    exact ((State.testHolding_iff s).mp held).imp_right .inl

end Sys2Proof.Machine
end

section
/-! SUPPORT. States that keep the spending, and what the shared operations of homes, quiets and power do to the purse. -/

namespace Sys2Proof.Machine

/-! ## States that keep the spending -/

/-- The second state spends within its allowance if the first does, whatever the test waits for; a test waits there only
if it did before. -/
structure SpendKept (s t : State) : Prop where
  fits : s.purse.Fits → t.purse.Fits
  head : t.purse.waits = true → s.purse.waits = true ∧ t.cfg = s.cfg

theorem SpendKept.of_eq {s t : State} (same : t.purse = s.purse) : SpendKept s t := by
  refine ⟨fun fit => same ▸ fit, fun waits => ⟨same ▸ waits, ?_⟩⟩
  exact congrArg Purse.cfg same

theorem SpendKept.refl (s : State) : SpendKept s s := .of_eq rfl

theorem SpendKept.trans {s t u : State} (h : SpendKept s t) (k : SpendKept t u) : SpendKept s u := by
  refine ⟨k.fits ∘ h.fits, fun waits => ?_⟩
  obtain ⟨before, later⟩ := k.head waits
  obtain ⟨first, earlier⟩ := h.head before
  exact ⟨first, later.trans earlier⟩

/-- What a purse unchanged before leads to. -/
theorem SpendKept.of_unseen {s t u : State} (same : t.purse = s.purse) (kept : SpendKept t u) : SpendKept s u :=
  (SpendKept.of_eq same).trans kept

theorem SpendKept.foldl {α : Type} (f : State → α → State) (h : ∀ s x, SpendKept s (f s x)) (l : List α) (s : State) :
    SpendKept s (l.foldl f s) := by
  induction l generalizing s with
  | nil => exact .refl s
  | cons x l ih => exact (h s x).trans (ih (f s x))

/-- The purse goes over to one with the same configuration. -/
theorem SpendKept.of_purse {s t : State} {V : Purse} (view : t.purse = V) (cfg : V.cfg = s.cfg)
    (waits : V.waits = true → s.purse.waits = true) (fits : s.purse.Fits → V.Fits) : SpendKept s t := by
  subst view
  exact ⟨fits, fun waiting => ⟨waits waiting, cfg⟩⟩

/-- A home enters a service state. -/
theorem SpendKept.of_enter {s t : State} {h : HomeId} {st : Service} {ret : Option Mode}
    (view : t.purse = s.purse.enter h st ret) (fits : s.purse.Fits → (s.purse.enter h st ret).Fits) : SpendKept s t :=
  .of_purse view rfl id fits

theorem SpendKept.of_letGo {s t : State} (view : t.purse = s.purse.letGo) : SpendKept s t :=
  .of_purse view rfl id Purse.Fits.letGo

theorem Purse.Fits.queueSleeps {s : State} (fit : s.purse.Fits) : s.supply.QueueSleeps := ⟨fit.distinct, fit.asleep⟩

/-- The wake queue changes at last, and holds sleeping homes as before (R176). -/
theorem SpendKept.requeue {s u t : State} {q : List HomeId} (kept : SpendKept s u)
    (view : t.purse = { u.purse with queue := q }) (supplied : SupplyKept s t) : SpendKept s t := by
  refine ⟨fun fit => ?_, fun waits => ?_⟩
  · obtain ⟨distinct, asleep⟩ := supplied.queue fit.queueSleeps
    have queued : t.purse.queue.Nodup ∧ ∀ h ∈ t.purse.queue, (t.purse.homes h).service = .sleep := ⟨distinct, asleep⟩
    rw [view] at queued ⊢
    exact { kept.fits fit with distinct := queued.1, asleep := queued.2 }
  · have cfg : t.cfg = u.cfg := congrArg Purse.cfg view
    rw [view] at waits
    exact (kept.head waits).imp_right cfg.trans

/-- On mains only the wake queue and the WAKEs sent matter (R97, R176). -/
theorem SpendKept.on_mains {s t : State} (mains : t.power = .mains)
    (queue : s.supply.QueueSleeps → t.supply.QueueSleeps) (cfg : t.cfg = s.cfg) (test : t.ten = s.ten)
    (wakes : s.supply.QueueSleeps → (∀ h, (.wake, h) ∈ s.bhu.requests → s.service h = .sleep) →
      ∀ h, (.wake, h) ∈ t.bhu.requests → t.service h = .sleep) : SpendKept s t := by
  refine ⟨fun fit => ?_, fun waits => ⟨?_, cfg⟩⟩
  · obtain ⟨distinct, asleep⟩ := queue fit.queueSleeps
    have ordered : t.cfg.Ordered := cfg ▸ fit.ordered
    refine ⟨distinct, asleep, fun h sent => ?_, ordered, fun charged => absurd mains charged, fun charged => absurd mains charged,
      fun low => (nomatch mains.symm.trans low)⟩
    refine wakes fit.queueSleeps (fun k mem => fit.wakes k ?_) h (mem_sentTo.mp sent).1
    exact mem_sentTo.mpr ⟨mem, ModeRequest.noConfusion⟩
  · exact (congrArg (TestState.waits ∘ Ten.state) test).symm.trans waits

/-! ## Homes in the purse (R4, R6, R11, R13) -/

theorem State.moveTo_purse (st : Service) (h : HomeId) (s : State) :
    (s.moveTo st h).purse = s.purse.enter h st (s.home h).ret := by
  refine Purse.ext ?_ rfl rfl rfl rfl rfl rfl
  funext k
  have requests : sentTo (s.moveTo st h).bhu.requests k =
      if st = .sleep then sentTo s.bhu.requests k else (sentTo s.bhu.requests k).filter fun r => (r, k) != (.wake, h) := by
    unfold State.moveTo
    dsimp only
    split
    · rfl
    · exact sentTo_filter ..
  unfold Purse.enter
  by_cases here : k = h
  · subst here
    rw [Purse.homes_put_self]
    have ret : ((s.moveTo st k).home k).ret = (s.home k).ret := by rw [State.home_moveTo_self]
    refine Spender.ext (State.service_moveTo_self ..) ret (requests.trans ?_)
    have same (r : ModeRequest) : ((r, k) != (.wake, k)) = (r != .wake) := by
      rw [Bool.eq_iff_iff]
      simp
    simp only [same]
    rfl
  · rw [Purse.homes_put_of_ne _ _ here]
    refine Spender.ext (State.service_moveTo_of_ne _ _ _ _ here) (congrArg Home.ret (State.home_moveTo_of_ne _ _ _ _ here))
      (requests.trans ?_)
    have every : ((sentTo s.bhu.requests k).filter fun r => (r, k) != (.wake, h)) = sentTo s.bhu.requests k :=
      List.filter_eq_self.mpr fun r _ => bne_iff_ne.mpr fun e => here (congrArg Prod.snd e)
    rw [every, ite_self]
    rfl

/-- A home record changed in what the purse does not show. -/
theorem State.updHome_purse {h : HomeId} {f : Home → Home} (s : State)
    (same : ∀ m, (f m).service = m.service ∧ (f m).ret = m.ret) : (s.updHome h f).purse = s.purse := by
  refine Purse.ext ?_ rfl rfl rfl rfl rfl rfl
  funext k
  refine Spender.ext (State.service_updHome s fun m => (same m).1) ?_ rfl
  by_cases here : k = h
  · subst here
    exact (congrArg Home.ret (State.home_updHome_self ..)).trans (same _).2
  · exact congrArg Home.ret (State.home_updHome_of_ne _ _ _ _ here)

/-- A home record changed with its return mode. -/
theorem State.updHome_purse_setRet {h : HomeId} {f : Home → Home} {m : Option Mode} (s : State)
    (same : ∀ x, (f x).service = x.service ∧ (f x).ret = m) : (s.updHome h f).purse = s.purse.setRet h m := by
  refine Purse.ext ?_ rfl rfl rfl rfl rfl rfl
  funext k
  have service := State.service_updHome (h := h) (k := k) s fun x => (same x).1
  by_cases here : k = h
  · subst here
    rw [Purse.homes_setRet_self]
    exact Spender.ext service ((congrArg Home.ret (State.home_updHome_self ..)).trans (same _).2) rfl
  · rw [Purse.homes_setRet_of_ne _ _ here]
    exact Spender.ext service (congrArg Home.ret (State.home_updHome_of_ne _ _ _ _ here)) rfl

/-- A home enters a service state after its return mode was set. -/
theorem State.moveTo_purse_setRet {s : State} {h : HomeId} {m : Option Mode} {V : Purse} (st : Service)
    (view : s.purse = V.setRet h m) : (s.moveTo st h).purse = V.enter h st m := by
  have ret : (s.home h).ret = m := by
    have shown := congrArg (fun W => (W.homes h).ret) view
    rwa [Purse.homes_setRet_self] at shown
  rw [State.moveTo_purse, view, Purse.enter_setRet, ret]

@[simp] theorem State.count_purse (h : HomeId) (f : HomeCounters → HomeCounters) (s : State) :
    (s.count h f).purse = s.purse := s.updHome_purse fun _ => ⟨rfl, rfl⟩

theorem State.toSleep_purse (h : HomeId) (s : State) : (s.toSleep h).purse = s.purse.enter h .sleep none :=
  State.moveTo_purse_setRet .sleep (s.updHome_purse_setRet fun _ => ⟨rfl, rfl⟩)

@[simp] theorem State.freeDown_purse (r : DownDrop) (h : HomeId) (s : State) : (s.freeDown r h).purse = s.purse :=
  s.count_purse h (countDownDrop r (s.cqm.down.at h).length)

@[simp] theorem State.freeUp_purse (r : UpDrop) (h : HomeId) (s : State) : (s.freeUp r h).purse = s.purse :=
  s.count_purse h (countUpDrop r (s.cqm.up.at h).length)

theorem State.enterDown_purse (h : HomeId) (s : State) : (s.enterDown h).purse = s.purse.enter h .down none :=
  State.moveTo_purse_setRet .down ((State.freeDown_purse ..).trans (s.updHome_purse_setRet fun _ => ⟨rfl, rfl⟩))

/-- A home torn down on its way to another service state (R11, R13, R14). -/
theorem State.close_purse {f : Home → Home} (up : UpDrop) (down : DownDrop) (st : Service) (h : HomeId) (s : State)
    (same : ∀ m, (f m).service = m.service ∧ (f m).ret = none) :
    (((s.updHome h f).teardown up down h).moveTo st h).purse = s.purse.enter h st none := by
  refine State.moveTo_purse_setRet st ?_
  rw [State.teardown, State.freeDown_purse, State.freeUp_purse]
  refine Eq.trans (State.updHome_purse _ ?_) (s.updHome_purse_setRet same)
  exact fun _ => ⟨rfl, rfl⟩

theorem State.hold_purse (h : HomeId) (s : State) : (s.hold h).purse = s.purse.enter h .testHeld none :=
  s.close_purse .test .test .testHeld h fun _ => ⟨rfl, rfl⟩

theorem State.enterAdminDown_purse (h : HomeId) (s : State) : (s.enterAdminDown h).purse = s.purse.enter h .adminDown none :=
  s.close_purse .admin .admin .adminDown h fun _ => ⟨rfl, rfl⟩

theorem State.wakeFailed_purse (cause : WakeFailCause) (h : HomeId) (s : State) :
    (s.wakeFailed cause h).purse = s.purse.enter h .sleep none := by
  rw [← s.count_purse h]
  exact State.toSleep_purse h _

/-- A home that is paid for, and awake, goes to SLEEP. -/
theorem SpendKept.of_enter_sleep {s t : State} {h : HomeId} {ret : Option Mode}
    (view : t.purse = s.purse.enter h .sleep ret) (paid : (s.service h).paid = true) (awake : s.service h ≠ .sleep) :
    SpendKept s t :=
  .of_enter view fun fit => fit.enter_sleep ret paid awake

/-- A home enters a state that is not paid for. -/
theorem SpendKept.of_enter_unpaid {s t : State} {h : HomeId} {st : Service} {ret : Option Mode}
    (view : t.purse = s.purse.enter h st ret) (unpaid : st.paid = false) : SpendKept s t :=
  .of_enter view fun fit => fit.enter_unpaid h ret unpaid

theorem State.enterDown_spent (h : HomeId) (s : State) : SpendKept s (s.enterDown h) :=
  .of_enter_unpaid (s.enterDown_purse h) rfl

theorem State.enterAdminDown_spent (h : HomeId) (s : State) : SpendKept s (s.enterAdminDown h) :=
  .of_enter_unpaid (s.enterAdminDown_purse h) rfl

/-- A wake that fails leads back to SLEEP (R8). -/
theorem State.wakeFailed_spent {h : HomeId} {s : State} (cause : WakeFailCause) (wakes : s.service h = .waking) :
    SpendKept s (s.wakeFailed cause h) :=
  .of_enter_sleep (s.wakeFailed_purse cause h) (wakes ▸ rfl) (by simp [wakes])

/-- A link comes up (R5, R8). -/
theorem State.up_spent {h : HomeId} {s : State} (rises : s.service h = .training ∨ s.service h = .waking) :
    SpendKept s (s.moveTo .upFull h) :=
  .of_enter (s.moveTo_purse .upFull h) fun fit => fit.enter_upFull _ rises

/-! ## Wakes (R8, R176) -/

theorem State.wakeCause_spent (h : HomeId) (s : State) : SpendKept s (s.wakeCause h) := by
  by_cases wakes : s.service h = .sleep ∧ h ∉ s.bhu.wakeQ
  · by_cases atOnce : s.wakesAtOnce h = true
    · refine .on_mains ((s.wakesAtOnce_iff h).mp atOnce).1 (s.wakeCause_supplied h).queue rfl rfl fun _ sent k mem => ?_
      rw [State.wakeCause, if_pos wakes, if_pos atOnce] at mem ⊢
      rcases List.mem_append.mp mem with old | new
      · exact sent k old
      · cases List.mem_singleton.mp new
        exact wakes.1
    · refine .requeue (q := s.bhu.wakeQ ++ [h]) (.refl s) ?_ (s.wakeCause_supplied h)
      rw [State.wakeCause, if_pos wakes, if_neg atOnce]
      rfl
  · refine .of_eq ?_
    rw [State.wakeCause, if_neg wakes]

/-- A home in SLEEP joins the head of the wake queue, or is sent its WAKE (R173, R176). -/
theorem State.wakeHead_spent {h : HomeId} {s : State} (asleep : s.service h = .sleep) : SpendKept s (s.wakeHead h) := by
  by_cases atOnce : s.wakesAtOnce h = true
  · refine .on_mains ((s.wakesAtOnce_iff h).mp atOnce).1 (State.wakeHead_supplied asleep).queue rfl rfl fun _ sent k mem => ?_
    rw [State.wakeHead, if_pos atOnce] at mem ⊢
    rcases List.mem_append.mp mem with old | new
    · exact sent k old
    · cases List.mem_singleton.mp new
      exact asleep
  · refine .requeue (q := (s.bhu.joinHead h).wakeQ) (.refl s) ?_ (State.wakeHead_supplied asleep)
    rw [State.wakeHead, if_neg atOnce]
    rfl

end Sys2Proof.Machine
end

section
/-! SUPPORT. The power round, an entry to TRAINING and the quiets keep the spending. -/

namespace Sys2Proof.Machine

/-! ## The power round (R106) -/

/-- A power round changes no test but one that it suspends, and not the configuration. -/
theorem State.powerRound_head (s : State) : s.powerRound.purse.waits = s.purse.waits ∧ s.powerRound.cfg = s.cfg := by
  rcases s.powerRound_spec with e | e <;> rw [e]
  · exact ⟨rfl, rfl⟩
  · have view := State.suspend_purse .power (s.powerCalc.fit (s.powerCalc.shc.a.getD 0))
    exact ⟨(congrArg Purse.waits view).trans rfl, (congrArg Purse.cfg view).trans rfl⟩

/-- A power round whatever the power was: it fits the spending anew (R106). -/
theorem SpendKept.powerRound {s t : State} (cfg : t.cfg = s.cfg) (waits : t.purse.waits = true → s.purse.waits = true)
    (ready : s.purse.Fits → t.supply.QueueSleeps ∧ (t.power = .batteryLow → t.testHolding = false)) :
    SpendKept s t.powerRound := by
  obtain ⟨sameWaits, sameCfg⟩ := t.powerRound_head
  refine ⟨fun fit => ?_, fun waiting => ⟨waits (sameWaits ▸ waiting), sameCfg.trans cfg⟩⟩
  obtain ⟨queue, low⟩ := ready fit
  have ordered : t.cfg.Ordered := cfg ▸ fit.ordered
  exact State.powerRound_fits queue ordered low

theorem State.powerRound_spent (s : State) : SpendKept s s.powerRound :=
  .powerRound rfl id fun fit => ⟨fit.queueSleeps, fit.low⟩

/-! ## An entry to TRAINING (R175) -/

/-- The other homes and the test that holds the bus are among what an entry finds taken. -/
theorem State.others_le_usedBeside (h : HomeId) (s : State) :
    s.purse.others h + (if s.purse.holds then s.cfg.pTest else 0) ≤ s.usedBeside h := by
  have homes : s.otherCosts h = s.purse.others h :=
    congrArg List.sum (List.map_congr_left fun k _ => s.costLeft_eq k)
  have test : (if s.purse.holds then s.cfg.pTest else 0) ≤ s.testClaim := by
    unfold State.testClaim
    split
    · rename_i holds
      rw [if_pos (.inr (.inl holds))]
    · exact Nat.zero_le _
  rw [State.usedBeside, homes]
  exact Nat.add_le_add_left test _

/-- A home enters a state that what the others leave pays for (R175). -/
theorem State.enter_fits_of_spare {s : State} (fit : s.purse.Fits) {h : HomeId} {st : Service} {ret : Option Mode}
    (pays : s.power ≠ .mains →
      s.usedBeside h + ((s.purse.homes h).enter st ret).cost s.cfg ≤ s.shc.a.getD 0) : (s.purse.enter h st ret).Fits := by
  refine fit.put Spender.wakes_enter fun charged => ⟨(Spender.length_enter_le ..).trans (fit.single charged h), ?_⟩
  intro a present
  have paid := pays charged
  have used := s.others_le_usedBeside h
  have allowance : s.shc.a.getD 0 = a := congrArg (Option.getD · 0) present
  unfold Purse.spending
  rw [Purse.lineCost_put]
  change ((s.purse.homes h).enter st ret).cost s.cfg + s.purse.others h + (if s.purse.holds then s.cfg.pTest else 0) ≤ a
  omega

/-- A home that is awake and passes through another state to SLEEP: only where it arrives shows. -/
theorem Purse.Fits.enter_enter_sleep {V : Purse} (fit : V.Fits) {h : HomeId} {st : Service} (ret m : Option Mode)
    (awake : (V.homes h).service ≠ .sleep) (passes : st ≠ .sleep) :
    (V.enter h st ret).enter h .sleep m = V.enter h .sleep m := by
  have absent : h ∉ V.queue := fun mem => awake (fit.asleep h mem)
  have none_waits : .wake ∉ (V.homes h).sent := fun waits => awake (fit.wakes h waits)
  unfold Purse.enter
  rw [Purse.homes_put_self, Spender.enter_of_awake st ret none_waits]
  unfold Purse.put Spender.enter
  simp only [if_neg passes, if_true, Function.update_idem, List.erase_of_not_mem absent]

theorem State.enterTraining_spent {h : HomeId} {s : State} (awake : s.service h ≠ .sleep) :
    SpendKept s (s.enterTraining h) := by
  have trained : (s.moveTo .training h).purse = s.purse.enter h .training (s.home h).ret := s.moveTo_purse .training h
  have slept : ((s.moveTo .training h).toSleep h).purse =
      (s.purse.enter h .training (s.home h).ret).enter h .sleep none := by
    rw [State.toSleep_purse, trained]
  by_cases mains : s.power = .mains
  · rw [State.enterTraining_of_mains mains]
    exact .of_enter trained fun fit => State.enter_fits_of_spare fit fun charged => absurd mains charged
  · by_cases spare : s.power = .battery ∧ s.usedBeside h + s.cfg.pFull ≤ s.shc.a.getD 0
    · obtain ⟨battery, fits⟩ := spare
      rw [State.enterTraining_of_spare battery fits]
      refine .of_enter trained fun fit => State.enter_fits_of_spare fit fun _ => le_trans ?_ fits
      exact Nat.add_le_add_left (Spender.cost_le_full fit.ordered _) _
    · by_cases floor : s.usedBeside h + s.cfg.pSleep ≤ s.shc.a.getD 0
      · rw [State.enterTraining_of_floor mains spare floor]
        refine .of_purse slept rfl id fun fit => ?_
        rw [fit.enter_enter_sleep _ _ awake (by decide)]
        refine State.enter_fits_of_spare fit fun _ => ?_
        have none_waits : .wake ∉ (s.purse.homes h).sent := fun waits => awake (fit.wakes h waits)
        rwa [Spender.enter_of_awake .sleep none none_waits, Spender.cost_asleep s.cfg none_waits]
      · rw [State.enterTraining_of_nothing mains spare (Nat.not_le.mp floor)]
        have supplied : SupplyKept s ((s.moveTo .training h).toSleep h) :=
          (s.moveTo_supplied .training h).trans (State.toSleep_supplied h _)
        exact .powerRound rfl id fun fit => ⟨supplied.queue fit.queueSleeps, fit.low⟩

theorem State.upFromDown_spent {h : HomeId} {s : State} (awake : s.service h ≠ .sleep) :
    SpendKept s (s.upFromDown h) := by
  have trained := State.enterTraining_spent awake
  unfold State.upFromDown
  dsimp only
  split
  · rename_i training
    exact trained.trans (State.up_spent (.inl training))
  · exact trained

/-! ## Quiets (R9, R10, R155) -/

/-- A home in QUIET for which a withdrawal waits (log 61). -/
def State.Silenced (s : State) (h : HomeId) : Prop := s.service h = .quiet ∧ .withdraw ∈ (s.spender h).sent

/-- A QUIET of the group is about to silence the home over a withdrawal that waits for it (log 61). -/
def State.Overtaken (g : Group) (s : State) (h : HomeId) : Prop :=
  (s.home h).group = g ∧ (s.service h = .upFull ∨ s.service h = .upLow) ∧ .withdraw ∈ (s.spender h).sent

/-- A home silenced in the purse (R9). -/
theorem State.quieted_purse (m : Mode) (h : HomeId) (s : State) :
    ((s.updHome h fun x => { x with ret := some m, resume := false }).moveTo .quiet h).purse =
      s.purse.enter h .quiet (some m) :=
  State.moveTo_purse_setRet .quiet (s.updHome_purse_setRet fun _ => ⟨rfl, rfl⟩)

/-- What a QUIET does to one home, as the purse shows it (R9). -/
theorem State.quietHome_cases (g : Group) (h : HomeId) (s : State) :
    (∃ m, (s.service h = .upFull ∧ m = .full ∨ s.service h = .upLow ∧ m = .low) ∧ (s.home h).group = g ∧
      (s.quietHome g h).purse = s.purse.enter h .quiet (some m)) ∨
    (s.service h = .waking ∧ (s.quietHome g h).purse = s.purse.enter h .sleep none) ∨
    (((s.home h).group = g → s.service h ≠ .upFull ∧ s.service h ≠ .upLow) ∧ s.quietHome g h = s) := by
  rw [State.quietHome_eq]
  by_cases group : (s.home h).group = g
  · rw [if_neg (not_not_intro group)]
    split
    · rename_i up
      exact .inl ⟨.full, .inl ⟨up, rfl⟩, group, s.quieted_purse .full h⟩
    · rename_i full
      split
      · rename_i up
        exact .inl ⟨.low, .inr ⟨up, rfl⟩, group, s.quieted_purse .low h⟩
      · rename_i low
        split
        · rename_i wakes
          exact .inr (.inl ⟨wakes, s.toSleep_purse h⟩)
        · exact .inr (.inr ⟨fun _ => ⟨full, low⟩, rfl⟩)
  · rw [if_pos group]
    exact .inr (.inr ⟨fun same => absurd same group, rfl⟩)

theorem State.spender_quietHome_of_ne {g : Group} {h k : HomeId} (s : State) (ne : k ≠ h) :
    (s.quietHome g h).spender k = s.spender k := by
  have moved {st : Service} {m : Option Mode} (view : (s.quietHome g h).purse = s.purse.enter h st m) :
      (s.quietHome g h).spender k = s.spender k :=
    (congrArg (fun V => V.homes k) view).trans (Purse.homes_put_of_ne _ _ ne)
  rcases s.quietHome_cases g h with ⟨m, -, -, view⟩ | ⟨-, view⟩ | ⟨-, same⟩
  · exact moved view
  · exact moved view
  · rw [same]

/-- One home's turn at a QUIET silences it over a withdrawal that waits. -/
theorem State.Overtaken.silenced {g : Group} {h : HomeId} {s : State} (overtaken : s.Overtaken g h) :
    (s.quietHome g h).Silenced h := by
  obtain ⟨group, up, waits⟩ := overtaken
  rcases s.quietHome_cases g h with ⟨m, -, -, view⟩ | ⟨wakes, -⟩ | ⟨other, -⟩
  · have spender : (s.quietHome g h).spender h = (s.spender h).enter .quiet (some m) :=
      (congrArg (fun V => V.homes h) view).trans (Purse.homes_put_self ..)
    refine ⟨congrArg Spender.service spender, ?_⟩
    rw [spender]
    exact List.mem_filter.mpr ⟨waits, rfl⟩
  · rcases up with e | e <;> cases wakes.symm.trans e
  · obtain ⟨full, low⟩ := other group
    exact absurd up (not_or.mpr ⟨full, low⟩)

theorem State.Silenced.quietHome {h : HomeId} {s : State} (silenced : s.Silenced h) (g : Group) (k : HomeId) :
    (s.quietHome g k).Silenced h := by
  by_cases here : h = k
  · subst here
    rcases s.quietHome_cases g h with ⟨m, up, -, -⟩ | ⟨wakes, -⟩ | ⟨-, same⟩
    · rcases up with ⟨e, -⟩ | ⟨e, -⟩ <;> cases silenced.1.symm.trans e
    · cases silenced.1.symm.trans wakes
    · rwa [same]
  · have same := State.spender_quietHome_of_ne (g := g) s here
    obtain ⟨quiet, waits⟩ := silenced
    exact ⟨(congrArg Spender.service same).trans quiet, same ▸ waits⟩

theorem State.overtaken_quietHome_of_ne {g : Group} {h k : HomeId} (s : State) (ne : h ≠ k) :
    (s.quietHome g k).Overtaken g h ↔ s.Overtaken g h := by
  unfold State.Overtaken State.service
  rw [State.home_quietHome_of_ne s ne, State.spender_quietHome_of_ne s ne]

/-- After its turn at a QUIET a home of the group is up no more. -/
theorem State.not_overtaken_quietHome {g : Group} {h k : HomeId} {s : State} (stays : ¬s.Overtaken g h) :
    ¬(s.quietHome g k).Overtaken g h := by
  by_cases here : h = k
  · subst here
    have left {st : Service} {m : Option Mode} (view : (s.quietHome g h).purse = s.purse.enter h st m)
        (down : st ≠ .upFull ∧ st ≠ .upLow) : ¬(s.quietHome g h).Overtaken g h := by
      have service : (s.quietHome g h).service h = st :=
        congrArg Spender.service ((congrArg (fun V => V.homes h) view).trans (Purse.homes_put_self ..))
      rintro ⟨-, up, -⟩
      rw [service] at up
      exact up.elim down.1 down.2
    rcases s.quietHome_cases g h with ⟨m, -, -, view⟩ | ⟨-, view⟩ | ⟨-, same⟩
    · exact left view (by decide)
    · exact left view (by decide)
    · rwa [same]
  · rwa [State.overtaken_quietHome_of_ne s here]

theorem State.silenced_quietHomes {g : Group} {h : HomeId} (l : List HomeId) {s : State}
    (overtaken : s.Overtaken g h ∧ h ∈ l ∨ s.Silenced h) : (l.foldl (State.quietHome g) s).Silenced h := by
  induction l generalizing s with
  | nil => exact overtaken.resolve_left fun ⟨_, mem⟩ => List.not_mem_nil mem
  | cons k l ih =>
    refine ih ?_
    rcases overtaken with ⟨overtaken, mem⟩ | silenced
    · by_cases here : h = k
      · subst here
        exact .inr overtaken.silenced
      · exact .inl ⟨(State.overtaken_quietHome_of_ne s here).mpr overtaken, (List.mem_cons.mp mem).resolve_left here⟩
    · exact .inr (silenced.quietHome g k)

theorem State.quietHome_spent {g : Group} {s : State} (h : HomeId) (stays : ¬s.Overtaken g h) :
    SpendKept s (s.quietHome g h) := by
  rcases s.quietHome_cases g h with ⟨m, up, group, view⟩ | ⟨wakes, view⟩ | ⟨-, same⟩
  · exact .of_enter view fun fit => fit.enter_quiet up fun waits => stays ⟨group, up.imp And.left And.left, waits⟩
  · exact .of_enter_sleep view (wakes ▸ rfl) (by simp [wakes])
  · exact .of_eq (congrArg State.purse same)

theorem State.quietHomes_spent {g : Group} (l : List HomeId) {s : State} (stays : ∀ h, ¬s.Overtaken g h) :
    SpendKept s (l.foldl (State.quietHome g) s) := by
  induction l generalizing s with
  | nil => exact .refl s
  | cons k l ih => exact (State.quietHome_spent k (stays k)).trans (ih fun h => State.not_overtaken_quietHome (stays h))

theorem State.silenced_quietGroup {g : Group} {h : HomeId} (s : State)
    (silenced : (homeIds.foldl (State.quietHome g) s).Silenced h) : (s.quietGroup g).Silenced h := by
  rw [State.quietGroup_eq]
  generalize homeIds.foldl (State.quietHome g) s = t at silenced ⊢
  exact silenced

/-- A QUIET that overtakes no withdrawal (R9, log 61). -/
theorem State.quietGroup_spent {g : Group} {s : State} (stays : ∀ h, ¬(s.quietGroup g).Silenced h) :
    SpendKept s (s.quietGroup g) := by
  have silenced (h : HomeId) (overtaken : s.Overtaken g h) : (s.quietGroup g).Silenced h :=
    s.silenced_quietGroup (State.silenced_quietHomes homeIds (.inl ⟨overtaken, mem_homeIds h⟩))
  have kept : SpendKept s (homeIds.foldl (State.quietHome g) s) :=
    State.quietHomes_spent homeIds fun h overtaken => stays h (silenced h overtaken)
  have supplied := s.quietGroup_supplied g
  rw [State.quietGroup_eq] at supplied ⊢
  generalize homeIds.foldl (State.quietHome g) s = t at kept supplied ⊢
  exact kept.requeue rfl supplied

theorem State.hearQuiet_spent {g : Group} {ms : Nat} {s : State} (stays : ∀ h, ¬(s.hearQuiet g ms).Silenced h) :
    SpendKept s (s.hearQuiet g ms) := by
  have kept : SpendKept s (s.setQuietEnd g ms) := .of_eq rfl
  exact kept.trans (State.quietGroup_spent stays)

theorem State.unquietHome_spent (g : Group) (s : State) (h : HomeId) : SpendKept s (s.unquietHome g h) := by
  have returned {st : Service} (quiet : s.service h = .quiet)
      (returns : st = .upLow ∧ (s.home h).ret = some .low ∨ st = .upFull ∧ (s.home h).ret.getD .full = .full) :
      SpendKept s ((s.updHome h fun x => { x with ret := none, resume := true }).moveTo st h) :=
    .of_enter (State.moveTo_purse_setRet st (s.updHome_purse_setRet fun _ => ⟨rfl, rfl⟩)) fun fit =>
      fit.leave_quiet quiet returns
  unfold State.unquietHome
  split
  · exact .refl s
  · rename_i inside
    have quiet : s.service h = .quiet := not_not.mp (not_or.mp inside).2
    split
    · rename_i ret
      exact returned quiet (.inl ⟨rfl, ret⟩)
    · exact .of_enter_sleep (s.toSleep_purse h) (quiet ▸ rfl) (by simp [quiet])
    · rename_i low sleep
      refine returned quiet (.inr ⟨rfl, ?_⟩)
      match ret : (s.home h).ret with
      | none | some .full => rfl
      | some .low => exact absurd ret low
      | some .sleep => exact absurd ret sleep

/-- The sleeping homes of a group are woken at once on mains (R10, R176). -/
theorem State.wakeGroup_spent (g : Group) (s : State) : SpendKept s (s.wakeGroup g) := by
  unfold State.wakeGroup
  dsimp only
  split
  · rename_i mains
    refine .on_mains mains (fun queue => ?_) rfl rfl fun queue sent h mem => ?_
    · exact ⟨queue.distinct.filter _, fun h mem => queue.asleep h (List.mem_of_mem_filter mem)⟩
    rcases List.mem_append.mp mem with old | new
    · exact sent h old
    · obtain ⟨k, queued, same⟩ := List.mem_map.mp new
      cases same
      exact queue.asleep h (List.mem_of_mem_filter queued)
  · exact .refl s

theorem State.endQuiet_spent (s : State) (g : Group) : SpendKept s (s.endQuiet g) := by
  unfold State.endQuiet
  split
  · refine SpendKept.trans (SpendKept.trans ?_ (.foldl (State.unquietHome g) (State.unquietHome_spent g) homeIds _))
      (State.wakeGroup_spent g _)
    exact .of_eq rfl
  · exact .refl s

theorem State.tbusyFell_spent (s : State) : SpendKept s s.tbusyFell := by
  unfold State.tbusyFell
  refine SpendKept.trans ?_ (SpendKept.foldl State.endQuiet State.endQuiet_spent groupIds _)
  exact .of_eq rfl

end Sys2Proof.Machine
end

section
/-! SUPPORT. The examination gives a test its power, and what tests, links and calls do to the purse. -/

namespace Sys2Proof.Machine

/-! ## The examination (R150) -/

theorem Purse.Fits.waiting {V : Purse} (fit : V.Fits) (waits : Bool) : { V with waits := waits }.Fits :=
  ⟨fit.distinct, fit.asleep, fit.wakes, fit.ordered, fit.single, fit.within, fit.low⟩

theorem State.examine_purse (s : State) : s.examine.purse = { s.purse with waits := s.examine.purse.waits } := by
  have holds : s.examine.testHolding = s.testHolding := congrArg LineView.holds s.examine_lines
  obtain ⟨st, c, o, w, e⟩ := s.examine_spec
  rw [e] at holds ⊢
  exact Purse.ext rfl rfl rfl rfl rfl holds rfl

theorem State.settle_purse (s0 s : State) :
    (State.settle s0 s).purse = { s.purse with waits := (State.settle s0 s).purse.waits } := by
  have holds : (State.settle s0 s).testHolding = s.testHolding := congrArg LineView.holds (State.settle_lines s0 s)
  obtain ⟨st, c, o, w, e⟩ := State.settle_spec s0 s
  rw [e] at holds ⊢
  exact Purse.ext rfl rfl rfl rfl rfl holds rfl

/-- A test that the examination lets wait or claim has its power (R150). -/
theorem State.powered_of_examTable {s : State} {e : TestEntry} (admits : TestState.waits (s.examTable e) = true) :
    s.examPowerShort = false ∧ s.power ≠ .batteryLow := by
  unfold State.examTable at admits
  split at admits
  · cases admits
  · rename_i enough
    obtain ⟨-, -, high, -⟩ := (s.examTableFree_goes_iff e).mp ((TestState.waits_iff _).mp admits)
    exact ⟨Bool.not_eq_true _ ▸ enough, high⟩

/-- A test waits or claims after the examination only if R150's table has it do so. -/
theorem State.waits_examine {s : State} (waits : s.examine.purse.waits = true) :
    ∃ e, TestState.waits (s.examTable e) = true := by
  change TestState.waits s.examine.ten.state = true at waits
  unfold State.examine at waits
  split at waits
  · rename_i busy
    rcases busy with e | e | e <;> rw [e] at waits <;> cases waits
  · split at waits
    · rw [State.stepBack_state] at waits
      cases waits
    · rename_i e _ _
      refine ⟨e, ?_⟩
      split at waits
      · rename_i claims
        rw [claims]
        rfl
      · rwa [State.stepBack_state] at waits

theorem State.examine_powered (s : State) : s.examine.purse.Powered := by
  intro waits charged
  obtain ⟨e, admits⟩ := State.waits_examine waits
  obtain ⟨enough, high⟩ := State.powered_of_examTable admits
  rw [State.examine_purse] at charged ⊢
  have battery : s.power = .battery := by
    cases power : s.power with
    | mains => exact absurd power charged
    | battery => rfl
    | batteryLow => exact absurd power high
  exact ⟨battery, (State.examPowerShort_iff battery).mp enough⟩

/-! ## The end of a command (R150) -/

/-- After the end of a command the spending is within the allowance if it fitted before, and the test that waits had its
power or an input of the examination has changed. -/
theorem State.settle_within {s t : State} (fits : t.purse.Fits) (powered : s.examInputs = t.examInputs → t.purse.Powered) :
    SpendingWithinAllowance (State.settle s t) := by
  refine (spendingWithinAllowance_iff _).mpr ⟨?_, ?_⟩
  · rw [State.settle_purse]
    exact fits.waiting _
  · change (State.examineOnChange s t).purse.Powered
    unfold State.examineOnChange
    split
    · exact t.examine_powered
    · rename_i unchanged
      exact powered (not_not.mp (not_or.mp unchanged).2)

/-- A test that waits has its power still where the examination reads the same. -/
theorem State.powered_of_examInputs {s t : State} (inputs : s.examInputs = t.examInputs)
    (head : t.purse.waits = true → s.purse.waits = true ∧ t.cfg = s.cfg) (powered : s.purse.Powered) : t.purse.Powered := by
  intro waits charged
  obtain ⟨before, cfg⟩ := head waits
  have power : s.power = t.power := congrArg ExamInputs.power inputs
  have allowance : s.shc.a = t.shc.a := congrArg ExamInputs.a inputs
  have cost : s.purse.lineCost = t.purse.lineCost := by
    rw [← State.lineCostLeft_eq, ← State.lineCostLeft_eq]
    exact congrArg ExamInputs.cost inputs
  obtain ⟨battery, enough⟩ := powered before fun mains => charged (power.symm.trans mains)
  refine ⟨power.symm.trans battery, ?_⟩
  change t.purse.lineCost + t.cfg.pTest ≤ t.shc.a.getD 0
  rw [← cost, cfg, ← allowance]
  exact enough

/-! ## States that spend within the allowance after a command -/

/-- The second state spends within its allowance if the first does, with power for a test that waits, and no quiet has
overtaken a withdrawal; a test waits there only if it did before. -/
structure Spent (s t : State) : Prop where
  fits : s.purse.Fits → s.purse.Powered → (∀ h, ¬t.Silenced h) → t.purse.Fits
  head : t.purse.waits = true → s.purse.waits = true ∧ t.cfg = s.cfg

/-- A command clears the output first, which the purse does not show. -/
theorem SpendKept.fresh {s t : State} (kept : SpendKept s.fresh t) : SpendKept s t := ⟨kept.fits, kept.head⟩

theorem SpendKept.spent {s t : State} (kept : SpendKept s t) : Spent s t := ⟨fun fit _ _ => kept.fits fit, kept.head⟩

theorem Spent.of_eq {s t : State} (same : t.purse = s.purse) : Spent s t := (SpendKept.of_eq same).spent

theorem Spent.refl (s : State) : Spent s s := .of_eq rfl

/-- What a purse unchanged before leads to. -/
theorem Spent.of_unseen {s t u : State} (same : t.purse = s.purse) (spent : Spent t u) : Spent s u := by
  refine ⟨fun fit powered => spent.fits (same ▸ fit) (same ▸ powered), fun waits => ?_⟩
  obtain ⟨before, cfg⟩ := spent.head waits
  exact ⟨same ▸ before, cfg.trans (congrArg Purse.cfg same)⟩

/-! ## The test takes the bus (R11, R22, R151, R154) -/

/-- A test that has its power takes the bus. -/
theorem Purse.Fits.takeBus {V : Purse} (fit : V.Fits) (powered : V.Powered) (waits : V.waits = true) :
    { V with holds := true, waits := false }.Fits := by
  refine ⟨fit.distinct, fit.asleep, fit.wakes, fit.ordered, fit.single, fun charged => ?_, fun low => ?_⟩
  · obtain ⟨a, present, -⟩ := fit.within charged
    obtain ⟨-, enough⟩ := powered waits charged
    rw [present] at enough
    exact ⟨a, present, enough⟩
  · have charged : V.power ≠ .mains := fun mains => (nomatch mains.symm.trans low)
    exact nomatch (powered waits charged).1.symm.trans low

theorem State.closeRelay_spent {h : HomeId} {s : State} (holds : s.testHolding = true) : SpendKept s (s.closeRelay h) := by
  unfold State.closeRelay
  split
  · exact .of_eq rfl
  · exact .of_letGo (State.enterReleasing_purse holds ..)

theorem State.connect_spent {s : State} (waits : s.purse.waits = true) : Spent s s.connect := by
  unfold State.connect
  split
  · exact .refl s
  · rename_i e rest _
    have taken : Spent s (s.takeBus e rest) :=
      ⟨fun fit powered _ => fit.takeBus powered waits, fun waiting => Bool.noConfusion waiting⟩
    have left {t : State} (kept : SpendKept (s.takeBus e rest) t) : Spent s t :=
      ⟨fun fit powered _ => kept.fits (fit.takeBus powered waits), fun waiting => Bool.noConfusion (kept.head waiting).1⟩
    dsimp only
    split
    · exact left (.of_letGo (State.enterReleasing_purse (s := s.takeBus e rest) rfl ..))
    · have held : SpendKept (s.takeBus e rest) ((s.takeBus e rest).hold e.home) :=
        .of_enter_unpaid (State.hold_purse ..) rfl
      have emitted : SpendKept ((s.takeBus e rest).hold e.home) (((s.takeBus e rest).hold e.home).emit [.headSource .off]) :=
        .of_eq rfl
      exact left (held.trans (emitted.trans (State.closeRelay_spent (by rfl))))

theorem State.claimOut_spent (withdrawn : Bool) (s : State) : Spent s (s.claimOut withdrawn) := by
  unfold State.claimOut
  split
  · exact .of_eq rfl
  · split
    · rename_i claims
      exact State.connect_spent ((TestState.waits_iff _).mpr (.inr claims))
    · exact .refl s

end Sys2Proof.Machine
end

section
/-! SUPPORT. The start of the station, and what frames, receptions and calls do to the purse: most are not shown there. -/

namespace Sys2Proof.Machine

/-! ## The start of the station (R186, R188) -/

/-- A station that starts has no home that it pays for, and the fallback allowance on battery (R97, R106). -/
theorem startUp_fits_purse (pins : Pins) (k : Kept) (pending : List Instr) : (startUp pins k pending).purse.Fits := by
  obtain ⟨hpins, -, hcfg, home, -, -, -, -, -, hshc, -, -, hten, ⟨queue, -, -, -, -, requests, -⟩, -⟩ :=
    startUp_startsEveryBlock pins k pending
  have queued : (startUp pins k pending).purse.queue = [] := queue
  have sent (h : HomeId) : ((startUp pins k pending).purse.homes h).sent = [] := congrArg (sentTo · h) requests
  have free : (startUp pins k pending).purse.holds = false := congrArg (fun t : Ten => t.state == .connecting || t.state == .measuring) hten
  have unpaid (h : HomeId) : ((startUp pins k pending).purse.homes h).service.paid = false := by
    refine (congrArg (fun m => m.service.paid) (home h)).trans ?_
    dsimp only
    split
    · split <;> rfl
    · rfl
  obtain ⟨-, low, full, -⟩ := (loadCfg_inRange pins.mem).costs
  have ordered : (startUp pins k pending).cfg.Ordered := by
    rw [hcfg]
    exact ⟨low, full⟩
  refine ⟨queued ▸ List.nodup_nil, fun h mem => ?_, fun h wakes => ?_, ordered, fun _ h => ?_, fun charged => ?_,
    fun _ => free⟩
  · rw [queued] at mem
    cases mem
  · rw [sent] at wakes
    cases wakes
  · rw [sent]
    exact Nat.zero_le _
  · have battery : pins.mainsOk = false := by
      rw [← hpins]
      exact Bool.not_eq_true _ ▸ mt (State.power_eq_mains_iff _).mpr charged
    refine ⟨(loadCfg pins.mem).fallback, ?_, ?_⟩
    · refine (congrArg Shc.a hshc).trans ?_
      dsimp only
      rw [battery]
      rfl
    · unfold Purse.spending Purse.lineCost
      rw [free, List.map_congr_left fun h _ => Spender.cost_of_unpaid _ (unpaid h)]
      simp

theorem startUp_idle (pins : Pins) (k : Kept) (pending : List Instr) : (startUp pins k pending).purse.waits = false := by
  obtain ⟨-, -, -, -, -, -, -, -, -, -, -, -, hten, -⟩ := startUp_startsEveryBlock pins k pending
  exact congrArg (fun t : Ten => TestState.waits t.state) hten

theorem startUp_spent (s : State) (pins : Pins) (k : Kept) (pending : List Instr) :
    SpendKept s (startUp pins k pending) := by
  have idle := startUp_idle pins k pending
  exact ⟨fun _ => startUp_fits_purse pins k pending, fun waits => Bool.noConfusion (idle.symm.trans waits)⟩

theorem State.softRestart_spent (s t : State) : SpendKept t s.softRestart :=
  (startUp_spent t s.restartTest.pins.reread s.restartTest.kept s.restartTest.pending).trans (.of_eq rfl)

theorem State.restartIfLeft_spent (left : Bool) (s : State) : SpendKept s (s.restartIfLeft left) := by
  unfold State.restartIfLeft
  split
  · exact s.softRestart_spent s
  · exact .refl s

/-! ## The scheduler and bursts (R35, R36, R115) -/

@[simp] theorem State.moveOnce_purse (s : State) : s.moveOnce.purse = s.purse := by
  unfold State.moveOnce
  split
  · rfl
  · split
    · rfl
    · split <;> rfl

@[simp] theorem State.startTransfer_purse (c : OwnCall) (room : Nat) (s : State) :
    (s.startTransfer c room).purse = s.purse := by
  unfold State.startTransfer
  dsimp only
  split <;> rfl

theorem State.foldl_purse {α : Type} (f : State → α → State) (h : ∀ s x, (f s x).purse = s.purse) (l : List α)
    (s : State) : (l.foldl f s).purse = s.purse :=
  State.foldl_same State.purse f h l s

theorem State.foldr_purse {α : Type} (f : α → State → State) (h : ∀ x s, (f x s).purse = s.purse) (l : List α)
    (s : State) : (l.foldr f s).purse = s.purse := by
  induction l with
  | nil => rfl
  | cons x l ih => exact (h x _).trans ih

@[simp] theorem State.failBurst_purse (s : State) : s.failBurst.purse = s.purse := by
  unfold State.failBurst
  split
  · rfl
  · dsimp only
    split
    · refine State.foldr_purse _ (fun x t => ?_) _ _
      unfold State.returnUp
      dsimp only
      split
      · exact State.count_purse _ _ (t.release x.cells)
      · rfl
    · refine State.foldr_purse _ (fun x t => ?_) _ _
      unfold State.returnStn
      split <;> rfl
    · refine State.foldr_purse _ (fun x t => ?_) _ _
      unfold State.returnFlood
      split <;> rfl

@[simp] theorem State.sendBurst_purse (s : State) : s.sendBurst.purse = s.purse := by
  unfold State.sendBurst
  split
  · rfl
  · dsimp only
    split <;> rfl

/-! ## Frames placed (R15, R27 to R29) -/

@[simp] theorem State.placeUp_purse (h : HomeId) (f : Frame) (s : State) : (s.placeUp h f).purse = s.purse := by
  rcases s.placeUp_spec h f with ⟨r, e⟩ | ⟨-, -, e⟩ <;> rw [e]
  · exact s.count_purse h _
  · exact State.count_purse h (countUpFrame f.length) ((s.alloc f.cells).joinUp h f)

@[simp] theorem State.takeUpstream_purse (h : HomeId) (bytes : List Byte) (s : State) :
    (s.takeUpstream h bytes).purse = s.purse := by
  unfold State.takeUpstream
  dsimp only
  split
  · exact State.count_purse h _ (s.traffic h)
  · split
    · exact State.count_purse h _ (s.traffic h)
    · refine (State.placeUp_purse h _ _).trans ?_
      exact (s.traffic h).updHome_purse fun _ => ⟨rfl, rfl⟩

@[simp] theorem State.placeChecked_purse (h : HomeId) (f : Frame) (s : State) : (s.placeChecked h f).purse = s.purse := by
  unfold State.placeChecked
  split
  · exact s.count_purse ..
  · rfl

theorem State.placeDown_spent (bytes : List Byte) (s : State) (h : HomeId) : SpendKept s (s.placeDown h bytes) := by
  unfold State.placeDown
  dsimp only
  split
  · exact .of_eq (s.count_purse h _)
  · split
    · split
      · exact .of_eq (s.count_purse h _)
      · have placed (f : Frame) (ids : List FilterId) :
            SpendKept s ((s.placeChecked h f).offerWake h ids bytes.length (bytes.take 64) .uplink) :=
          .of_eq (s.placeChecked_purse h f)
        split
        · exact (placed _ _).trans (State.wakeCause_spent h _)
        · exact placed _ _
    · exact .of_eq (s.placeChecked_purse ..)

theorem State.routeFrame_spent (bytes : List Byte) (s : State) : SpendKept s (s.routeFrame bytes) := by
  have flooded : SpendKept s (s.floodFrame bytes) := by
    have last (t : State) : (t.placeFlood bytes).purse = t.purse := by
      unfold State.placeFlood
      dsimp only
      split <;> rfl
    exact (SpendKept.foldl _ (State.placeDown_spent bytes) (s.namedHomes (destinationOf bytes)) s).trans
      (.of_eq (last _))
  have stationed (i : StationId) (h : HomeId) : (s.placeStn i h bytes).purse = s.purse := by
    unfold State.placeStn
    dsimp only
    split <;> rfl
  unfold State.routeFrame
  dsimp only
  split
  · exact flooded
  · split
    · split
      · exact s.placeDown_spent bytes _
      · exact .of_eq (stationed _ _)
    · exact flooded

/-! ## Receptions (R37, R38, R49, R50, R69) -/

@[simp] theorem State.setRx_purse (r : Reception) (s : State) : (s.setRx r).purse = s.purse := rfl

@[simp] theorem State.holdDown_purse (reserve : Nat) (f : ArrivingFrame) (s : State) (h : HomeId) :
    (s.holdDown reserve f h).purse = s.purse := by
  unfold State.holdDown
  split
  · exact s.count_purse ..
  · rfl

@[simp] theorem State.openFrame_purse (r : Reception) (f : ArrivingFrame) (s : State) :
    (s.openFrame r f).purse = s.purse := by
  unfold State.openFrame
  split
  · unfold State.holdUp
    split <;> rfl
  · exact s.holdDown_purse 0 f _
  · rfl
  · rfl

@[simp] theorem State.nameCopies_purse (f : ArrivingFrame) (s : State) : (s.nameCopies f).1.purse = s.purse := by
  unfold State.nameCopies
  split
  · rfl
  · exact State.foldl_purse _ (State.holdDown_purse 64 f) _ s

@[simp] theorem State.matchFrame_purse (k : CallKind) (f : ArrivingFrame) (s : State) :
    (s.matchFrame k f).purse = s.purse := by
  refine State.foldl_purse _ (fun t h => ?_) _ s
  unfold State.matchHome
  split
  · unfold State.freeUnmatched
    dsimp only
    split
    · exact State.count_purse h _ (t.release _)
    · rfl
  · split <;> rfl

@[simp] theorem State.dataWord_purse (r : Reception) (f : ArrivingFrame) (w : Word) (ok : Bool) (s : State) :
    (s.dataWord r f w ok).purse = s.purse := by
  have ends (q : State × ArrivingFrame) (same : q.1.purse = s.purse) :
      (if q.2.length ≤ q.2.bytes.length then (q.1.fillHeld q.2).setRx r.afterFrame
        else q.1.setRx { r with stage := .frameData q.2 }).purse = s.purse := by
    split <;> exact same
  unfold State.dataWord
  refine ends _ ?_
  dsimp only
  split
  · split <;> simp
  · split <;> simp

@[simp] theorem State.takeWord_purse (r : Reception) (w : Word) (p : Bool) (s : State) :
    (s.takeWord r w p).purse = s.purse := by
  have staged (q : Reception) (ok : Bool) : (s.stageWord q w ok).purse = s.purse := by
    unfold State.stageWord
    split
    case h_3 =>
      unfold State.lengthWord
      dsimp only
      split
      · rfl
      · exact State.openFrame_purse ..
    case h_4 => exact State.dataWord_purse ..
    all_goals rfl
  unfold State.takeWord
  dsimp only
  split
  · rfl
  · exact staged _ _

@[simp] theorem State.joinHeld_purse (caller : StationId) (s : State) (x : Held) :
    (s.joinHeld caller x).purse = s.purse := by
  unfold State.joinHeld
  split
  · split <;> rfl
  · split
    · exact State.count_purse _ _ (s.release x.frame.cells)
    · rfl

theorem State.applyWake_spent (s : State) (w : PendingWake) : SpendKept s (s.applyWake w) := by
  unfold State.applyWake
  split
  · have offered : SpendKept s (s.offerWake w.home w.set w.length w.capture w.source) := .of_eq rfl
    exact offered.trans (State.wakeCause_spent w.home _)
  · exact .of_eq rfl
  · exact .refl s

theorem State.goodEnd_spent (caller : StationId) (s : State) : SpendKept s (s.goodEnd caller) := by
  unfold State.goodEnd
  dsimp only
  refine SpendKept.trans ?_ (SpendKept.foldl _ State.applyWake_spent _ _)
  refine SpendKept.trans ?_ (.of_eq (State.foldl_purse _ (State.joinHeld_purse caller) _ _))
  exact .of_eq rfl

theorem State.closeIfComplete_spent (s : State) : SpendKept s s.closeIfComplete := by
  have placed (r : Reception) : SpendKept s (s.closeGood r) := by
    unfold State.closeGood State.placeReceived
    split
    · exact .of_eq rfl
    · split <;> exact .of_eq rfl
    · have closed : SpendKept s (s.driveClose true) := .of_eq rfl
      exact closed.trans (State.goodEnd_spent _ _)
  unfold State.closeIfComplete
  split
  · split
    · split
      · exact .of_eq rfl
      · exact placed _
    · exact .refl s
  · exact .refl s

theorem State.endReception_spent (s : State) : SpendKept s s.endReception := by
  unfold State.endReception
  split
  · split
    · split
      · exact s.goodEnd_spent _
      · exact .of_eq rfl
    · split <;> exact .of_eq rfl
  · exact .of_eq rfl
  · exact .refl s

@[simp] theorem State.cutReception_purse (s : State) : s.cutReception.purse = s.purse := by
  unfold State.cutReception
  split
  · split <;> rfl
  · rfl
  · rfl

/-! ## Tests (R11, R13, R154, R157, R163) -/

@[simp] theorem State.withdrawClaim_purse (r : Option StationId) (s : State) : (s.withdrawClaim r).purse = s.purse := by
  obtain ⟨c, o, w, e⟩ := s.withdrawClaim_spec r
  rw [e]
  rfl

@[simp] theorem State.reply_purse (r : Result) (d : ReplyData) (s : State) : (s.reply r d).purse = s.purse := by
  obtain ⟨o, e, -⟩ := s.reply_spec r d
  rw [e]
  rfl

theorem State.suspend_spent (k : SuspendCause) (s : State) : SpendKept s (s.suspend k) := .of_letGo (s.suspend_purse k)

theorem State.endTest_spent (o : TestOutcome) (s : State) : SpendKept s (s.endTest o) := .of_letGo (s.endTest_purse o)

theorem State.nextStep_spent (s : State) : SpendKept s s.nextStep := by
  unfold State.nextStep
  split
  · exact .refl s
  · split
    · unfold State.startStep
      split <;> exact .of_eq rfl
    · exact s.endTest_spent _

/-- A test in CONNECTING goes on holding the bus in MEASURING (R154). -/
theorem State.measure_spent {s : State} (connecting : s.ten.state = .connecting) : SpendKept s s.measure := by
  refine SpendKept.trans (.of_eq ?_) (State.nextStep_spent _)
  have holds : s.testHolding = true := (State.testHolding_iff s).mpr (.inl connecting)
  have waits : TestState.waits s.ten.state = false := by rw [connecting]; rfl
  exact Purse.ext rfl rfl rfl rfl rfl holds.symm waits.symm

theorem State.completeStep_spent (st : TestStep) (ms : List Measurement) (s : State) :
    SpendKept s (s.completeStep st ms) := by
  have finished : SpendKept s (s.updTest (finishStep st ms)) := .of_eq rfl
  exact finished.trans (State.nextStep_spent _)

theorem State.takeReading_spent (st : TestStep) (n : Nat) (v i ac : Word) (s : State) :
    SpendKept s (s.takeReading st n v i ac) := by
  unfold State.takeReading
  dsimp only
  split
  · exact .of_eq rfl
  · refine SpendKept.trans ?_ (State.completeStep_spent _ _ _)
    split <;> exact .of_eq rfl

theorem State.abortForAdmin_spent (h : HomeId) (s : State) : SpendKept s (s.abortForAdmin h) := by
  unfold State.abortForAdmin
  split
  · split
    · exact .of_eq rfl
    · exact s.endTest_spent _
  · exact .refl s

theorem State.disableHome_spent (h : HomeId) (s : State) : SpendKept s (s.disableHome h) := by
  unfold State.disableHome
  split
  · exact .refl s
  · exact (s.abortForAdmin_spent h).trans (State.enterAdminDown_spent h _)

theorem State.enableHome_spent (h : HomeId) (s : State) : SpendKept s (s.enableHome h) := by
  unfold State.enableHome
  split
  · exact s.enterDown_spent h
  · exact .refl s

/-- The Test Engine changed in what the purse does not show. -/
theorem State.withTen_purse {T : Ten} (s : State) (same : T.state = s.ten.state) :
    State.purse { s with ten := T } = s.purse :=
  Purse.ext rfl rfl rfl rfl rfl (congrArg (fun st : TestState => st == .connecting || st == .measuring) same)
    (congrArg TestState.waits same)

@[simp] theorem State.writeRecord_purse (h : HomeId) (origin : Origin) (outcome : TestOutcome) (split : Bool)
    (meas : List Measurement) (s : State) : (s.writeRecord h origin outcome split meas).purse = s.purse := by
  obtain ⟨l, n, room, -⟩ := s.ten.makeRoom_spec
  have same : s.ten.makeRoom.1.state = s.ten.state := by rw [room]
  exact s.withTen_purse same

@[simp] theorem State.writeCancelled_purse (h : HomeId) (origin : Origin) (cause : SuspendCause) (meas : List Measurement)
    (s : State) : (s.writeCancelled h origin cause meas).purse = s.purse := by
  unfold State.writeCancelled
  split
  · rfl
  · exact State.writeRecord_purse ..

theorem Ten.requeue_state (c : CurrentTest) (cause : SuspendCause) (t : Ten) : (t.requeue c cause).state = t.state := by
  unfold Ten.requeue
  dsimp only
  split <;> rfl

@[simp] theorem State.fileTest_purse (c : CurrentTest) (s : State) : (s.fileTest c).purse = s.purse := by
  unfold State.fileTest
  split
  · exact State.writeRecord_purse ..
  · split
    · exact State.writeCancelled_purse ..
    · exact s.withTen_purse (Ten.requeue_state ..)
  · rfl

theorem State.releaseHome_spent (h : HomeId) (s : State) : SpendKept s (s.releaseHome h) := by
  unfold State.releaseHome
  split
  · rename_i held
    have emitted : SpendKept s (s.emit [.restartStrobe h]) := .of_eq rfl
    have awake : (s.emit [.restartStrobe h]).service h ≠ .sleep := fun asleep => (nomatch held.symm.trans asleep)
    exact emitted.trans (State.enterTraining_spent awake)
  · exact .refl s

theorem State.releaseBus_spent (s : State) : SpendKept s s.releaseBus := by
  unfold State.releaseBus
  dsimp only
  split
  · refine SpendKept.trans ?_ (State.tbusyFell_spent _)
    exact .of_eq rfl
  · exact .of_eq rfl

theorem State.cancelEntry_purse (e : TestEntry) (s : State) : (s.cancelEntry e).purse = s.purse := by
  have removed (t : State) : (t.removedRecord e).purse = t.purse := by
    unfold State.removedRecord
    split
    · exact State.writeCancelled_purse ..
    · rfl
  unfold State.cancelEntry
  dsimp only
  rw [removed]
  split
  · exact s.withdrawClaim_purse none
  · rfl

theorem State.cancelCurrent_spent (h : HomeId) (s : State) : SpendKept s (s.cancelCurrent h) := by
  unfold State.cancelCurrent
  split
  · split
    · exact s.endTest_spent _
    · split <;> exact .of_eq rfl
  · exact .refl s

/-- A QUIET changes no test and not the configuration (R9). -/
theorem State.quietHome_head (g : Group) (s : State) (h : HomeId) :
    ((s.quietHome g h).purse.waits, (s.quietHome g h).purse.cfg) = (s.purse.waits, s.purse.cfg) := by
  rcases s.quietHome_cases g h with ⟨m, -, -, view⟩ | ⟨-, view⟩ | ⟨-, view⟩ <;> rw [view]
  · rfl
  · rfl

theorem State.hearQuiet_head (g : Group) (ms : Nat) (s : State) :
    ((s.hearQuiet g ms).purse.waits, (s.hearQuiet g ms).purse.cfg) = (s.purse.waits, s.purse.cfg) := by
  have silenced := State.foldl_same (fun s : State => (s.purse.waits, s.purse.cfg)) (State.quietHome g)
    (State.quietHome_head g) homeIds (s.setQuietEnd g ms)
  rw [State.hearQuiet, State.quietGroup_eq]
  generalize homeIds.foldl (State.quietHome g) (s.setQuietEnd g ms) = t at silenced ⊢
  exact silenced

/-- What keeps the spending if no quiet has overtaken a withdrawal (log 61). -/
theorem Spent.of_unovertaken {s t u : State} (same : t.purse = u.purse) (kept : (∀ h, ¬u.Silenced h) → SpendKept s u)
    (head : (u.purse.waits, u.purse.cfg) = (s.purse.waits, s.purse.cfg)) : Spent s t := by
  have homes : t.spender = u.spender := congrArg Purse.homes same
  obtain ⟨waits, cfg⟩ := Prod.ext_iff.mp head
  refine ⟨fun fit _ stays => ?_, fun waiting => ?_⟩
  · rw [same]
    refine (kept fun h silenced => stays h ?_).fits fit
    obtain ⟨quiet, withdrawn⟩ := silenced
    exact ⟨(congrArg (fun f => (f h).service) homes).trans quiet, homes ▸ withdrawn⟩
  · rw [same] at waiting
    exact ⟨waits.symm.trans waiting, (congrArg Purse.cfg same).trans cfg⟩

/-- A QUIET heard (R9, R155). -/
theorem State.hearQuiet_spends (g : Group) (ms : Nat) (s : State) : Spent s (s.hearQuiet g ms) :=
  .of_unovertaken rfl State.hearQuiet_spent (s.hearQuiet_head g ms)

/-- The QUIET of the own test has gone out (R154, R155). -/
theorem State.quietOut_spent (q : QuietCall) (s : State) : Spent s (s.quietOut q) := by
  refine .of_unovertaken ?_ State.hearQuiet_spent (s.hearQuiet_head q.group q.ms)
  unfold State.quietOut
  generalize s.hearQuiet q.group q.ms = t
  dsimp only
  split <;> rfl

/-! ## Link reports (R5, R6, R8, R21) -/

theorem Ten.request_state {h : HomeId} {set : TestSet} {quiet : Bool} {origin : Origin} {t u : Ten}
    (asked : t.request h set quiet origin = some u) : u.state = t.state := by
  obtain ⟨q, rfl⟩ := Ten.request_spec asked
  rfl

@[simp] theorem State.flapRequest_purse (h : HomeId) (s : State) : (s.flapRequest h).purse = s.purse := by
  refine s.withTen_purse ?_
  cases asked : s.ten.request h ⟨true, true, true⟩ false .flap with
  | none => rfl
  | some t => exact Ten.request_state asked

theorem State.linkLoss_spent (h : HomeId) (s : State) : SpendKept s (s.linkLoss h) := by
  have counted (t : State) : (t.countLoss h).purse = t.purse := by
    have flaps (l : List Nat) (n : Nat) :
        (t.updHome h fun m => { m with flaps := l, ctr := { m.ctr with flaps := sat32 m.ctr.flaps n } }).purse = t.purse :=
      t.updHome_purse fun _ => ⟨rfl, rfl⟩
    unfold State.countLoss
    dsimp only
    split
    · exact (State.flapRequest_purse ..).trans (flaps _ 1)
    · exact flaps _ 1
  unfold State.linkLoss
  dsimp only
  split
  · exact s.enterDown_spent h
  · exact (s.enterDown_spent h).trans (.of_eq (counted _))

theorem State.applyLink_spent (h : HomeId) (st : LinkState) (s : State) : SpendKept s (s.applyLink h st) := by
  have cleared : SpendKept s (s.updHome h fun m => { m with resume := false }) :=
    .of_eq (s.updHome_purse fun _ => ⟨rfl, rfl⟩)
  have awake (down : s.service h = .down) : s.service h ≠ .sleep := by simp [down]
  unfold State.applyLink
  split
  case h_1 => exact State.enterTraining_spent (awake ‹_›)
  case h_2 => exact State.upFromDown_spent (awake ‹_›)
  case h_3 => exact State.up_spent (.inl ‹_›)
  case h_6 => exact State.up_spent (.inr ‹_›)
  case h_4 | h_5 => exact s.enterDown_spent h
  case h_7 => exact State.wakeFailed_spent .down ‹_›
  case h_8 | h_9 => exact cleared
  case h_10 | h_11 =>
    split
    · exact s.enterDown_spent h
    · exact s.linkLoss_spent h
  case h_12 | h_13 =>
    split
    · exact .refl s
    · exact s.linkLoss_spent h
  case h_14 => exact .refl s

/-! ## Calls (R61, R71, R73, R79) -/

@[simp] theorem State.loseContention_purse (s : State) : s.loseContention.purse = s.purse := by
  obtain ⟨c, q, w, e, -⟩ := s.withdrawContended_spec
  have lost : s.loseContention.purse = s.withdrawContended.purse := rfl
  rw [lost, e]
  rfl

@[simp] theorem State.win_purse (k : Contending) (s : State) : (s.win k).purse = s.purse := by
  have nothing : s.winNothing.purse = s.purse := s.loseContention_purse
  unfold State.win
  split
  case h_6 => rfl
  case h_7 =>
    unfold State.callGateway
    split
    · dsimp only
      split <;> rfl
    · rfl
  all_goals
    split
    · rfl
    · exact nothing

theorem State.actOn_spent (o : CallOutcome) (c : OwnCall) (s : State) : SpendKept s (s.actOn o c) := by
  unfold State.actOn
  split
  · exact .of_eq s.sendBurst_purse
  · exact .of_eq s.sendBurst_purse
  · exact .of_eq s.failBurst_purse
  · exact .of_eq s.failBurst_purse
  · exact .of_eq rfl
  · unfold State.orderOutcome
    split
    · dsimp only
      split <;> exact .of_eq rfl
    · exact .refl s
  · unfold State.reportOutcome
    split
    · refine SpendKept.trans ?_ (State.restartIfLeft_spent _ _)
      exact .of_eq rfl
    · exact .refl s
  · exact .refl s

theorem State.endCall_spent (o : CallOutcome) (c : OwnCall) (s : State) : SpendKept s (s.endCall o c) := by
  unfold State.endCall
  refine SpendKept.trans ?_ (State.actOn_spent _ _ _)
  exact .of_eq rfl

/-- The last word of a call without answer: a CLAIM or a QUIET is then out (R72, R151, R154). -/
theorem State.lastWordSent_spent (c : OwnCall) (s : State) : Spent s (s.lastWordSent c) := by
  have left : s.leaveCall.purse = s.purse := rfl
  unfold State.lastWordSent State.wentOut
  split
  · exact .of_eq rfl
  · refine Spent.of_unseen left ?_
    split
    · exact State.claimOut_spent _ _
    · exact State.quietOut_spent _ _
    · exact .of_eq (State.sendBurst_purse _)
    · exact .refl _

theorem State.cutOwn_spent (reset : Bool) (s : State) : SpendKept s (s.cutOwn reset) := by
  have failed : SpendKept s s.leaveCall.failBurst := .of_eq s.leaveCall.failBurst_purse
  unfold State.cutOwn
  split
  · unfold State.cutCall
    dsimp only
    split
    · exact .of_eq rfl
    · exact .of_eq rfl
    · exact .of_eq rfl
    · exact failed
    · split
      · exact failed
      · exact s.endCall_spent _ _
    · split
      · exact failed
      · exact s.endCall_spent _ _
    · exact s.endCall_spent _ _
    · exact s.endCall_spent _ _
  · exact .of_eq s.loseContention_purse
  · exact .refl s

/-! ## The round boundary (R40, R42, R146) -/

@[simp] theorem State.lostRounds_purse (s : State) : s.lostRounds.purse = s.purse := by
  unfold State.lostRounds
  split
  · rfl
  · split
    · refine (State.foldl_purse (fun t h => t.freeUp .gatewayLost h) (fun t h => t.freeUp_purse _ h) homeIds _).trans ?_
      rfl
    · rfl

@[simp] theorem State.roleChange_purse (wasWorking : Bool) (s : State) : (s.roleChange wasWorking).purse = s.purse := by
  unfold State.roleChange
  split
  · rfl
  · split <;> rfl

@[simp] theorem State.dropGiven_purse (s : State) : s.dropGiven.purse = s.purse := by
  unfold State.dropGiven
  split <;> rfl

/-- A staged tier is taken at the boundary; the services stay (R120). -/
@[simp] theorem State.upsBoundary_purse (s : State) : s.upsBoundary.purse = s.purse := by
  refine Purse.ext (funext fun h => Spender.ext ?_ ?_ rfl) rfl rfl rfl rfl rfl rfl
  · simp [State.purse, State.spender, State.service, State.home, State.upsBoundary]
  · simp [State.purse, State.spender, State.home, State.upsBoundary]

theorem State.shareBoundary_spent (s : State) : SpendKept s s.shareBoundary := by
  have calculated : SpendKept s s.bandwidthCalc := .of_eq rfl
  unfold State.shareBoundary
  dsimp only
  split
  · exact calculated
  · exact calculated.trans (State.powerRound_spent _)

end Sys2Proof.Machine
end

section
/-! SUPPORT. A mode request taken: one that was sent leaves the cost that was counted for it, one that lowers a home costs
no more. -/

namespace Sys2Proof.Machine

/-! ## What a request taken does to a home (R7, R8, R173) -/

/-- A home that a request is taken from the list of. -/
def Spender.unask (r : ModeRequest) (x : Spender) : Spender := { x with sent := x.sent.erase r }

/-- A home that takes a request. -/
def Spender.take (r : ModeRequest) (x : Spender) : Spender :=
  (x.unask r).enter (applyRequest r (x.service, x.ret)).1 (applyRequest r (x.service, x.ret)).2

/-- Only a WAKE leads out of SLEEP (R7). -/
theorem applyRequest_sleeps {r : ModeRequest} {p : Service × Option Mode} (asleep : p.1 = .sleep) (stays : r ≠ .wake) :
    applyRequest r p = p := by
  obtain ⟨st, ret⟩ := p
  cases asleep
  exact applyRequest_asleep ret stays

/-- What a SLEEP or a withdrawal makes of a home: asleep, to sleep after its quiet, or what it was (R7, R8). -/
theorem applyRequest_lowers {r : ModeRequest} (lowers : r = .sleep ∨ r = .withdraw) (st : Service) (ret : Option Mode) :
    (applyRequest r (st, ret)).1 = .sleep ∨
      (st = .quiet ∧ applyRequest r (st, ret) = (.quiet, some .sleep)) ∨ applyRequest r (st, ret) = (st, ret) := by
  rcases lowers with rfl | rfl <;> cases st <;> simp [applyRequest]

/-- A SLEEP or a withdrawal taken costs no more, whatever request other than a WAKE follows it (R7, R170). -/
theorem homeCost_lowered_le {c : Cfg} (ordered : c.Ordered) {r q : ModeRequest} (lowers : r = .sleep ∨ r = .withdraw)
    (stays : q ≠ .wake) (p : Service × Option Mode) :
    c.homeCost (applyRequest q (applyRequest r p)).1 (applyRequest q (applyRequest r p)).2 ≤
      c.homeCost (applyRequest q p).1 (applyRequest q p).2 := by
  obtain ⟨st, ret⟩ := p
  rcases applyRequest_lowers lowers st ret with asleep | ⟨rfl, quiet⟩ | same
  · have paid : st.paid = true := by
      rw [← paid_applyRequest r (st, ret), asleep]
      rfl
    rw [applyRequest_sleeps asleep stays, asleep]
    exact ordered.le_homeCost _ ((paid_applyRequest q (st, ret)).trans paid)
  · rw [quiet]
    have least := ordered.le_modeCost (ret.getD .full)
    cases q <;> simp only [applyRequest, Cfg.homeCost, Option.getD_some, Cfg.modeCost, Nat.le_refl]
    case wake => exact absurd rfl stays
    all_goals exact least
  · rw [same]

/-- A home that is sent nothing else costs after a request what was counted for it. -/
theorem Spender.cost_take_of_sent {c : Cfg} {r : ModeRequest} {x : Spender} (sent : x.sent = [r]) :
    (x.take r).cost c = x.cost c := by
  obtain ⟨st, ret, l⟩ := x
  cases sent
  unfold Spender.take Spender.enter Spender.unask Spender.cost Spender.left
  simp

/-- A request taken that was sent, or that lowers the home, costs no more (R7, R170, R173). -/
theorem Spender.cost_take_le {c : Cfg} (ordered : c.Ordered) {r : ModeRequest} {x : Spender} (short : x.sent.length ≤ 1)
    (wakes : .wake ∈ x.sent → x.service = .sleep) (allowed : r ∈ x.sent ∨ r = .sleep ∨ r = .withdraw) :
    (x.take r).cost c ≤ x.cost c := by
  by_cases sent : r ∈ x.sent
  · obtain ⟨q, single⟩ := List.length_eq_one_iff.mp (Nat.le_antisymm short (List.length_pos_of_mem sent))
    rw [single] at sent
    cases List.mem_singleton.mp sent
    exact Nat.le_of_eq (Spender.cost_take_of_sent single)
  · have lowers := allowed.resolve_left sent
    have stays : r ≠ .wake := by rcases lowers with rfl | rfl <;> decide
    unfold Spender.take Spender.unask
    rw [List.erase_of_not_mem sent]
    by_cases asleep : x.service = .sleep
    · rw [applyRequest_sleeps asleep stays]
      unfold Spender.enter
      rw [if_pos asleep]
    · have none_waits : .wake ∉ x.sent := fun waits => asleep (wakes waits)
      rw [Spender.enter_of_awake _ _ none_waits]
      have idle (p : Service × Option Mode) : applyRequest .abandon p = p := by
        obtain ⟨st, ret⟩ := p
        cases st <;> rfl
      have bare := homeCost_lowered_le ordered (q := .abandon) lowers (by decide) (x.service, x.ret)
      rw [idle, idle] at bare
      exact Spender.cost_le_of_short short bare fun q mem =>
        homeCost_lowered_le ordered lowers (fun e => none_waits (e ▸ mem)) (x.service, x.ret)

/-! ## The purse when a request is taken -/

/-- A request leaves the list of those sent to its home. -/
def Purse.unask (r : ModeRequest) (h : HomeId) (V : Purse) : Purse :=
  { V with homes := Function.update V.homes h ((V.homes h).unask r) }

/-- A home takes a request. -/
def Purse.take (r : ModeRequest) (h : HomeId) (V : Purse) : Purse := V.put h ((V.homes h).take r)

@[simp] theorem Purse.homes_unask_self (r : ModeRequest) (h : HomeId) (V : Purse) :
    (V.unask r h).homes h = (V.homes h).unask r := by
  simp [Purse.unask]

theorem Purse.homes_unask_of_ne {h k : HomeId} (r : ModeRequest) (V : Purse) (ne : k ≠ h) :
    (V.unask r h).homes k = V.homes k := by
  simp [Purse.unask, ne]

theorem Purse.put_unask (r : ModeRequest) (h : HomeId) (x : Spender) (V : Purse) : (V.unask r h).put h x = V.put h x := by
  simp [Purse.unask, Purse.put]

theorem Spender.mem_unask {r q : ModeRequest} {x : Spender} (mem : q ∈ (x.unask r).sent) : q ∈ x.sent :=
  List.mem_of_mem_erase mem

theorem Purse.Fits.take {V : Purse} (fit : V.Fits) {r : ModeRequest} {h : HomeId}
    (allowed : V.power ≠ .mains → r ∈ (V.homes h).sent ∨ r = .sleep ∨ r = .withdraw) : (V.take r h).Fits := by
  refine fit.put_cheaper Spender.wakes_enter fun charged => ⟨?_, ?_⟩
  · exact (Spender.length_enter_le ..).trans (List.length_erase_le.trans (fit.single charged h))
  · exact Spender.cost_take_le fit.ordered (fit.single charged h) (fit.wakes h) (allowed charged)

/-- A home's record changes in its state of service: the wake queue stays (R176). -/
theorem Purse.Fits.put_eq {V : Purse} (fit : V.Fits) {h : HomeId} {x : Spender} (same : x.service = (V.homes h).service) :
    V.put h x = { V with homes := Function.update V.homes h x } := by
  unfold Purse.put
  split
  · rfl
  · rename_i awake
    rw [List.erase_of_not_mem fun queued => awake (same.trans (fit.asleep h queued))]

theorem State.takeRequest_purse (r : ModeRequest) (h : HomeId) (s : State) :
    (s.takeRequest r h).purse = s.purse.unask r h := by
  refine Purse.ext (funext fun k => ?_) rfl rfl rfl rfl rfl rfl
  by_cases here : k = h
  · subst here
    rw [Purse.homes_unask_self]
    exact Spender.ext rfl rfl (sentTo_erase_self ..)
  · rw [Purse.homes_unask_of_ne _ _ here]
    exact Spender.ext rfl rfl (sentTo_erase_of_ne _ _ here)

/-- A home that a request leaves in its state of service, with a return mode. -/
theorem Purse.Fits.take_eq {V : Purse} (fit : V.Fits) {r : ModeRequest} {h : HomeId} {m : Option Mode}
    (stays : applyRequest r ((V.homes h).service, (V.homes h).ret) = ((V.homes h).service, m)) :
    V.take r h = (V.unask r h).setRet h m := by
  have enters : ((V.homes h).unask r).enter (V.homes h).service m =
      ⟨(V.homes h).service, m, ((V.homes h).unask r).sent⟩ := by
    by_cases asleep : (V.homes h).service = .sleep
    · unfold Spender.enter
      rw [if_pos asleep]
    · exact Spender.enter_of_awake _ _ fun waits => asleep (fit.wakes h (Spender.mem_unask waits))
  unfold Purse.take Spender.take
  rw [stays, enters, fit.put_eq (by rfl)]
  simp [Purse.unask, Purse.setRet, Spender.unask]

/-- A request taken: the home moves on as the request has it, and costs no more. -/
theorem SpendKept.take {s t : State} {r : ModeRequest} {h : HomeId}
    (view : s.purse.Fits → t.purse = s.purse.take r h) (head : t.ten = s.ten ∧ t.cfg = s.cfg)
    (allowed : s.power ≠ .mains → (r, h) ∈ s.bhu.requests ∧ r ≠ .abandon ∨ r = .sleep ∨ r = .withdraw) : SpendKept s t := by
  obtain ⟨test, cfg⟩ := head
  refine ⟨fun fit => ?_, fun waits => ⟨?_, cfg⟩⟩
  · rw [view fit]
    exact fit.take fun charged => (allowed charged).imp_left mem_sentTo.mpr
  · exact (congrArg (TestState.waits ∘ Ten.state) test).symm.trans waits

section Taken

variable {r : ModeRequest} {h : HomeId} {s t : State} (view : t.purse = s.purse.unask r h)
include view

/-- The home moves to another state. -/
theorem State.taken_moveTo {st : Service} (moves : applyRequest r (s.service h, (s.home h).ret) = (st, (s.home h).ret)) :
    (t.moveTo st h).purse = s.purse.take r h := by
  have ret : (t.home h).ret = (s.home h).ret := by
    have shown := congrArg (fun V => (V.homes h).ret) view
    rwa [Purse.homes_unask_self] at shown
  have taken : (s.purse.homes h).take r = ((s.purse.homes h).unask r).enter st (s.home h).ret :=
    congrArg (fun p : Service × Option Mode => ((s.purse.homes h).unask r).enter p.1 p.2) moves
  rw [State.moveTo_purse, view, ret, Purse.enter, Purse.put_unask, Purse.homes_unask_self, Purse.take, taken]

/-- The home goes to SLEEP. -/
theorem State.taken_toSleep (sleeps : applyRequest r (s.service h, (s.home h).ret) = (.sleep, none)) :
    (t.toSleep h).purse = s.purse.take r h := by
  have taken : (s.purse.homes h).take r = ((s.purse.homes h).unask r).enter .sleep none :=
    congrArg (fun p : Service × Option Mode => ((s.purse.homes h).unask r).enter p.1 p.2) sleeps
  rw [State.toSleep_purse, view, Purse.enter, Purse.put_unask, Purse.homes_unask_self, Purse.take, taken]

/-- The home goes on in QUIET with another return mode. -/
theorem State.taken_setRet (fit : s.purse.Fits) {m : Option Mode}
    (stays : applyRequest r (s.service h, (s.home h).ret) = (s.service h, m)) :
    (t.updHome h fun x => { x with ret := m }).purse = s.purse.take r h := by
  refine Eq.trans (State.updHome_purse_setRet (m := m) _ ?_) ?_
  · exact fun _ => ⟨rfl, rfl⟩
  · rw [view]
    exact (fit.take_eq stays).symm

/-- The home stays as it is. -/
theorem State.taken_same (fit : s.purse.Fits)
    (stays : applyRequest r (s.service h, (s.home h).ret) = (s.service h, (s.home h).ret)) :
    t.purse = s.purse.take r h := by
  have same : (s.purse.unask r h).setRet h (s.home h).ret = s.purse.unask r h := by
    refine Purse.ext (funext fun k => ?_) rfl rfl rfl rfl rfl rfl
    by_cases here : k = h
    · subst here
      rw [Purse.homes_setRet_self, Purse.homes_unask_self]
      rfl
    · exact Purse.homes_setRet_of_ne _ _ here
  rw [view, ← same]
  exact (fit.take_eq stays).symm

end Taken

/-- A wake abandon counts for no cost, taken or not (log 7). -/
theorem State.takeAbandon_purse (h : HomeId) (s : State) : (s.takeRequest .abandon h).purse = s.purse := by
  rw [State.takeRequest_purse]
  refine Purse.ext (funext fun k => ?_) rfl rfl rfl rfl rfl rfl
  by_cases here : k = h
  · subst here
    rw [Purse.homes_unask_self]
    exact Spender.ext rfl rfl (List.erase_of_not_mem fun mem => (mem_sentTo.mp mem).2 rfl)
  · exact Purse.homes_unask_of_ne _ _ here

end Sys2Proof.Machine
end

section
/-! SUPPORT. Every command keeps the spending within the allowance, where no quiet overtakes a withdrawal. -/

namespace Sys2Proof.Machine

/-! ## What a command answers -/

/-- What a command leads to before the examination: a purse that fits, with power for a test that waits unless an input of
the examination changes. -/
def Settles (s t : State) : Prop :=
  s.purse.Fits → s.purse.Powered → (∀ h, ¬t.Silenced h) →
    t.purse.Fits ∧ (s.examInputs = t.examInputs → t.purse.Powered)

theorem Spent.settles {s t : State} (spent : Spent s t) : Settles s t := fun fit powered stays =>
  ⟨spent.fits fit powered stays, fun inputs => State.powered_of_examInputs inputs spent.head powered⟩

/-- A test examined on the way has its power (R150). -/
theorem SpendKept.examined {s t : State} (kept : SpendKept s t) : Settles s t.examine := by
  refine fun fit _ _ => ⟨?_, fun _ => t.examine_powered⟩
  rw [State.examine_purse]
  exact (kept.fits fit).waiting _

/-- A command's answer spends within the allowance if the state before did, where no quiet overtakes a withdrawal. -/
def OutcomeSpent (s : State) : Host.Outcome State Fault Refusal → Prop
  | .next t => SpendingWithinAllowance s → NoWithdrawalOvertakenByQuiet t → SpendingWithinAllowance t
  | .fault _ | .refused _ => True

theorem noWithdrawalOvertakenByQuiet_iff (s : State) : NoWithdrawalOvertakenByQuiet s ↔ ∀ h, ¬s.Silenced h := by
  refine forall_congr' fun h => ?_
  rw [State.Silenced, not_and]
  refine imp_congr_right fun _ => not_congr ?_
  exact (mem_sentTo.trans (and_iff_left ModeRequest.noConfusion)).symm

/-- A command that ends in the examination and the standing requests. -/
theorem OutcomeSpent.concluded {s t : State} (settles : Settles s t) : OutcomeSpent s (.next (State.settle s t)) := by
  intro before stays
  obtain ⟨fit, powered⟩ := (spendingWithinAllowance_iff s).mp before
  have homes : (State.settle s t).spender = t.spender := congrArg Purse.homes (State.settle_purse s t)
  have unovertaken (h : HomeId) (silenced : t.Silenced h) : False := by
    obtain ⟨quiet, withdrawn⟩ := silenced
    refine (noWithdrawalOvertakenByQuiet_iff _).mp stays h ⟨?_, homes ▸ withdrawn⟩
    exact (congrArg (fun f => (f h).service) homes).trans quiet
  obtain ⟨fits, power⟩ := settles fit powered unovertaken
  exact State.settle_within fits power

theorem OutcomeSpent.spent {s t : State} (spent : Spent s t) : OutcomeSpent s (.next (State.settle s t)) :=
  .concluded spent.settles

/-- A command that ends so and keeps the spending whatever waits. -/
theorem OutcomeSpent.settled {s t : State} (kept : SpendKept s t) : OutcomeSpent s (.next (State.settle s t)) :=
  .spent kept.spent

/-- A command that ends so and shows no change in the purse. -/
theorem OutcomeSpent.unseen {s t : State} (same : t.purse = s.purse) : OutcomeSpent s (.next (State.settle s t)) :=
  .settled (.of_eq same)

/-- A command that ends without the examination and shows no change in the purse. -/
theorem OutcomeSpent.unsettled {s t : State} (same : t.purse = s.purse) : OutcomeSpent s (.next t) := by
  intro before _
  rw [spendingWithinAllowance_iff] at before ⊢
  exact same ▸ before

/-! ## The start (R186, R188) -/

theorem execPowerOn_spent (pins : StartPins) (s : State) : OutcomeSpent s (exec (.powerOn pins) s) := fun _ _ =>
  (spendingWithinAllowance_iff _).mpr
    ⟨startUp_fits_purse _ _ _, fun waits => Bool.noConfusion ((startUp_idle _ _ _).symm.trans waits)⟩

/-! ## Line ports (R2, R5, R15, R16) -/

theorem execRateReport_spent (h : HomeId) (up down : Word) (s : State) :
    OutcomeSpent s (execRateReport h up down s) := by
  refine .unsettled ?_
  split
  · rfl
  · exact s.fresh.updHome_purse fun _ => ⟨rfl, rfl⟩

theorem execLinkStateReport_spent (h : HomeId) (st : LinkState) (s : State) :
    OutcomeSpent s (execLinkStateReport h st s) := by
  have recorded : SpendKept s (s.fresh.updHome h fun m => { m with link := st }) :=
    .of_eq (s.fresh.updHome_purse fun _ => ⟨rfl, rfl⟩)
  exact .settled (recorded.trans (State.applyLink_spent h st _))

theorem execActivity_spent (h : HomeId) (s : State) : OutcomeSpent s (exec (.activity h) s) :=
  .settled (State.wakeCause_spent h s.fresh).fresh

theorem execWakeFailure_spent (h : HomeId) (s : State) : OutcomeSpent s (execWakeFailure h s) := by
  refine .settled (SpendKept.fresh ?_)
  split
  · rename_i waking
    exact State.wakeFailed_spent .failure waking
  · split
    · exact s.fresh.enterDown_spent h
    · exact .refl s.fresh

theorem execUpstreamFrame_spent (h : HomeId) (bytes : List Byte) (s : State) :
    OutcomeSpent s (execUpstreamFrame h bytes s) := by
  refine .unseen ?_
  split
  · rfl
  · exact s.fresh.count_purse h _
  · exact s.fresh.count_purse h _
  · exact s.fresh.takeUpstream_purse h bytes

theorem execDownstreamGiveStart_spent (h : HomeId) (ready : Bool) (s : State) :
    OutcomeSpent s (execDownstreamGiveStart h ready s) := by
  refine .unsettled ?_
  split <;> rfl

theorem execDownstreamFrameTaken_spent (h : HomeId) (s : State) :
    OutcomeSpent s (execDownstreamFrameTaken h s) := by
  refine .unseen ?_
  split
  · rfl
  · exact State.count_purse h _ _

/-! ## Mode requests (R7, R8, R173) -/

/-- FULL to a home that was sent it. -/
theorem execModeRequestFull_spent {h : HomeId} {s : State} (sent : (.full, h) ∈ s.bhu.requests) :
    OutcomeSpent s (execModeRequestFull h s) := by
  have view : (s.fresh.takeRequest .full h).purse = s.purse.unask .full h := s.fresh.takeRequest_purse .full h
  refine .settled (.take (r := .full) (h := h) (fun fit => ?_) ?_ fun _ => .inl ⟨sent, by decide⟩)
  · split
    · rename_i up
      exact State.taken_moveTo view (by rw [up]; rfl)
    · rename_i quiet
      exact State.taken_setRet view fit (by rw [quiet]; rfl)
    · rename_i low quiet
      have other : s.service h ≠ .upLow ∧ s.service h ≠ .quiet := ⟨low, quiet⟩
      exact State.taken_same view fit (by simp [applyRequest_eq, other])
  · split <;> exact ⟨rfl, rfl⟩

/-- LOW to a home that was sent it. -/
theorem execModeRequestLow_spent {h : HomeId} {s : State} (sent : (.low, h) ∈ s.bhu.requests) :
    OutcomeSpent s (execModeRequestLow h s) := by
  have view : (s.fresh.takeRequest .low h).purse = s.purse.unask .low h := s.fresh.takeRequest_purse .low h
  refine .settled (.take (r := .low) (h := h) (fun fit => ?_) ?_ fun _ => .inl ⟨sent, by decide⟩)
  · split
    · rename_i up
      exact State.taken_moveTo view (by rw [up]; rfl)
    · rename_i quiet
      exact State.taken_setRet view fit (by rw [quiet]; rfl)
    · rename_i full quiet
      have other : s.service h ≠ .upFull ∧ s.service h ≠ .quiet := ⟨full, quiet⟩
      exact State.taken_same view fit (by simp [applyRequest_eq, other])
  · split <;> exact ⟨rfl, rfl⟩

theorem execModeRequestSleep_spent (h : HomeId) (s : State) : OutcomeSpent s (execModeRequestSleep h s) := by
  have view : (s.fresh.takeRequest .sleep h).purse = s.purse.unask .sleep h := s.fresh.takeRequest_purse .sleep h
  refine .settled (.take (r := .sleep) (h := h) (fun fit => ?_) ?_ fun _ => .inr (.inl rfl))
  · split
    · rename_i up
      exact State.taken_toSleep view (by rw [up]; rfl)
    · rename_i up
      exact State.taken_toSleep view (by rw [up]; rfl)
    · rename_i trains
      exact State.taken_toSleep view (by rw [trains]; rfl)
    · rename_i quiet
      exact State.taken_setRet view fit (by rw [quiet]; rfl)
    · rename_i full low training quiet
      have other : s.service h ≠ .upFull ∧ s.service h ≠ .upLow ∧ s.service h ≠ .training ∧ s.service h ≠ .quiet := ⟨full, low, training, quiet⟩
      exact State.taken_same view fit (by simp [applyRequest_eq, other])
  · split <;> exact ⟨rfl, rfl⟩

/-- WAKE to a home that was sent it. -/
theorem execModeRequestWake_spent {h : HomeId} {s : State} (sent : (.wake, h) ∈ s.bhu.requests) :
    OutcomeSpent s (execModeRequestWake h s) := by
  have view : (s.fresh.takeRequest .wake h).purse = s.purse.unask .wake h := s.fresh.takeRequest_purse .wake h
  refine .settled (.take (r := .wake) (h := h) (fun fit => ?_) ?_ fun _ => .inl ⟨sent, by decide⟩)
  · split
    · rename_i asleep
      exact State.taken_moveTo ((State.count_purse ..).trans view) (by rw [asleep]; rfl)
    · rename_i awake
      have other : s.service h ≠ .sleep := awake
      exact State.taken_same view fit (by simp [applyRequest_eq, other])
  · split <;> exact ⟨rfl, rfl⟩

/-- A withdrawn home goes to SLEEP and to the head of the wake queue. -/
theorem execWakeWithdrawRequest_spent (h : HomeId) (s : State) : OutcomeSpent s (execWakeWithdrawRequest h s) := by
  have view : (s.fresh.takeRequest .withdraw h).purse = s.purse.unask .withdraw h := s.fresh.takeRequest_purse .withdraw h
  have slept (sleeps : applyRequest .withdraw (s.service h, (s.home h).ret) = (.sleep, none)) :
      SpendKept s (((s.fresh.takeRequest .withdraw h).toSleep h).wakeHead h) := by
    have taken : SpendKept s ((s.fresh.takeRequest .withdraw h).toSleep h) :=
      .take (r := .withdraw) (fun _ => State.taken_toSleep view sleeps) ⟨rfl, rfl⟩ fun _ => .inr (.inr rfl)
    exact taken.trans (State.wakeHead_spent (State.service_toSleep ..))
  refine .settled ?_
  split
  · rename_i waking
    exact slept (by rw [waking]; rfl)
  · rename_i up
    exact slept (by rw [up]; rfl)
  · rename_i waking full
    refine .take (r := .withdraw) (h := h) (fun fit => ?_) ⟨rfl, rfl⟩ fun _ => .inr (.inr rfl)
    have other : s.service h ≠ .waking ∧ s.service h ≠ .upFull := ⟨waking, full⟩
    exact State.taken_same view fit (by simp [applyRequest_eq, other])

theorem execWakeAbandonRequest_spent (h : HomeId) (s : State) : OutcomeSpent s (execWakeAbandonRequest h s) := by
  have taken : SpendKept s (s.fresh.takeRequest .abandon h) := .of_eq (State.takeAbandon_purse h s.fresh)
  refine .settled (taken.trans ?_)
  split
  · rename_i waking
    exact State.wakeFailed_spent .timeLimit waking
  · exact .refl _

end Sys2Proof.Machine
end

section
/-! SUPPORT. The commands of the bus, the tests, the gateway and the power lines keep the spending. -/

namespace Sys2Proof.Machine

/-! ## STORM (R19, R20, R22) -/

theorem State.stormRose_spent (s : State) : SpendKept s s.stormRose := by
  have opened : SpendKept s { s with lpb := { s.lpb with relay := none } } := .of_eq rfl
  exact opened.trans (State.suspend_spent .storm _)

theorem execSurge_spent (h : HomeId) (s : State) : OutcomeSpent s (execSurge h s) := by
  have held : SpendKept s ((s.fresh.count h fun c => { c with surges := sat32 c.surges 1 }).startHold h) :=
    .of_eq (s.fresh.count_purse h fun c => { c with surges := sat32 c.surges 1 })
  refine .settled ?_
  split
  · exact .of_eq rfl
  · dsimp only
    split
    · exact held
    · exact held.trans (State.stormRose_spent _)

theorem execStormHoldExpiry_spent (s : State) : OutcomeSpent s (execStormHoldExpiry s) := by
  refine .unseen ?_
  split
  · dsimp only
    split <;> rfl
  · rfl

theorem execStormRise_spent (s : State) : OutcomeSpent s (execStormRise s) := by
  refine .settled ?_
  split
  · exact .of_eq rfl
  · exact SpendKept.of_unseen (by rfl) (State.stormRose_spent _)

theorem execStormFall_spent (s : State) : OutcomeSpent s (execStormFall s) := by
  refine .unseen ?_
  split <;> rfl

/-! ## The cabinet bus -/

theorem execCbBsyRise_spent (s : State) : OutcomeSpent s (execCbBsyRise s) := by
  refine .unsettled ?_
  split <;> rfl

theorem execContendStart_spent (s : State) : OutcomeSpent s (execContendStart s) := by
  refine .unsettled ?_
  split <;> rfl

theorem execContendMidpoint_spent (d8 : Bool) (s : State) : OutcomeSpent s (execContendMidpoint d8 s) := by
  refine .unseen ?_
  split
  · exact State.loseContention_purse s.fresh
  · rfl

theorem execContendWindowEnd_spent (ids : Byte) (s : State) : OutcomeSpent s (execContendWindowEnd ids s) := by
  have lost : s.fresh.loseContention.purse = s.purse := State.loseContention_purse s.fresh
  refine .unseen ?_
  split
  · split
    · exact lost
    · rfl
    · split
      · exact State.win_purse _ s.fresh
      · exact lost
    · rfl
  · rfl

theorem execCallWord_spent (w : Word) (parity : Bool) (s : State) : OutcomeSpent s (execCallWord w parity s) := by
  have taken : (s.fresh.takeCall w).purse = s.purse := by
    unfold State.takeCall
    dsimp only
    split
    · split <;> rfl
    · rfl
  refine .unseen ?_
  split
  · split
    · rfl
    · split
      · rfl
      · exact taken
  · rfl

theorem execAnswerWord_spent (w : Word) (parity : Bool) (s : State) : OutcomeSpent s (execAnswerWord w parity s) := by
  refine .settled (SpendKept.fresh ?_)
  split
  · split
    · split
      · split
        · exact .of_eq (State.startTransfer_purse _ _ s.fresh)
        · split <;> exact State.endCall_spent _ _ s.fresh
      · exact State.endCall_spent _ _ s.fresh
    · split <;> exact .of_eq rfl
    · exact .of_eq rfl
  · exact .of_eq rfl

theorem execAnswerWindowExpiry_spent (s : State) : OutcomeSpent s (execAnswerWindowExpiry s) := by
  refine .settled (SpendKept.fresh ?_)
  split
  · exact State.endCall_spent _ _ s.fresh
  · exact .of_eq rfl

theorem execCloseWord_spent (w : Word) (parity : Bool) (s : State) :
    OutcomeSpent s (execCloseWord w parity s) := by
  refine .settled (SpendKept.fresh ?_)
  split
  · split <;> exact State.endCall_spent _ _ s.fresh
  · split <;> exact .of_eq rfl
  · exact .of_eq rfl

theorem execCloseWindowExpiry_spent (s : State) : OutcomeSpent s (execCloseWindowExpiry s) := by
  refine .settled (SpendKept.fresh ?_)
  split
  · exact State.endCall_spent _ _ s.fresh
  · exact .of_eq rfl

theorem execTransferWordSent_spent (s : State) : OutcomeSpent s (execTransferWordSent s) := by
  refine .spent ?_
  split
  · split
    · exact .of_eq rfl
    · dsimp only
      split
      · exact Spent.of_unseen (by rfl) (State.lastWordSent_spent _ _)
      · exact .of_eq rfl
  · exact .of_eq rfl

theorem execTransferWordReceived_spent (w : Word) (parity : Bool) (s : State) :
    OutcomeSpent s (execTransferWordReceived w parity s) := by
  refine .settled ?_
  split
  · refine SpendKept.trans (.of_eq ?_) (State.closeIfComplete_spent _)
    rw [State.takeWord_purse]
    rfl
  · exact .of_eq rfl

theorem execBadCloseTimeout_spent (s : State) : OutcomeSpent s (execBadCloseTimeout s) := by
  refine .unseen ?_
  split
  · split <;> rfl
  · rfl

theorem execCbBsyFall_spent (s : State) : OutcomeSpent s (execCbBsyFall s) := by
  refine .settled ?_
  split
  · exact .of_eq rfl
  · refine (SpendKept.trans ?_ (State.endReception_spent _)).trans ((State.cutOwn_spent false _).trans (.of_eq rfl))
    exact .of_eq rfl

theorem execBusReset_spent (s : State) : OutcomeSpent s (execBusReset s) := by
  refine .settled ?_
  split
  · exact .of_eq rfl
  · refine SpendKept.trans ?_ ((State.cutOwn_spent true _).trans (.of_eq rfl))
    exact .of_eq (State.cutReception_purse s.fresh)

theorem execBusWatchdogExpiry_spent (s : State) : OutcomeSpent s (execBusWatchdogExpiry s) := by
  refine .unsettled ?_
  split <;> rfl

theorem execQuietGap_spent (s : State) : OutcomeSpent s (execQuietGap s) := by
  refine .unsettled ?_
  split <;> rfl

theorem execSelfCheckStart_spent (s : State) : OutcomeSpent s (execSelfCheckStart s) := by
  refine .unsettled ?_
  split <;> rfl

theorem execSelfCheckEnd_spent (readBack : List (Word × Bool)) (s : State) :
    OutcomeSpent s (execSelfCheckEnd readBack s) := by
  refine .unseen ?_
  split
  · exact (State.reply_purse _ _ _).trans rfl
  · rfl

/-! ## Peers, claims, quiets -/

theorem execNoticeHeard_spent (caller : StationId) (n : Notice) (s : State) :
    OutcomeSpent s (execNoticeHeard caller n s) := by
  refine .unseen ?_
  split <;> rfl

/-- A test that steps back from its claim goes on waiting (R151). -/
theorem State.unclaim_purse {s : State} (r : Option StationId) (claims : s.ten.state = .claiming) :
    State.purse { s.withdrawClaim r with ten := { (s.withdrawClaim r).ten with state := .waiting } } = s.purse := by
  obtain ⟨c, o, w, e⟩ := s.withdrawClaim_spec r
  rw [e]
  have free : s.testHolding = false := by
    unfold State.testHolding
    rw [claims]
    rfl
  have waits : TestState.waits s.ten.state = true := by
    rw [claims]
    rfl
  exact Purse.ext rfl rfl rfl rfl rfl free.symm waits.symm

theorem execClaimHeard_spent (caller : StationId) (h : HomeId) (g : Group) (s : State) :
    OutcomeSpent s (execClaimHeard caller h g s) := by
  refine .settled ?_
  split
  · rename_i claims
    exact .of_eq (State.unclaim_purse (some caller) claims)
  · split
    · exact SpendKept.of_unseen (by rfl) (State.endTest_spent _ _)
    · exact .of_eq rfl

theorem execQuietHeard_spent (g : Group) (ms : Word) (s : State) : OutcomeSpent s (execQuietHeard g ms s) :=
  .spent (Spent.of_unseen (by rfl) (State.hearQuiet_spends _ _ _))

theorem execClaimWithdrawalSettled_spent (s : State) : OutcomeSpent s (execClaimWithdrawalSettled s) := by
  refine .concluded ?_
  split
  · rename_i w _
    split
    · exact (Spent.of_eq rfl).settles
    · dsimp only
      split
      · rename_i claims
        have waiting : s.ten.state = .waiting := by
          simp only [State.claimsAnyway, Bool.and_eq_true, beq_iff_eq] at claims
          exact claims.1.1.2
        refine (Spent.of_unseen ?_ (State.connect_spent ?_)).settles
        · rfl
        · exact (TestState.waits_iff _).mpr (.inl waiting)
      · split
        · exact SpendKept.examined (.of_eq rfl)
        · exact (Spent.of_eq rfl).settles
  · exact (Spent.of_eq rfl).settles

theorem execTbusyRise_spent (s : State) : OutcomeSpent s (execTbusyRise s) := by
  refine .unseen ?_
  split
  · rename_i claims
    exact State.unclaim_purse none claims.2
  · rfl

theorem execTbusyFall_spent (s : State) : OutcomeSpent s (execTbusyFall s) := by
  refine .settled ?_
  split
  · exact SpendKept.of_unseen (by rfl) (State.tbusyFell_spent _)
  · exact .of_eq rfl

/-! ## The round boundary, credit, moves (R40, R112, R121) -/

theorem execRoundBoundary_spent (s : State) : OutcomeSpent s (execRoundBoundary s) := by
  have aged : SpendKept s s.fresh.upsBoundary := .of_eq s.fresh.upsBoundary_purse
  have viewed : SpendKept s s.fresh.upsBoundary.choose.watches := aged.trans (.of_eq rfl)
  have counted := viewed.trans (.of_eq (State.lostRounds_purse _))
  have latched (t : State) : SpendKept t (t.roleChange s.working).latch := .of_eq (State.roleChange_purse s.working t)
  exact .concluded (counted.trans ((latched _).trans (State.shareBoundary_spent _))).examined

theorem execCreditIntervalEnd_spent (s : State) : OutcomeSpent s (execCreditIntervalEnd s) := .unseen rfl

theorem execMove_spent (s : State) : OutcomeSpent s (execMove s) := by
  refine .unseen ?_
  split
  · exact s.fresh.moveOnce_purse
  · rfl

/-! ## The gateway -/

theorem execUplinkStateChange_spent (up : Bool) (s : State) : OutcomeSpent s (execUplinkStateChange up s) := by
  have cut (t : State) : t.cutGiving.purse = t.purse := by
    unfold State.cutGiving
    split
    · rfl
    · rfl
    · exact t.dropGiven_purse
  refine .unseen ?_
  split
  · exact cut _
  · rfl

theorem execTransmitterStart_spent (s : State) : OutcomeSpent s (execTransmitterStart s) := by
  refine .unsettled ?_
  split
  · split
    · split <;> rfl
    · rfl
  · rfl

theorem execUplinkFrameTaken_spent (s : State) : OutcomeSpent s (execUplinkFrameTaken s) := by
  refine .settled ?_
  split
  · exact .of_eq rfl
  · unfold State.queueFrameSent
    split
    · exact .of_eq rfl
    · exact .of_eq (State.dropGiven_purse s.fresh)
  · refine SpendKept.trans ?_ (State.restartIfLeft_spent _ _)
    exact .of_eq rfl

theorem execUplinkFrameReceived_spent (bytes : List Byte) (err : Bool) (s : State) :
    OutcomeSpent s (execUplinkFrameReceived bytes err s) := by
  have managed (t : State) : (t.manage bytes).purse = t.purse := by
    unfold State.manage
    split
    · rfl
    · dsimp only
      split
      · rfl
      · split
        · rfl
        · unfold State.offerOrder
          split <;> rfl
  refine .settled ?_
  split
  · exact .of_eq rfl
  · split
    · exact .of_eq rfl
    · dsimp only
      split
      · exact .of_eq (managed _)
      · exact SpendKept.of_unseen (by rfl) (State.routeFrame_spent _ _)

theorem execAddressAgeTick_spent (s : State) : OutcomeSpent s (execAddressAgeTick s) := by
  refine .unsettled ?_
  split <;> rfl

theorem execManagementOrderHandoff_spent (s : State) : OutcomeSpent s (execManagementOrderHandoff s) := by
  refine .unseen ?_
  split
  · split <;> rfl
  · rfl

theorem execOwnReportPass_spent (s : State) : OutcomeSpent s (execOwnReportPass s) := by
  refine .unseen ?_
  split
  · dsimp only
    split <;> rfl
  · rfl

/-! ## Power lines and timers (R106, R169, R179) -/

/-- A test that holds the bus is suspended in BATTERY_LOW (R164). -/
theorem State.enterLow_free {s : State} (low : s.enterLow.power = .batteryLow) : s.enterLow.testHolding = false := by
  unfold State.enterLow at low ⊢
  split
  · exact congrArg Purse.holds (State.suspend_purse .power s)
  · rename_i high
    rw [if_neg high] at low
    exact absurd low high

theorem State.enterLow_head (s : State) : s.enterLow.purse.waits = s.purse.waits ∧ s.enterLow.cfg = s.cfg := by
  unfold State.enterLow
  split
  · have view := State.suspend_purse .power s
    exact ⟨(congrArg Purse.waits view).trans rfl, (congrArg Purse.cfg view).trans rfl⟩
  · exact ⟨rfl, rfl⟩

/-- A battery that enters, or runs low, has the spending fitted anew (R106, R164). -/
theorem SpendKept.enterLow_powerRound {s t : State} (cfg : t.cfg = s.cfg) (waits : t.purse.waits = s.purse.waits)
    (queue : s.supply.QueueSleeps → t.supply.QueueSleeps) : SpendKept s t.enterLow.powerRound := by
  obtain ⟨sameWaits, sameCfg⟩ := t.enterLow_head
  refine .powerRound (sameCfg.trans cfg) (fun waiting => ?_) fun fit => ⟨?_, State.enterLow_free⟩
  · exact (sameWaits.trans waits).symm.trans waiting
  · rw [State.enterLow_supply]
    exact queue fit.queueSleeps

theorem execMainsOkFall_spent (s : State) : OutcomeSpent s (execMainsOkFall s) := by
  refine .settled ?_
  split
  · exact .enterLow_powerRound rfl rfl fun queue => ⟨queue.distinct, queue.asleep⟩
  · exact .of_eq rfl

theorem execBattLowRise_spent (s : State) : OutcomeSpent s (execBattLowRise s) := by
  refine .settled ?_
  split
  · rename_i same
    refine .of_eq (Purse.ext rfl rfl ?_ rfl rfl rfl rfl)
    rcases same with low | mains
    · simp [State.purse, State.power, State.fresh, show s.pins.battLow = true from low]
    · simp [State.purse, State.power, State.fresh, show s.pins.mainsOk = true from mains]
  · exact .enterLow_powerRound rfl rfl fun queue => ⟨queue.distinct, queue.asleep⟩

/-- A battery that is low no more: the bound stays, and no test was held (R169). -/
theorem Purse.Fits.recharge {V : Purse} (fit : V.Fits) {p : PowerMode} (same : p ≠ .mains → V.power ≠ .mains)
    (high : p ≠ .batteryLow) : { V with power := p }.Fits :=
  ⟨fit.distinct, fit.asleep, fit.wakes, fit.ordered, fun charged => fit.single (same charged),
    fun charged => fit.within (same charged), fun low => absurd low high⟩

theorem execBattLowFall_spent (s : State) : OutcomeSpent s (execBattLowFall s) := by
  refine .settled (.of_purse rfl rfl id fun fit => ?_)
  refine fit.recharge (p := State.power { s.fresh with pins := { s.fresh.pins with battLow := false } }) (fun charged => ?_) ?_
  · rw [Ne, State.power_eq_mains_iff] at charged
    exact mt (State.power_eq_mains_iff s).mp charged
  · unfold State.power
    split <;> simp

/-- On the return to mains WAKEs go to sleeping homes only (R179). -/
theorem State.serveOnMains_wakes {s : State} (queue : s.supply.QueueSleeps)
    (sent : ∀ h, (.wake, h) ∈ s.bhu.requests → s.service h = .sleep) {h : HomeId}
    (mem : (.wake, h) ∈ s.serveOnMains.bhu.requests) : s.service h = .sleep := by
  rcases List.mem_append.mp mem with before | woken
  · rcases List.mem_append.mp before with old | raised
    · exact sent h old
    · obtain ⟨k, -, e⟩ := List.mem_map.mp raised
      cases e
  · obtain ⟨k, queued, e⟩ := List.mem_map.mp woken
    cases e
    exact (State.served_sleeps queue).2 h (List.mem_of_mem_filter queued)

theorem execMainsOkRise_spent (s : State) : OutcomeSpent s (execMainsOkRise s) := by
  refine .settled ?_
  split
  · exact .of_eq rfl
  · have recalled (queue : s.supply.QueueSleeps) :
        (State.recall { s.fresh with pins := { s.fresh.pins with mainsOk := true } }).supply.QueueSleeps :=
      (State.recall_supplied _).queue ⟨queue.distinct, queue.asleep⟩
    refine .on_mains rfl (fun queue => State.serveOnMains_leads (recalled queue)) rfl rfl fun queue sent h mem => ?_
    exact State.serveOnMains_wakes (recalled queue) (fun k old => sent k (List.mem_of_mem_filter old)) mem

theorem execWakeTimeLimit_spent (h : HomeId) (s : State) : OutcomeSpent s (execWakeTimeLimit h s) := by
  refine .unseen ?_
  split
  · refine Purse.ext (funext fun k => Spender.ext rfl rfl ?_) rfl rfl rfl rfl rfl rfl
    exact (sentTo_append s.bhu.requests [(.abandon, h)] k).trans (by simp [sentTo_cons, State.purse, State.spender])
  · rfl

end Sys2Proof.Machine
end

section
/-! SUPPORT. The orders and the steps of a test keep the spending, and so does every command that was sent. -/

namespace Sys2Proof.Machine

/-! ## Orders (R182) -/

theorem State.execute_spent {code args : Nat} {homeArg : Bool} {f : Order → State → State} (s : State)
    (effect : ∀ o t, SpendKept t (f o t)) :
    OutcomeSpent s (.next (State.settle s (s.execute code args homeArg f))) := by
  refine .settled (SpendKept.fresh ?_)
  unfold State.execute
  dsimp only
  split
  · split
    · exact .of_eq (State.reply_purse _ _ s.fresh)
    · exact effect _ s.fresh
  · exact .of_eq rfl

/-- A reply after what the view does not show. -/
theorem State.reply_spent {s t : State} (r : Result) (d : ReplyData) (same : t.purse = s.purse) :
    SpendKept s (t.reply r d) :=
  .of_eq ((State.reply_purse r d t).trans same)

theorem execOrderStart_spent (s : State) : OutcomeSpent s (execOrderStart s) := by
  refine .unseen ?_
  split
  · split <;> rfl
  · rfl

theorem execLineStatus_spent (s : State) : OutcomeSpent s (execLineStatus s) := by
  refine State.execute_spent s fun o t => ?_
  split <;> exact State.reply_spent _ _ rfl

theorem execReadCounters_spent (s : State) : OutcomeSpent s (execReadCounters s) := by
  refine State.execute_spent s fun o t => ?_
  split
  · exact State.reply_spent _ _ rfl
  · have replied (d : ReplyData) : SpendKept t (t.reply .done d) := State.reply_spent .done d rfl
    dsimp only
    split
    · exact (replied _).trans (.of_eq (State.updHome_purse _ fun _ => ⟨rfl, rfl⟩))
    · exact replied _

theorem execSetTier_spent (s : State) : OutcomeSpent s (execSetTier s) :=
  State.execute_spent s fun _ _ => State.reply_spent _ _ rfl

theorem execLineAdmin_spent (s : State) : OutcomeSpent s (execLineAdmin s) := by
  refine State.execute_spent s fun o t => ?_
  dsimp only
  split
  · exact State.reply_spent _ _ rfl
  · split
    · exact State.reply_spent _ _ rfl
    · refine SpendKept.trans ?_ (State.reply_spent _ _ rfl)
      split
      · exact t.disableHome_spent _
      · exact t.enableHome_spent _

theorem execTestLine_spent (s : State) : OutcomeSpent s (execTestLine s) := by
  refine State.execute_spent s fun o t => ?_
  dsimp only
  split
  · exact State.reply_spent _ _ rfl
  · split
    · exact State.reply_spent _ _ rfl
    · split
      · exact State.reply_spent _ _ rfl
      · exact State.reply_spent _ _ (t.withTen_purse (Ten.request_state ‹_›))

theorem execCancelTest_spent (s : State) : OutcomeSpent s (execCancelTest s) := by
  refine State.execute_spent s fun o t => SpendKept.trans ?_ (State.reply_spent _ _ rfl)
  refine SpendKept.trans ?_ (State.cancelCurrent_spent _ _)
  split
  · exact .of_eq (t.cancelEntry_purse _)
  · exact .refl t

theorem execReadResults_spent (s : State) : OutcomeSpent s (execReadResults s) :=
  State.execute_spent s fun _ _ => State.reply_spent _ _ (by rfl)

theorem execStageVolumeStep_spent (s : State) : OutcomeSpent s (execStageVolumeStep s) := by
  refine State.execute_spent s fun o t => ?_
  dsimp only
  split <;> exact State.reply_spent _ _ rfl

theorem execClearVolumeSteps_spent (s : State) : OutcomeSpent s (execClearVolumeSteps s) :=
  State.execute_spent s fun _ _ => State.reply_spent _ _ rfl

theorem execNewAccountingPeriod_spent (s : State) : OutcomeSpent s (execNewAccountingPeriod s) :=
  State.execute_spent s fun _ _ => State.reply_spent _ _ rfl

theorem execWriteFilter_spent (s : State) : OutcomeSpent s (execWriteFilter s) := by
  refine State.execute_spent s fun o t => ?_
  dsimp only
  split
  · exact State.reply_spent _ _ rfl
  · split
    · exact State.reply_spent _ _ rfl
    · split <;> exact State.reply_spent _ _ rfl

theorem execFilterEnable_spent (s : State) : OutcomeSpent s (execFilterEnable s) := by
  refine State.execute_spent s fun o t => ?_
  dsimp only
  split <;> exact State.reply_spent _ _ rfl

theorem execReadPeers_spent (s : State) : OutcomeSpent s (execReadPeers s) :=
  State.execute_spent s fun _ _ => State.reply_spent _ _ rfl

theorem execBusSelfCheck_spent (s : State) : OutcomeSpent s (execBusSelfCheck s) := by
  refine State.execute_spent s fun o t => ?_
  split <;> exact .of_eq rfl

theorem execRestart_spent (s : State) : OutcomeSpent s (execRestart s) :=
  State.execute_spent s fun _ t => .of_eq (State.reply_purse .done .restarting t)

theorem execUnknownOrder_spent (s : State) : OutcomeSpent s (execUnknownOrder s) :=
  State.execute_spent s fun _ _ => State.reply_spent _ _ rfl

theorem execRestartLimitExpiry_spent (s : State) : OutcomeSpent s (execRestartLimitExpiry s) := by
  refine .settled ?_
  split
  · exact State.softRestart_spent _ s
  · exact .of_eq rfl

/-! ## Test steps -/

theorem execRelaySettleEnd_spent (s : State) : OutcomeSpent s (execRelaySettleEnd s) := by
  refine .settled (SpendKept.fresh ?_)
  split
  · rename_i connecting _
    split
    · exact .of_eq rfl
    · exact State.measure_spent connecting
  · exact .of_eq rfl

theorem execQuietSettleEnd_spent (s : State) : OutcomeSpent s (execQuietSettleEnd s) := by
  refine .settled (SpendKept.fresh ?_)
  split
  · rename_i connecting _
    exact State.measure_spent connecting
  · exact .of_eq rfl

theorem execStepSettleEnd_spent (s : State) : OutcomeSpent s (execStepSettleEnd s) := by
  refine .unsettled ?_
  split <;> rfl

theorem execHeadReadResponse_spent (v i ac : Word) (ready : Bool) (s : State) :
    OutcomeSpent s (execHeadReadResponse v i ac ready s) := by
  refine .settled (SpendKept.fresh ?_)
  split
  · split
    · exact State.takeReading_spent _ _ v i ac s.fresh
    · exact .of_eq rfl
  · exact .of_eq rfl

theorem execHeadReadTimeout_spent (s : State) : OutcomeSpent s (execHeadReadTimeout s) := by
  refine .settled (SpendKept.fresh ?_)
  split
  · exact State.endTest_spent _ s.fresh
  · exact .of_eq rfl

theorem execCrossRise_spent (s : State) : OutcomeSpent s (execCrossRise s) := by
  refine .unsettled ?_
  split <;> rfl

theorem execCrossFall_spent (s : State) : OutcomeSpent s (execCrossFall s) := by
  refine .settled ?_
  split
  · exact SpendKept.of_unseen (by rfl) (State.completeStep_spent _ _ _)
  · exact .of_eq rfl

theorem execCapTimeout_spent (s : State) : OutcomeSpent s (execCapTimeout s) := by
  refine .settled ?_
  split
  · exact SpendKept.of_unseen (by rfl) (State.completeStep_spent _ _ _)
  · exact SpendKept.of_unseen (by rfl) (State.completeStep_spent _ _ _)
  · exact .of_eq rfl

/-- A test that is over leaves the Test Engine idle (R163, step 6). -/
theorem State.idle_spent (c : Option CurrentTest) (s : State) :
    SpendKept s { s with ten := { s.ten with state := .idle, current := c } } := by
  have view : State.purse { s with ten := { s.ten with state := .idle, current := c } } =
      { s.purse with holds := false, waits := false } := rfl
  exact .of_purse view rfl (fun waits => Bool.noConfusion waits) fun fit => fit.letGo.waiting false

theorem execReleaseSettleEnd_spent (s : State) : OutcomeSpent s (execReleaseSettleEnd s) := by
  have released (p : Prop) [Decidable p] (h : HomeId) :
      SpendKept s.fresh (if p then s.fresh else s.fresh.releaseHome h) := by
    split
    · exact .refl _
    · exact State.releaseHome_spent h s.fresh
  refine .settled (SpendKept.fresh ?_)
  split
  · rename_i c _ _
    have freed := (released (c.outcome = some .abortedAdmin) c.home).trans (State.releaseBus_spent _)
    exact (freed.trans (.of_eq (State.fileTest_purse c _))).trans (State.idle_spent none _)
  · exact .refl s.fresh

/-! ## Every command, every step -/

/-- A FULL, LOW or WAKE is one that the unit has sent (R7, R173). -/
def State.Sent (s : State) (c : Instr) : Prop := ∀ h,
  (c = .modeRequestFull h → (.full, h) ∈ s.bhu.requests) ∧ (c = .modeRequestLow h → (.low, h) ∈ s.bhu.requests) ∧
    (c = .modeRequestWake h → (.wake, h) ∈ s.bhu.requests)

theorem exec_spent (c : Instr) (s : State) (sent : s.Sent c) : OutcomeSpent s (exec c s) := by
  cases c with
  | powerOn pins => exact execPowerOn_spent pins s
  | linkStateReport h st => exact execLinkStateReport_spent h st s
  | rateReport h up down => exact execRateReport_spent h up down s
  | wakeFailure h => exact execWakeFailure_spent h s
  | upstreamFrame h bytes => exact execUpstreamFrame_spent h bytes s
  | downstreamGiveStart h ready => exact execDownstreamGiveStart_spent h ready s
  | downstreamFrameTaken h => exact execDownstreamFrameTaken_spent h s
  | modeRequestFull h => exact execModeRequestFull_spent ((sent h).1 rfl)
  | modeRequestLow h => exact execModeRequestLow_spent ((sent h).2.1 rfl)
  | modeRequestSleep h => exact execModeRequestSleep_spent h s
  | modeRequestWake h => exact execModeRequestWake_spent ((sent h).2.2 rfl)
  | wakeWithdrawRequest h => exact execWakeWithdrawRequest_spent h s
  | wakeAbandonRequest h => exact execWakeAbandonRequest_spent h s
  | surge h => exact execSurge_spent h s
  | stormHoldExpiry => exact execStormHoldExpiry_spent s
  | stormRise => exact execStormRise_spent s
  | stormFall => exact execStormFall_spent s
  | cbBsyRise => exact execCbBsyRise_spent s
  | contendStart => exact execContendStart_spent s
  | contendMidpoint d8 => exact execContendMidpoint_spent d8 s
  | contendWindowEnd ids => exact execContendWindowEnd_spent ids s
  | callWord w parity => exact execCallWord_spent w parity s
  | answerWord w parity => exact execAnswerWord_spent w parity s
  | answerWindowExpiry => exact execAnswerWindowExpiry_spent s
  | transferWordSent => exact execTransferWordSent_spent s
  | transferWordReceived w parity => exact execTransferWordReceived_spent w parity s
  | badCloseTimeout => exact execBadCloseTimeout_spent s
  | closeWord w parity => exact execCloseWord_spent w parity s
  | closeWindowExpiry => exact execCloseWindowExpiry_spent s
  | cbBsyFall => exact execCbBsyFall_spent s
  | noticeHeard caller n => exact execNoticeHeard_spent caller n s
  | claimHeard caller h g => exact execClaimHeard_spent caller h g s
  | quietHeard g ms => exact execQuietHeard_spent g ms s
  | claimWithdrawalSettled => exact execClaimWithdrawalSettled_spent s
  | quietGap => exact execQuietGap_spent s
  | busWatchdogExpiry => exact execBusWatchdogExpiry_spent s
  | busReset => exact execBusReset_spent s
  | selfCheckStart => exact execSelfCheckStart_spent s
  | selfCheckEnd readBack => exact execSelfCheckEnd_spent readBack s
  | roundBoundary => exact execRoundBoundary_spent s
  | creditIntervalEnd => exact execCreditIntervalEnd_spent s
  | move => exact execMove_spent s
  | uplinkStateChange up => exact execUplinkStateChange_spent up s
  | transmitterStart => exact execTransmitterStart_spent s
  | uplinkFrameTaken => exact execUplinkFrameTaken_spent s
  | uplinkFrameReceived bytes err => exact execUplinkFrameReceived_spent bytes err s
  | addressAgeTick => exact execAddressAgeTick_spent s
  | managementOrderHandoff => exact execManagementOrderHandoff_spent s
  | ownReportPass => exact execOwnReportPass_spent s
  | orderStart => exact execOrderStart_spent s
  | lineStatus => exact execLineStatus_spent s
  | readCounters => exact execReadCounters_spent s
  | setTier => exact execSetTier_spent s
  | lineAdmin => exact execLineAdmin_spent s
  | testLine => exact execTestLine_spent s
  | cancelTest => exact execCancelTest_spent s
  | readResults => exact execReadResults_spent s
  | stageVolumeStep => exact execStageVolumeStep_spent s
  | clearVolumeSteps => exact execClearVolumeSteps_spent s
  | newAccountingPeriod => exact execNewAccountingPeriod_spent s
  | writeFilter => exact execWriteFilter_spent s
  | filterEnable => exact execFilterEnable_spent s
  | readPeers => exact execReadPeers_spent s
  | busSelfCheck => exact execBusSelfCheck_spent s
  | restart => exact execRestart_spent s
  | unknownOrder => exact execUnknownOrder_spent s
  | restartLimitExpiry => exact execRestartLimitExpiry_spent s
  | relaySettleEnd => exact execRelaySettleEnd_spent s
  | quietSettleEnd => exact execQuietSettleEnd_spent s
  | stepSettleEnd => exact execStepSettleEnd_spent s
  | headReadResponse v i ac ready => exact execHeadReadResponse_spent v i ac ready s
  | headReadTimeout => exact execHeadReadTimeout_spent s
  | crossRise => exact execCrossRise_spent s
  | crossFall => exact execCrossFall_spent s
  | capTimeout => exact execCapTimeout_spent s
  | releaseSettleEnd => exact execReleaseSettleEnd_spent s
  | tbusyRise => exact execTbusyRise_spent s
  | tbusyFall => exact execTbusyFall_spent s
  | mainsOkFall => exact execMainsOkFall_spent s
  | mainsOkRise => exact execMainsOkRise_spent s
  | battLowRise => exact execBattLowRise_spent s
  | wakeTimeLimit h => exact execWakeTimeLimit_spent h s
  | quietEndExpiry g => exact .settled (s.fresh.endQuiet_spent g).fresh
  | holdTimeLimit => exact .settled (s.fresh.endTest_spent _).fresh
  | activity h => exact execActivity_spent h s
  | battLowFall => exact execBattLowFall_spent s
  | idleTimerExpiry h => exact .unseen rfl
  | excuseWindowExpiry => exact .unsettled rfl

theorem step_spent {s t : State} (sent : RaisesAreSent s) (stepped : step s = .next t) :
    SpendingWithinAllowance s → NoWithdrawalOvertakenByQuiet t → SpendingWithinAllowance t := by
  unfold step at stepped
  split at stepped
  · cases stepped
    exact OutcomeSpent.unsettled (t := s.observeBus) rfl
  · rename_i c rest pending
    have front : s.pending.head? = some c := by
      rw [pending]
      rfl
    have spent := exec_spent c { s with pending := rest } fun h => sent h c front
    rw [stepped] at spent
    exact spent

/-- Settles O59: every command that was sent, and the tick, leads from a purse within the allowance, with power for a test
that waits, to such a purse. -/
theorem spendingStaysWithinAllowance : Obligations.SpendingStaysWithinAllowance :=
  fun _ _ within sent stepped stays => step_spent sent stepped within stays

end Sys2Proof.Machine
end
